-- ==== Sys2Proof/Word.lean ====
section
/-! DEFINITION. Bytes, byte strings, and the tables (sorted lists of key and value) that hold the unit's sparse state. -/

namespace Sys2Proof

/-- One byte. -/
abbrev Byte := BitVec 8

/-- A byte string, lowest address first. -/
abbrev Bytes := List Byte

/-- A table: key and value pairs, keys strictly rising. A key that is not listed reads as the default that the reader names. -/
abbrev Tab (α : Type) := List (Nat × α)

end Sys2Proof
end

