-- ==== Sys2Proof/Syntax.lean ====
section
/-! DEFINITION. The commands of the unit: one constructor of `Instr` per row of opcode_table.json, with the row's operands.
A row whose summary says "a write of object ..." is one dictionary request served for a presenter (`Src`); the other rows are events:
what the environment hands in with an event (bytes read from the host, a response, a time) is the row's operand. -/

namespace Sys2Proof

/-- A host port: Port A or Port B (R299). -/
inductive HPort where
  | a
  | b
  deriving DecidableEq, Repr, Inhabited

/-- Who presents a dictionary request to the service (R42): the mailbox of a port, the side-band, the Peer Gateway (R264),
or, on unit 0 in DOUBLET, the bridge (R286). -/
inductive Src where
  | mbox (p : HPort)
  | sideband
  | peer
  | forwarded
  deriving DecidableEq, Repr, Inhabited

/-- The two masters of R26: H covers both mailboxes, S is the side-band. -/
inductive Master where
  | h
  | s
  deriving DecidableEq, Repr, Inhabited

/-- The two BARs that decode registers (R305). -/
inductive Bar where
  | bar0
  | bar2
  | rom
  deriving DecidableEq, Repr, Inhabited

/-- Which pin takes the unit into reset (R15); `alwaysOn` is the loss of always-on power, which R351 says also loses the sticky bits. -/
inductive ResetPin where
  | rstN
  | pwrgood
  | alwaysOn
  deriving DecidableEq, Repr, Inhabited

/-- Clock sources with a ready count (R338). -/
inductive ClkSrc where
  | firc
  | xref0
  | xref1
  | pll (k : Nat)
  deriving DecidableEq, Repr, Inhabited

/-- How a read of the unit's on host, pool or far memory ends. -/
inductive RdResult where
  | data (bs : Bytes)
  | ur
  | ca
  | poison
  | timeout
  | linkDown
  deriving DecidableEq, Repr, Inhabited

/-- How one outstanding request of the tracker is answered (R132): read data, a write acknowledgement, or an error CLASS of R126. -/
inductive ReqAnswer where
  | data (bs : Bytes)
  | ack
  | err (cls : Nat)
  deriving DecidableEq, Repr, Inhabited

/-- The outcome of an ATS Translation Completion (R76): the translated page, its size and the permissions granted, or UR/CA/timeout. -/
inductive AtsResult where
  | page (pa size : Nat) (r w : Bool)
  | failed
  deriving DecidableEq, Repr, Inhabited

/-- A PRI page request response code (R77). -/
inductive PriCode where
  | success
  | invalid
  | failure
  deriving DecidableEq, Repr, Inhabited

/-- A side of a move node. -/
inductive Side where
  | src
  | dst
  deriving DecidableEq, Repr, Inhabited

/-- The bits of an inbound peer packet header (R260, R261). -/
inductive PktOp where
  | read
  | write
  | other
  deriving DecidableEq, Repr, Inhabited

/-- A transport of the SPDM responder (R384): the DOE of a port or the side-band. -/
inductive Transport where
  | doe (p : HPort)
  | sideband
  deriving DecidableEq, Repr, Inhabited

/-- Registers of configuration space that a CONFIG_WRITE row can name (R303, R304, R313, R316). -/
inductive CfgReg where
  | command
  | powerState
  | maxPayload
  | maxReadReq
  | relaxedOrder
  | idoRequest
  | completionTimeout
  | ptmEnable
  | priEnable
  | priAllocation
  | cxlCache
  | aspm
  | bar0
  | bar2
  | romBar
  | aerUncorrectable
  | aerCorrectable
  | other
  deriving DecidableEq, Repr, Inhabited

/-- What kind of link error a port received (the first and eighth rows of R315). -/
inductive LinkErr where
  | correctable
  | malformedTlp
  | flowControl
  | receiverOverflow
  | dataLink
  | unexpectedCompletion
  deriving DecidableEq, Repr, Inhabited

/-- The kinds of mirrored entries (R287, object 0x4910.01). -/
inductive MirrorKind where
  | space
  | pattern
  | table
  | lapidary
  | package
  deriving DecidableEq, Repr, Inhabited

/-- The result of a model measurement read-out (R386): the two range contents read, program and weights. -/
inductive MeasureResult where
  | contents (program weights : Bytes)
  | badRange (r : Nat)
  deriving DecidableEq, Repr, Inhabited

/-- What the other unit's Geode forwards in DOUBLET (R103, R104): grains whose accesses it counted, promotion requests (true for a write
resolve), requests for frames of this die, and frames of this die that return. Grains are named by Space, segment and number. -/
structure GeoMsg where
  counts : List (Nat × Nat × Nat)
  asks : List (Nat × Nat × Nat × Bool)
  takes : List (Nat × Nat × Nat)
  backs : List Nat
  deriving DecidableEq, Repr, Inhabited

/-- One constructor per row of opcode_table.json, in the table's order. `src` is the presenter of a dictionary request, `tag` its TAG
(R29); `now` is the Carillon value at which a timed event happens. -/
inductive Instr where
  | unitPwrgoodAssert
  | unitReset (pin : ResetPin)
  | resetRelease
  | sourceReady (s : ClkSrc)
  | storeLoad (copyA copyB : Bytes)
  | bootClockSwitch (kclk : Bool) (count : Nat)
  | xrefReadyTimeout (x : Bool) (now : Nat)
  | firmwareRelease
  | firmwareVerifyFailAtReset (reason : Nat)
  | modeRequest (src : Src) (tag v : Nat)
  | roughSettled
  | roughExit (src : Src) (tag v : Nat)
  | mboxGo (p : HPort)
  | mboxAck (p : HPort)
  | protoErrClear (p : HPort)
  | registerWrite (p : HPort) (bar : Bar) (off size value : Nat)
  | sidebandMessage (body : Bytes)
  | read (src : Src) (tag index sub len : Nat)
  | write (src : Src) (tag index sub : Nat) (payload : Bytes)
  | describe (src : Src) (tag index sub len : Nat)
  | readSeg (src : Src) (tag index sub len off : Nat)
  | writeSeg (src : Src) (tag index sub off flags : Nat) (payload : Bytes)
  | domainStageTimeout (m : Master) (index sub now : Nat)
  | readViewTimeout (m : Master) (index sub now : Nat)
  | setEndpointId (eid : Nat)
  | getEndpointId
  | getMctpVersionSupport
  | getMessageTypeSupport
  | getVendorDefinedMessageSupport
  | configCommit (src : Src) (tag v : Nat)
  | configCommitComplete (ok : Bool)
  | spaceCreate (src : Src) (tag sp : Nat)
  | spaceGoLive (src : Src) (tag sp : Nat)
  | spaceInvalidate (src : Src) (tag sp : Nat)
  | spaceRetire (src : Src) (tag sp : Nat)
  | segmentDescriptorWrite (src : Src) (tag sp n : Nat) (payload : Bytes)
  | bumpCounterFree (id : Nat)
  | bumpDrainComplete (id : Nat)
  | bumpFlushReadComplete (id : Nat)
  | drainAlertExpiry (id now : Nat)
  | atsInvalidateRequest (p : HPort) (itag : Nat) (pasid : Option Nat)
  | facetLoadBuild (src : Src) (tag : Nat) (payload : Bytes)
  | facetLoadFill (src : Src) (tag : Nat) (payload : Bytes)
  | facetLoadComplete (r : RdResult)
  | cutJobGrant (cutter q e n : Nat) (side : Side) (idx : List Nat)
  | facetCacheMissReturn (cutter line : Nat)
  | cutListRetry (cutter : Nat)
  | atsTranslationCompletion (cutter : Nat) (r : AtsResult)
  | priPageResponse (p : HPort) (page : Nat) (code : PriCode)
  | sideCutComplete (cutter : Nat)
  | nodeRecut (q e n : Nat)
  | faultTimeoutExpiry (q e n now : Nat)
  | mapBuildFillDone
  | promotionTokenAccrue
  | promotionStart (other : Option Nat)
  | promotionCopyComplete (sp seg grain : Nat)
  | promotionCopyFail (sp seg grain : Nat)
  | sweepVisit (list : Nat)
  | writeBackComplete (sp seg grain : Nat)
  | writeBackFail (sp seg grain : Nat)
  | writeBackRequest (src : Src) (tag : Nat) (payload : Bytes)
  | grainProbeRequest (src : Src) (tag : Nat) (payload : Bytes)
  | quarantineTimeExpiry (now : Nat)
  | farDecayVisit
  | tallyForward (inbound : Option GeoMsg)
  | geodeStateAck (sp seg grain : Nat) (change : Option Nat)
  | nodeBind (q e n : Nat)
  | strokeIssue (ch : Nat)
  | requestResponse (id : Nat) (r : ReqAnswer)
  | strokeComplete (ch sd k : Nat)
  | strokeErrorRetryable (ch sd k cls : Nat)
  | strokeRetryReissue (ch : Nat)
  | strokeErrorFatal (ch sd k cls : Nat)
  | channelResume (src : Src) (tag ch v : Nat)
  | paceAtTickMet (q e n now : Nat)
  | pacePeriodDue (ch now : Nat)
  | paceAfterChannelMet (q e n : Nat)
  | markFire (q e n : Nat) (half : Bool)
  | scaleBankWrite (p : HPort) (off size value : Nat)
  | tableDefine (src : Src) (tag t : Nat)
  | tableUndefine (src : Src) (tag t : Nat)
  | manifestPost (src : Src) (tag : Nat) (payload : Bytes)
  | manifestApplyStart
  | manifestHeaderArrive (r : RdResult)
  | grainOpen (seg grain : Nat)
  | rowPullComplete (row : Nat) (r : RdResult) (oldHeader : Nat)
  | manifestApplied
  | commitStart (now : Nat)
  | commitSweepStep
  | publishAck
  | releaseSweepStep (t : Nat)
  | refreshStallAlert (t now : Nat)
  | lapidaryAbortRequest (src : Src) (tag t : Nat)
  | doorbellWrite (p : HPort) (q size value : Nat)
  | producerValueTake (lane : Nat)
  | ringFetchIssue
  | ringReadComplete (q : Nat) (r : RdResult)
  | completionFlushReadComplete (q e : Nat)
  | queueCreate (src : Src) (tag q : Nat)
  | queueResume (src : Src) (tag q : Nat)
  | queueDestroy (src : Src) (tag q : Nat)
  | queueReattach (src : Src) (tag q : Nat)
  | watchdogExpiry (q e now : Nat)
  | patternRegister (src : Src) (tag p : Nat)
  | patternCheckComplete (p : Nat)
  | patternRetire (src : Src) (tag p : Nat)
  | patternClear (src : Src) (tag p : Nat)
  | admissionStart (pipe : Nat)
  | admissionReadsArrive (q e : Nat) (patch handles : RdResult)
  | joinBetweenBoundaries (slot : Nat)
  | stepBoundary (slot now : Nat)
  | waitTickReached (q e n now : Nat)
  | fenceNodeComplete (q e n : Nat)
  | runDispatch (cluster : Nat)
  | runResult (cluster core word : Nat)
  | redispatchWaitExpiry (q e n now : Nat)
  | abortWaitExpiry (cluster core now : Nat)
  | switchPointBoundExpiry (slot now : Nat)
  | saveComplete (q e : Nat)
  | restoreComplete (q e : Nat)
  | bootstrapCopy
  | bootstrapFill
  | bootstrapDescriptor
  | bootstrapRun
  | bootstrapWait
  | bootstrapDigest
  | inboundPacket (node fabric len : Nat) (op : PktOp) (payload : Bytes)
  | inboundResponse (id : Nat) (r : ReqAnswer)
  | peerWindowCommit (src : Src) (tag v : Nat)
  | peerRequestTimeout (id now : Nat)
  | windowEnable (src : Src) (tag w : Nat)
  | windowDisable (src : Src) (tag w : Nat)
  | snoop (p : HPort) (addr : Nat) (invalidate : Bool)
  | lineReadComplete (p : HPort) (addr : Nat) (line : Bytes)
  | windowResume (p : HPort)
  | bridgeUp
  | joinMessage (stepping version : Nat)
  | joinReady (reason : Nat) (partnerTick : Nat)
  | joinTick (now : Nat)
  | joinTimeout (now : Nat)
  | bridgeFlush
  | flushDone
  | keepalive (now : Nat)
  | bridgeLossTimeout (now : Nat)
  | partnerFatal
  | partnerDrained
  | forwardedWrite (answer : Option Nat) (tag index sub : Nat) (payload : Bytes)
  | mirrorUpdate (k : MirrorKind) (num seq : Nat) (content : Bytes)
  | mirrorAck (k : MirrorKind) (num : Nat)
  | mirrorAudit (k : MirrorKind) (num seq : Nat) (digest : Bytes)
  | perstAssert (p : HPort)
  | perstDeassert (p : HPort)
  | hotReset (p : HPort)
  | linkDown (p : HPort)
  | lossOfLightTimeout (p : HPort) (now : Nat)
  | linkUp (p : HPort) (rate width : Nat)
  | linkRecovery (p : HPort)
  | initiateFlr (p : HPort)
  | bmeClear (p : HPort)
  | d3hotEntry (p : HPort)
  | configWrite (p : HPort) (reg : CfgReg) (v : Nat)
  | portAttach (src : Src) (tag : Nat) (p : HPort)
  | portDetach (src : Src) (tag : Nat) (p : HPort)
  | completionTimeout (id now : Nat)
  | l0pEntry (p : HPort) (now : Nat)
  | l1Entry (p : HPort) (now : Nat)
  | linkPowerExit (p : HPort)
  | opticalPoll (p : HPort) (light faults temp state now : Nat)
  | opticalEngineFault (p : HPort) (lanes width : Nat)
  | romRead (p : HPort) (off len : Nat)
  | carillonNowLowRead (p : HPort)
  | carillonNowHighRead (p : HPort)
  | intxMgmtClear (p : HPort)
  | ptmRequest (now : Nat)
  | ptmResponse (master now : Nat)
  | ppsEdge (now : Nat)
  | timeStep (src : Src) (tag v : Nat)
  | align (src : Src) (tag v : Nat)
  | holdoverEntryExpiry (now : Nat)
  | monitorWindowEnd (m count : Nat)
  | pllStart (src : Src) (tag k : Nat)
  | pllStop (src : Src) (tag k : Nat)
  | pllLockTimeout (k now : Nat)
  | domainSourceWrite (src : Src) (tag d v : Nat)
  | muxSwitchDone (d : Nat)
  | meterRequest (src : Src) (tag : Nat) (payload : Bytes)
  | meterWindowEnd (count : Nat)
  | meterStall
  | clockEnableSet (src : Src) (tag v : Nat)
  | clockEnableClear (src : Src) (tag v : Nat)
  | tocsinEvent (n element level detail : Nat)
  | graceTimerExpiry (n now : Nat)
  | tocsinWindowClose (n now : Nat)
  | sourceAck (src : Src) (tag n : Nat)
  | clearSticky (src : Src) (tag n : Nat)
  | clearAllSticky (src : Src) (tag v : Nat)
  | maskWrite (src : Src) (tag n v : Nat)
  | telemetrySample (temp : Int) (power now : Nat)
  | rotResponse (tag status : Nat) (payload : Bytes)
  | rotTimeout (now : Nat)
  | stageRequest (src : Src) (tag : Nat) (payload : Bytes)
  | stageWriteComplete (r : RdResult)
  | firmwareVerify (src : Src) (tag : Nat)
  | verifyComplete (flashOk : Bool)
  | firmwareActivate (src : Src) (tag : Nat)
  | firmwareDiscard (src : Src) (tag : Nat)
  | activationLoadChecked (ok : Bool)
  | activationWindowClose
  | counterRaiseRetry (now : Nat)
  | modelMeasureRequest (src : Src) (tag v : Nat)
  | modelMeasureComplete (r : MeasureResult)
  | tenancyAttach (src : Src) (tag : Nat)
  | tenancyEnd (src : Src) (tag : Nat)
  | tenancyScrub (src : Src) (tag : Nat)
  | drainLimitExpiry (now : Nat)
  | scrubComplete
  | ideCheckFailure (p : HPort) (stream : Nat)
  | getVersion (t : Transport)
  | getCapabilities (t : Transport)
  | negotiateAlgorithms (t : Transport)
  | getDigests (t : Transport)
  | getCertificate (t : Transport) (slot off len : Nat)
  | challenge (t : Transport) (slot : Nat)
  | getMeasurements (t : Transport) (block : Nat)
  | keyExchange (t : Transport)
  | finish (t : Transport)
  | endSession (t : Transport)
  | spdmHeartbeat (t : Transport)
  | keyUpdate (t : Transport)
  | ideQuery (p : HPort)
  | keyProg (p : HPort) (stream : Nat) (keySet : Bool) (key : Nat)
  | kSetGo (p : HPort) (stream : Nat) (keySet : Bool)
  | kSetStop (p : HPort) (stream : Nat) (keySet : Bool)
  | linkError (p : HPort) (kind : LinkErr)
  | ptmResponseTimeout (now : Nat)
  | bootstrapDigestComplete
  | bootstrapReadComplete (r : RdResult)
  deriving DecidableEq, Repr, Inhabited

end Sys2Proof
end

