-- ==== Sys2Proof/Machine/Bits.lean ====
section
/-! DEFINITION. Bit fields, little-endian values and tables (R4): the helpers every other file uses. -/

namespace Sys2Proof.Machine

/-- Bits `[lo + w - 1 : lo]` of a value. -/
def bits (v lo w : Nat) : Nat := v / 2 ^ lo % 2 ^ w

/-- Bit `i` of a value. -/
def bit (v i : Nat) : Bool := v / 2 ^ i % 2 == 1

/-- 1 for true. -/
def b2n (b : Bool) : Nat := if b then 1 else 0

/-- A value with bits `[lo + w - 1 : lo]` replaced. -/
def setBits (v lo w x : Nat) : Nat := v - bits v lo w * 2 ^ lo + x % 2 ^ w * 2 ^ lo

/-- A value with bit `i` set or cleared. -/
def setBit (v i : Nat) (b : Bool) : Nat := setBits v i 1 (b2n b)

/-- The `n` bytes from byte `o` of a little-endian value (R4). -/
def fld (v o n : Nat) : Nat := v / 256 ^ o % 256 ^ n

/-- A little-endian value with the `n` bytes from byte `o` replaced. -/
def setFld (v o n x : Nat) : Nat := v - fld v o n * 256 ^ o + x % 256 ^ n * 256 ^ o

/-- A value with every byte cleared that lies in none of the listed fields (offset, width in bytes). -/
def keepFields (fs : List (Nat × Nat)) (v : Nat) : Nat := fs.foldl (fun a f => a + fld v f.1 f.2 * 256 ^ f.1) 0

/-- A value with every bit cleared that lies in none of the listed fields (first bit, width in bits). -/
def keepBits (fs : List (Nat × Nat)) (v : Nat) : Nat := fs.foldl (fun a f => a + bits v f.1 f.2 * 2 ^ f.1) 0

/-- A record packed from its fields, lowest first: (value, width in bytes). -/
def pack : List (Nat × Nat) → Nat
  | [] => 0
  | (v, n) :: fs => v % 256 ^ n + 256 ^ n * pack fs

/-- A record packed from bit fields, lowest first: (value, width in bits). -/
def packBits : List (Nat × Nat) → Nat
  | [] => 0
  | (v, n) :: fs => v % 2 ^ n + 2 ^ n * packBits fs

/-- The value of a byte string, lowest byte first (R4). -/
def leNat : Bytes → Nat
  | [] => 0
  | b :: bs => b.toNat + 256 * leNat bs

/-- The `n` bytes of a value, lowest first (R4). -/
def leBytes (n v : Nat) : Bytes :=
  match n with
  | 0 => []
  | k + 1 => BitVec.ofNat 8 v :: leBytes k (v / 256)

/-- The lowest set bit of `m` among `n` bits from bit `i`, if there is one. -/
def lowBit (m i : Nat) : Nat → Option Nat
  | 0 => none
  | n + 1 => if bit m i then some i else lowBit m (i + 1) n

/-- How many of the `n` lowest bits are set. -/
def popcount (m : Nat) : Nat → Nat
  | 0 => 0
  | n + 1 => b2n (bit m n) + popcount m n

/-- A two's complement value of `w` bits as an integer. -/
def sext (w v : Nat) : Int := if v % 2 ^ w < 2 ^ (w - 1) then (v % 2 ^ w : Nat) else (v % 2 ^ w : Nat) - (2 ^ w : Nat)

/-- An integer as `w` bits in two's complement. -/
def toTwos (w : Nat) (i : Int) : Nat := (i % (2 ^ w : Nat)).toNat

/-- Round up to a multiple. -/
def roundUp (v m : Nat) : Nat := (v + m - 1) / m * m

/-- Do two extents (base, length) share a byte? -/
def overlaps (b1 l1 b2 l2 : Nat) : Bool := l1 != 0 && l2 != 0 && b1 < b2 + l2 && b2 < b1 + l1

/-- Look a key up. -/
def tget {α : Type} (t : Tab α) (k : Nat) : Option α :=
  match t with
  | [] => none
  | (j, v) :: r => if j = k then some v else tget r k

/-- Look a key up, with the value an unlisted key reads as. -/
def tgetD {α : Type} (t : Tab α) (k : Nat) (d : α) : α := (tget t k).getD d

/-- Write a key; keys stay strictly rising. -/
def tset {α : Type} (t : Tab α) (k : Nat) (v : α) : Tab α :=
  match t with
  | [] => [(k, v)]
  | (j, w) :: r => if k < j then (k, v) :: (j, w) :: r else if k = j then (k, v) :: r else (j, w) :: tset r k v

/-- Remove a key. -/
def tdel {α : Type} (t : Tab α) (k : Nat) : Tab α :=
  match t with
  | [] => []
  | (j, w) :: r => if j = k then tdel r k else (j, w) :: tdel r k

/-- Write a key in a table whose unlisted keys read as `d`: a key that comes to hold `d` is removed, so that equal tables are equal
data. -/
def tput {α : Type} [DecidableEq α] (t : Tab α) (d : α) (k : Nat) (v : α) : Tab α :=
  if v = d then tdel t k else tset t k v

/-- Change a listed key's value. -/
def tmod {α : Type} (t : Tab α) (k : Nat) (f : α → α) : Tab α :=
  t.map fun p => if p.1 = k then (p.1, f p.2) else p

/-- Does a table's key order hold: strictly rising? -/
def tsorted {α : Type} : Tab α → Bool
  | [] => true
  | (_, _) :: [] => true
  | (j, _) :: (k, v) :: r => j < k && tsorted ((k, v) :: r)

/-- `n` consecutive numbers from `i`. -/
def upFrom (i : Nat) : Nat → List Nat
  | 0 => []
  | n + 1 => i :: upFrom (i + 1) n

/-- The first element of a list that has the property, starting the search at a rotating pointer `p` over `n` requesters (R21). -/
def rotate (p n : Nat) (ok : Nat → Bool) : Option Nat :=
  ((upFrom p (n - p)) ++ upFrom 0 (min p n)).find? ok

/-- The least of a list of numbers. -/
def least : List Nat → Option Nat
  | [] => none
  | x :: r => some (r.foldl min x)

/-- The next requester of a rotating pointer `p` among requesters known by numbers: the least number from `p` on, else the least (R21). -/
def nextKey (p : Nat) (ks : List Nat) : Option Nat :=
  match least (ks.filter (p ≤ ·)) with
  | some k => some k
  | none => least ks

/-- Replace the first element that has the property. -/
def lmod {α : Type} (l : List α) (ok : α → Bool) (f : α → α) : List α :=
  match l with
  | [] => []
  | x :: r => if ok x then f x :: r else x :: lmod r ok f

/-- Remove the first element that has the property. -/
def ldel {α : Type} (l : List α) (ok : α → Bool) : List α :=
  match l with
  | [] => []
  | x :: r => if ok x then r else x :: ldel r ok

/-- Saturating addition. -/
def satAdd (lim a b : Nat) : Nat := min lim (a + b)

end Sys2Proof.Machine
end

