-- ==== Sys2Proof/Config.lean ====
section
/-! DEFINITION. What the spec fixes outside its own text (per product, per part) and the free values: opaque constants, so that no
proof can rest on a number. -/

namespace Sys2Proof.Config

/-- The PCI Vendor ID, given in the product data sheet and not in the spec (R425). -/
opaque pciVendorId : BitVec 16

/-- The PCI Device ID, given in the product data sheet and not in the spec (R425). -/
opaque pciDeviceId : BitVec 16

/-- Free values: the n-th value that the spec leaves open (UNVERIFIED: nothing constrains it; see the assumption log). -/
opaque freeValue : Nat → BitVec 64

/-- The position of this VX5 on the peer fabric, from which the fabric gives its units their node numbers (R255, log 7). -/
opaque fabricPlace : BitVec 32
/-- The distance between the node numbers of the two units (R255, log 7). -/
opaque fabricGap : BitVec 32

/-- The fabric node number of a unit (R255): any two different numbers below 0xFFFF for the two units. -/
def fabricNode (unit1 : Bool) : Nat :=
  if unit1 then (fabricPlace.toNat % 65535 + 1 + fabricGap.toNat % 65534) % 65535 else fabricPlace.toNat % 65535

/-- The frame lists of the other die, its object 0x3500.01 (R58, R85, R86). Each unit holds its own layout, and the spec does not say how a unit knows
the other's: the model takes it as fixed and unknown (DESIGN CHOICE, log 131). -/
opaque otherLists : BitVec 512

/-- Object 0x3500.02 of the other die. -/
opaque otherWorking : BitVec 128

/-- Object 0x3500.03 of the other die. -/
opaque otherStructure : BitVec 128

/-- The bundle that bank 0 of the external flash holds when the unit is first powered (R373): the spec does not give it. -/
opaque flashBundle : Bytes

/-- The digest of the recovery loader in the boot ROM (measurement block 7, R385): the spec does not give it. -/
opaque loaderDigest : BitVec 384

end Sys2Proof.Config
end

