-- ==== Sys2Proof/Machine/State.lean ====
section
/-! DEFINITION. The state of one unit as plain data, chapter by chapter: every register, table, queue, counter, mode and pin that the
spec gives the unit, the queue of waiting commands, and the state after reset. Object values are little-endian numbers (R4). -/

namespace Sys2Proof.Machine

/-- One value per host port. -/
structure Two (α : Type) where
  a : α
  b : α
  deriving DecidableEq, Repr, Inhabited

/-! The object index (R24, R25, R26, R27). -/

/-- The fixed attributes of the objects `sub` to `subEnd` of an index: type code (R25), size in bytes, access of H and of S
(0 none, 1 r, 2 w, 3 rw), default, persistence class (0 V, 1 K, 2 C). -/
structure ObjRow where
  sub : Nat
  subEnd : Nat
  typ : Nat
  size : Nat
  accH : Nat
  accS : Nat
  dflt : Nat
  kept : Nat
  deriving DecidableEq, Repr, Inhabited

/-- The indexes `base` to `base + count - 1`, which share their object table. -/
structure ObjFam where
  base : Nat
  count : Nat
  rows : List ObjRow
  deriving DecidableEq, Repr, Inhabited

/-! The unit as a whole (R14 to R17) and the power-on sequence (R399). -/

/-- The unit's mode (R14). -/
inductive Mode where
  | boot
  | rough
  | normal
  | doublet
  | split
  deriving DecidableEq, Repr, Inhabited

/-- Rough status, object 0x5100.01 (R369). `kind` 0 NOT_ROUGH, 1 FIRST, 2 FATAL. -/
structure RoughSt where
  kind : Nat
  settled : Bool
  cause : Nat
  exitReason : Nat
  tick : Nat
  deriving DecidableEq, Repr, Inhabited

/-- Progress of the power-on sequence (R399): which of its conditions hold. -/
structure BootSt where
  pwrgood : Bool
  rstN : Bool
  fircOn : Bool
  storeLoaded : Bool
  storeTick : Nat
  xref0Late : Bool
  xref1Late : Bool
  mclkRuns : Bool
  kclkDone : Bool
  serialFetched : Bool
  keyFetched : Bool
  serial : Nat
  keyDigest : Nat
  deriving DecidableEq, Repr, Inhabited

/-! The dictionary (R29 to R49). -/

/-- A request frame (R29): the header fields and the payload bytes. -/
structure Req where
  op : Nat
  flags : Nat
  tag : Nat
  index : Nat
  sub : Nat
  len : Nat
  off : Nat
  payload : Bytes
  deriving DecidableEq, Repr, Inhabited

/-- A response frame (R30). -/
structure Resp where
  op : Nat
  status : Nat
  tag : Nat
  index : Nat
  sub : Nat
  total : Nat
  payload : Bytes
  deriving DecidableEq, Repr, Inhabited

/-- STATE of MBOX_STAT (R35). -/
inductive MboxState where
  | idle
  | busy
  | done
  deriving DecidableEq, Repr, Inhabited

/-- The mailbox of one port (R35): the request half (bytes that differ from 0, by offset), the response half, the captured request and the
tick at which it was presented (R42). `dropped` are requests that a reset of the port found captured: the service still completes them, and
their responses are discarded (R38). -/
structure Mbox where
  req : Tab Byte
  resp : Bytes
  state : MboxState
  protoErr : Bool
  captured : Option Req
  since : Nat
  dropped : List (Nat × Req)
  deriving DecidableEq, Repr, Inhabited

/-- The side-band (R39, R40): the endpoint ID, the one outstanding request and the tick at which it was presented. -/
structure SideBand where
  eid : Nat
  outstanding : Option Req
  since : Nat
  deriving DecidableEq, Repr, Inhabited

/-- A staged DOMAIN write (R43): whose it is, the object, the bytes so far, and when the last segment arrived. -/
structure Staged where
  master : Master
  index : Nat
  sub : Nat
  data : Bytes
  last : Nat
  deriving DecidableEq, Repr, Inhabited

/-- An open read view (R45). -/
structure View where
  master : Master
  index : Nat
  sub : Nat
  last : Nat
  deriving DecidableEq, Repr, Inhabited

/-- The configuration store as the unit knows it (R49): the two copies' SEQ and state, the active copy, the last load and commit. -/
structure StoreSt where
  active : Nat
  seqA : Nat
  seqB : Nat
  stA : Nat
  stB : Nat
  loadResult : Nat
  commit : Nat
  image : List (Nat × Nat)
  deriving DecidableEq, Repr, Inhabited

/-- The dictionary service's own state; `ptr` is the rotating pointer over the presenters that follow the side-band (R42). -/
structure DictSt where
  mbox : Two Mbox
  sb : SideBand
  ptr : Nat
  staged : List Staged
  views : List View
  lastResp : Option Resp
  store : StoreSt
  deriving DecidableEq, Repr, Inhabited

/-! Tocsin (R350 to R371). -/

/-- An event on its way to a Tocsin source (R350). -/
structure TocEvent where
  src : Nat
  elem : Nat
  level : Nat
  detail : Nat
  deriving DecidableEq, Repr, Inhabited

/-- One Tocsin source (R352, R353, R354, R368). `winOpen` says whether a counting window is open, with its closing tick and its N;
`timerOn` whether the grace timer runs, with its expiry. -/
structure SrcSt where
  level : Nat
  endTaken : Bool
  winOpen : Bool
  winClose : Nat
  winN : Nat
  count : Nat
  total : Nat
  timerOn : Bool
  timer : Nat
  lastTick : Nat
  lastElem : Nat
  lastLevel : Nat
  lastDetail : Nat
  deriving DecidableEq, Repr, Inhabited

/-- Tocsin: sticky bits (always-on logic, R351), sources, events not yet taken, elements in service (R361, R370), telemetry. -/
structure TocSt where
  sticky : Nat
  srcs : Tab SrcSt
  raised : List TocEvent
  cutters : Nat
  channels : Nat
  slots : Nat
  clusters : Nat
  cores : Nat
  temp : Int
  power : Nat
  sampled : Bool
  sampleNext : Nat
  sbAlertN : Bool
  deriving DecidableEq, Repr, Inhabited

/-! Spaces, facets, generations and Cutters (R53 to R83). -/

/-- A segment descriptor (R57). `portB`, `ns`, `sealed` and `faultWait` are its one-bit fields. -/
structure Seg where
  kind : Nat
  cls : Nat
  start : Nat
  len : Nat
  target : Nat
  grain : Nat
  tableId : Nat
  sealed : Bool
  ns : Bool
  portB : Bool
  faultWait : Bool
  facetCount : Nat
  tableBase : Nat
  effGen : Nat
  deriving DecidableEq, Repr, Inhabited

/-- A facet (R61); `start` counts 4 KiB granules, `taddr` is the 4 KiB-granular target address divided by 4,096. -/
structure Facet where
  portB : Bool
  cls : Nat
  taddr : Nat
  ns : Bool
  start : Nat
  deriving DecidableEq, Repr, Inhabited

/-- A facet table in the structure pool (R62). -/
structure FacetTab where
  base : Nat
  len : Nat
  facets : List Facet
  deriving DecidableEq, Repr, Inhabited

/-- One Space (R55). `drain` holds the four drain counters, `wrote` which ports each live generation wrote (bit 0 A, bit 1 B). -/
structure Space where
  state : Nat
  gen : Nat
  drain : List Nat
  wStat : Nat
  wGen : Nat
  lastFault : Nat
  faultCount : Nat
  wrote : List (Nat × Nat)
  segs : Tab Seg
  tabs : Tab FacetTab
  deriving DecidableEq, Repr, Inhabited

/-- A facet table that a BUILD has made READY (R64). -/
structure ReadyTab where
  space : Nat
  seg : Nat
  tab : FacetTab
  deriving DecidableEq, Repr, Inhabited

/-- The facet loader (R63, R64): status, and the running request. -/
structure FacetLoad where
  state : Nat
  reason : Nat
  index : Nat
  fill : Bool
  space : Nat
  seg : Nat
  first : Nat
  count : Nat
  portB : Bool
  source : Nat
  ready : Option ReadyTab
  deriving DecidableEq, Repr, Inhabited

/-- Who asked for a bump (R80). -/
inductive BumpBy where
  | software
  | ats (p : HPort) (itag : Nat)
  | batch (b : Nat)
  | queue (q : Nat)
  | table (t : Nat)
  | tenant
  | portReset (p : HPort)
  | remirror
  deriving DecidableEq, Repr, Inhabited

/-- The mapping change a bump makes at step 2 of R80. -/
inductive MapChange where
  | none
  | seg (n : Nat) (s : Seg)
  | clear
  deriving DecidableEq, Repr, Inhabited

/-- Where a bump stands: waiting at step 1, draining at step 4, flushing at step 5 of R80. -/
inductive BumpPhase where
  | waiting
  | draining
  | flushing
  deriving DecidableEq, Repr, Inhabited

/-- A bump in progress (R80). `old` are runs of the structure pool and frames released at its end (R81). -/
structure Bump where
  id : Nat
  space : Nat
  hard : Bool
  bys : List BumpBy
  change : MapChange
  phase : BumpPhase
  gen : Nat
  ports : Nat
  since : Nat
  alerted : Bool
  oldRuns : List (Nat × Nat)
  oldFrames : List Nat
  deriving DecidableEq, Repr, Inhabited

/-- One entry of a region (R69): the address word's fields, the length, the position in the node's stream, and No Snoop (R123): the stream
positions from which it changes, with its value from there on (0 before the first). -/
structure Entry where
  route : Nat
  sealed : Bool
  addr : Nat
  len : Nat
  logical : Nat
  ns : List (Nat × Bool)
  deriving DecidableEq, Repr, Inhabited

/-- One side of a set descriptor (R68). `block` is its cut list's working-pool block, when it is listed. -/
structure Region where
  form : Nat
  seg : Nat
  entries : List Entry
  block : Option (Nat × Nat)
  deriving DecidableEq, Repr, Inhabited

/-- Whose strokes a set descriptor carries (R106, R162, R243, R394). -/
inductive Owner where
  | node (q e n : Nat)
  | promote (sp seg g : Nat)
  | writeBack (sp seg g : Nat)
  | save (q e : Nat)
  | restore (q e : Nat)
  | scrub (k : Nat)
  | lap (k : Nat)
  deriving DecidableEq, Repr, Inhabited

/-- A set descriptor (R67): `lo` to `hi` are the strokes it covers, `live` the issued strokes not yet complete, `cut` set once a hard bump
or an abort has ended its issue. `body` is the transfer descriptor. -/
structure SetDesc where
  id : Nat
  owner : Owner
  space : Nat
  gen : Nat
  body : Nat
  lo : Nat
  next : Nat
  hi : Nat
  live : Nat
  src : Region
  dst : Region
  deriving DecidableEq, Repr, Inhabited

/-- A waiting cause of a switched-out node (R73). -/
inductive Wait where
  | absent (seg facet : Nat)
  | nonresident (seg grain : Nat) (write : Bool)
  | page (port : HPort) (page : Nat) (write sent : Bool)
  deriving DecidableEq, Repr, Inhabited

/-- What a Cutter is doing with its job (R70). -/
inductive CutPhase where
  | run
  | miss
  | ats
  | done
  | list
  deriving DecidableEq, Repr, Inhabited

/-- An element that a Cutter has begun and not finished (R71, R76): its number, the bytes translated, their entries (newest first), the line
it waits for (none: its ATS request), and the misses it took. -/
structure Parked where
  elem : Nat
  got : Nat
  part : List Entry
  line : Option Nat
  misses : Nat
  deriving DecidableEq, Repr, Inhabited

/-- The job of a Cutter (R66, R70, R71): the side of a node, its set descriptor, the first byte of the stream, the next element to begin, the
next to append, the index list, the entries so far (newest first), those of later elements by element, elements that wait, the facet hinted
(segment and facet), the waiting causes and whether there was one, the page memo (R76: page, size, translated address), the page asked for, its
element, and whether its request has gone out. `re` marks a retranslation. -/
structure CutJob where
  q : Nat
  e : Nat
  n : Nat
  side : Side
  sd : Nat
  re : Bool
  lo : Nat
  elem : Nat
  asm : Nat
  idx : List Nat
  entries : List Entry
  later : Tab (List Entry)
  parked : List Parked
  hint : Option (Nat × Nat)
  waits : List Wait
  waited : Bool
  memo : List (Nat × Nat × Nat)
  phase : CutPhase
  atsPage : Nat
  atsElem : Nat
  sent : Bool
  deriving DecidableEq, Repr, Inhabited

/-- Spaces and translation. `cache` is the facet cache (R72): by set, the ways in use with their 64-byte lines, the latest used first; `missing`
are lines asked for, with their Cutters. `atsOut` are ATS requests outstanding, `priOff` ports whose page requests stopped after Response
Failure. The pointers rotate over Cutters, cut jobs, ATS requests and page requests (R21). -/
structure SpaceSt where
  spaces : Tab Space
  load : FacetLoad
  bumps : List Bump
  nextBump : Nat
  cutters : Tab CutJob
  cutPtr : Nat
  jobPtr : Nat
  cache : Tab (List (Nat × Nat))
  missing : List (Nat × Nat)
  atsPtr : Nat
  priPtr : Two Nat
  atsOut : Nat
  priOut : Two Nat
  priOff : Two Bool
  invQueued : Two Nat
  deriving DecidableEq, Repr, Inhabited

/-! Geode (R84 to R105). -/

/-- A residency map (R87): its run of the structure pool and its entries; an unlisted grain reads as the zero entry. -/
structure GMap where
  base : Nat
  len : Nat
  entries : Tab Nat
  deriving DecidableEq, Repr, Inhabited

/-- Who holds a frame; an unlisted frame is free. A lent frame holds a grain that the other unit manages (R104). -/
inductive FrameUse where
  | grain (sp seg g : Nat)
  | fresh (t : Nat)
  | prior (t : Nat)
  | quarantine
  | returning (sp seg g : Nat)
  | lent (sp seg g : Nat)
  deriving DecidableEq, Repr, Inhabited

/-- The sweep of one frame list (R93): the hand, the frames it has gone by in this pass, whether the pass has evicted. -/
structure Sweep where
  on : Bool
  hand : Nat
  seen : Nat
  evicted : Bool
  deriving DecidableEq, Repr, Inhabited

/-- A quarantine batch (R94): its frames, the Spaces it concerns, when it opened, whether it has closed. -/
structure Batch where
  id : Nat
  frames : List Nat
  spaces : List Nat
  opened : Nat
  closed : Bool
  deriving DecidableEq, Repr, Inhabited

/-- Map build status, object 0x3500.11 (R88), with the segment that takes effect at its end. -/
structure MapBuild where
  state : Nat
  reason : Nat
  space : Nat
  seg : Nat
  filled : Nat
  desc : Seg
  base : Nat
  len : Nat
  deriving DecidableEq, Repr, Inhabited

/-- Write-back status, object 0x3500.13 (R101), with the grains still to settle. -/
structure Flush where
  state : Nat
  space : Nat
  seg : Nat
  left : List Nat
  written : Nat
  deriving DecidableEq, Repr, Inhabited

/-- Geode: maps by Space × 16 + segment, `hbmTally` the TALLY that HBM holds of entries whose newer count is only in the facet cache (R88;
key map × 2^42 + grain), frames by die × 2^30 + list × 2^28 + number (die 0: this unit's own), the promotion queue, those of it that have taken
their tokens, tokens in 10^9ths (cap units), the sweeps, quarantine, pools. `copies` are promotions and write-backs that failed and wait for
their end. -/
structure GeodeSt where
  maps : Tab GMap
  hbmTally : Tab Nat
  frames : Tab FrameUse
  queue : List (Nat × Nat × Nat)
  paid : List (Nat × Nat × Nat)
  copies : List (Nat × Nat × Nat)
  tokens : Int
  tokenAt : Nat
  sweeps : Tab Sweep
  batches : List Batch
  nextBatch : Nat
  decayGrain : Nat
  decayAt : Nat
  build : MapBuild
  flush : Flush
  flushing : List (Nat × Nat × Nat)
  probe : Nat
  wpBlocks : List (Nat × Nat)
  spUsed : List (Nat × Nat)
  tallies : List (Nat × Nat × Nat)
  acks : List (Nat × Nat × Nat)
  deriving DecidableEq, Repr, Inhabited

/-! The Transfer Engine (R106 to R135) and the scale banks (R144). -/

/-- A request of a stroke (R122): read or write, its route and extent, the `take` bytes from `skip` that are its part of the stream and
their place in it, the data of a write, its attributes (R123), the DVA of sealed data (R99), and the tick at which it times out. -/
structure XReq where
  id : Nat
  ch : Nat
  sd : Nat
  k : Nat
  write : Bool
  route : Nat
  addr : Nat
  len : Nat
  skip : Nat
  take : Nat
  off : Nat
  data : Bytes
  ro : Bool
  ido : Bool
  ns : Bool
  sealed : Bool
  dva : Nat
  limit : Nat
  deriving DecidableEq, Repr, Inhabited

/-- The stage of an issued stroke: reads to come, every read returned, or waiting for its requests to settle before a retry (R127). -/
inductive StrokePhase where
  | reading
  | writing
  | retry
  deriving DecidableEq, Repr, Inhabited

/-- An issued stroke: its place in the unit's issue order, reads not yet presented and reads outstanding, writes not yet presented, all requests
outstanding, source bytes by stream offset, the destination bytes ready to be written, scales read at issue (R145), the first error seen
(class and route, 0 for none), retries made, the buffer bytes it holds, and what its conversion gave (R141, R148, R149). -/
structure Stroke where
  sd : Nat
  k : Nat
  seq : Nat
  phase : StrokePhase
  todo : List XReq
  reads : Nat
  wtodo : List XReq
  out : Nat
  data : List (Nat × Bytes)
  ready : Bytes
  scales : List Nat
  err : Nat
  errRoute : Nat
  retries : Nat
  aborted : Bool
  held : Nat
  trip : Bool
  redo : Nat
  sat : Nat
  unf : Nat
  nan : Nat
  vals : Nat
  scale : Nat
  deriving DecidableEq, Repr, Inhabited

/-- One channel (R129, R134): its state code, the nodes bound in order, its issued strokes, Last error. -/
structure Channel where
  state : Nat
  bound : List Owner
  strokes : List Stroke
  lastErr : Nat
  deriving DecidableEq, Repr, Inhabited

/-- The Transfer Engine: channels, set descriptors, outstanding requests (R132), scale banks by bank × 1,024 + entry. The pointers rotate over
the channels: of the binder, of the shared tracker entries, and of each NoC port or other way out (R21, R132, R133). -/
structure XferSt where
  chans : Tab Channel
  sds : Tab SetDesc
  nextSd : Nat
  reqs : Tab XReq
  nextReq : Nat
  nextStroke : Nat
  bindPtr : Nat
  presentPtr : Nat
  portPtr : Tab Nat
  banks : Tab Nat
  deriving DecidableEq, Repr, Inhabited

/-! Lapidary (R154 to R175). -/

/-- A grain held in an open or prior table (R162): segment, grain, its fresh frame, its old entry, whether the frame is filled. -/
structure OpenGrain where
  seg : Nat
  grain : Nat
  frame : Nat
  old : Nat
  filled : Bool
  deriving DecidableEq, Repr, Inhabited

/-- A post record (R159). -/
structure Post where
  table : Nat
  mseq : Nat
  addr : Nat
  len : Nat
  deriving DecidableEq, Repr, Inhabited

/-- An extent of a manifest (R161). -/
structure Extent where
  first : Nat
  count : Nat
  source : Nat
  pitch : Nat
  deriving DecidableEq, Repr, Inhabited

/-- The manifest being applied: its post, header fields, extents, the next extent and row to reach, the grains open, the grains whose open is
issued (with 1 + the tick since when it waits for a frame, 2^65 once that was alerted), escape slots taken and to be freed, the staging blocks,
the rows whose values lie in them with their places, the rows being pulled by the number of the pull, the values pulled by row × 4 + stroke, the
source values of the rows quantised (R164), slot writes that wait for their escape grain, the header and extents read (for MD), what it holds of
the pools, whether an escape was refused, when its wait to commit began, and the grains still to commit. -/
structure LapJob where
  post : Post
  srcFmt : Nat
  commitTick : Nat
  wantDigest : Bytes
  extents : List Extent
  raw : Bytes
  ext : Nat
  row : Nat
  opened : List OpenGrain
  opening : List (Nat × Nat × Nat)
  taken : List Nat
  toFree : List Nat
  staging : List (Nat × Nat)
  staged : Tab Nat
  pulls : Tab Nat
  got : Tab Bytes
  pulled : Tab Bytes
  slotWrites : List (Nat × Bytes)
  run : Nat × Nat
  bufs : List (Nat × Nat)
  refused : Bool
  waitFrom : Nat
  left : List OpenGrain
  deriving DecidableEq, Repr, Inhabited

/-- One table (R155, R174). `newest` is the epoch of its newest commit, `prior` the prior table, `older` the older epoch state. -/
structure Table where
  state : Nat
  epoch : Nat
  newest : Nat
  older : Nat
  pins0 : Nat
  pins1 : Nat
  lastSeq : Nat
  lineage : Bytes
  slots : List Nat
  bitmap : Option (Nat × Nat)
  prior : List OpenGrain
  priorRun : Nat × Nat
  relLeft : List OpenGrain
  publishTick : Nat
  alerted : Bool
  deriving DecidableEq, Repr, Inhabited

/-- Apply status, object 0x3800.04 (R173). -/
structure ApplyStat where
  state : Nat
  reason : Nat
  table : Nat
  mseq : Nat
  rows : Nat
  grains : Nat
  escaped : Nat
  tick : Nat
  deriving DecidableEq, Repr, Inhabited

/-- What a Lapidary stroke works for (R162): the fill of a fresh frame, or the codes of a row; both write a fresh frame. -/
structure LapItem where
  row : Option Nat
  seg : Nat
  grain : Nat
  frame : Nat
  scale : Nat
  header : Nat
  deriving DecidableEq, Repr, Inhabited

/-- Lapidary. `holding` is set while a publish waits for unit 1 (R285), `failed` when a stroke of the manifest has failed (R170); `items` are
what its set descriptors work for, `next` numbers them and the pulls; `tokens` is the bucket of the pull cap in 1,000ths of a byte (R172); `dying` are fresh frames of an aborted manifest with the strokes that still
write them (R163). -/
structure LapSt where
  tables : Tab Table
  posts : List Post
  job : Option LapJob
  stat : ApplyStat
  holding : Bool
  failed : Bool
  items : Tab LapItem
  dying : List (Nat × List Nat)
  next : Nat
  tokens : Int
  tokenAt : Nat
  deriving DecidableEq, Repr, Inhabited

/-! Belfry (R176 to R200). -/

/-- How far a destroy has come: its cause, F_end, and the step of R192 it waits in (3 for engines, 4 for the drain mark). -/
structure Destroy where
  cause : Nat
  fEnd : Nat
  step : Nat
  flr : Bool
  deriving DecidableEq, Repr, Inhabited

/-- A completion record waiting to be written (R191, R196). -/
structure Record where
  entry : Nat
  tick : Nat
  node : Nat
  userTag : Nat
  status : Nat
  light : Bool
  trip : Bool
  wanted : Bool
  deriving DecidableEq, Repr, Inhabited

/-- One queue context. `doneSet` are entries complete past the prefix `completed`; `shown` is the visible COMPLETED; `await` the
fetched entries that wait for the GFE, oldest first, as raw 64-byte values; `reading` the entries of the ring read in flight; an OVERRUN takes
effect when F reaches `overAt`. -/
structure Queue where
  state : Nat
  space : Nat
  p : Nat
  f : Nat
  cause : Nat
  completed : Nat
  shown : Nat
  doneSet : List Nat
  overrun : Bool
  reading : Nat
  overAt : Nat
  await : List (Nat × Nat)
  held : List Record
  heldEpoch : Nat
  half : Nat
  full : Nat
  silent : Bool
  destroy : Option Destroy
  deriving DecidableEq, Repr, Inhabited

/-- The completion flush reads of a port (R189): the launches that the read in flight serves, and those that share the next one. -/
structure FlushRead where
  cur : List (Nat × Nat)
  next : List (Nat × Nat)
  deriving DecidableEq, Repr, Inhabited

/-- Belfry: queues, intake lanes (values of R183, oldest first, with whether they came from a DOORBELL), the fetch pointer, the completion flush
reads of each port. -/
structure BelfrySt where
  queues : Tab Queue
  lanes : Tab (List (Nat × Nat × Bool))
  fetchPtr : Nat
  flush : Two FlushRead
  deriving DecidableEq, Repr, Inhabited

/-! Patterns, launches and slots (R201 to R254). -/

/-- An edge of a running launch (R206, R207): `res` 0 unresolved, 1 satisfied, 2 skipped. -/
structure Edge where
  src : Nat
  dst : Nat
  kind : Nat
  cut : Bool
  dist : Nat
  res : Nat
  deriving DecidableEq, Repr, Inhabited

/-- How far a node of a launch has come. `ended` nodes of an ended launch have stopped. -/
inductive NodeSt where
  | waiting
  | ready
  | staged
  | running
  | bound
  | complete
  | skipped
  deriving DecidableEq, Repr, Inhabited

/-- A node's conversion result (R151). -/
structure ConvRes where
  scales : List (Nat × Nat)
  sat : Nat
  unf : Nat
  nan : Nat
  rescaled : Bool
  escaped : Bool
  trips : List Nat
  deriving DecidableEq, Repr, Inhabited

/-- One node of a running launch: kind, header flags, relocated body, its state, and the progress of a move node (R66, R70, R74, R113,
R118, R120). `half` and `full`: the mark has been raised; `ports` and `halfPorts`: the ports that its strokes, or those up to the half mark,
wrote. `covers` and `asked` are a Fence node's: the move nodes it waits for, and whether its flush reads are out (R212). `restart`: its waiting
sides may be cut again while its context is out (R242). -/
structure NodeRt where
  kind : Nat
  hdr : Nat
  body : Nat
  st : NodeSt
  cutting : Bool
  srcDone : Option Region
  dstDone : Option Region
  srcEnd : Nat
  dstEnd : Nat
  sds : List Nat
  next : Nat
  done : List Nat
  waits : List Wait
  timeout : Nat
  out : Bool
  paceOk : Bool
  paceBase : Nat
  bindWait : Bool
  t0 : Nat
  half : Bool
  full : Bool
  ports : Nat
  halfPorts : Nat
  covers : Option (List Nat)
  asked : Bool
  restart : Bool
  conv : ConvRes
  value : Nat
  iter : Nat
  cluster : Nat
  waitDva : Nat
  waitSeg : Nat
  redo : Bool
  deriving DecidableEq, Repr, Inhabited

/-- The state of a context (R242); `joining` in the join list, `none` before step 7 or for a Bootstrap command. -/
inductive CtxSt where
  | none
  | joining
  | resident
  | saving
  | outBlocked
  | outReady
  | restoring
  | ended
  deriving DecidableEq, Repr, Inhabited

/-- A raised mark of node `n` (R120): the ports whose flush read has not gone out, the requests that are its flush reads, and whether an
iteration has ended since, so that its edges stand as they are. -/
structure Mark where
  n : Nat
  half : Bool
  ch : Nat
  ports : List HPort
  reads : List Nat
  old : Bool
  deriving DecidableEq, Repr, Inhabited

/-- A launch, or a Bootstrap command (queue 0, node 0), from its admission to its completion. `final` 0xFF is "no final status yet".
`group` is its queue's group at admission (R237); `early`: it may join between boundaries (R239); `pastSwitch`: a node was cut while the
context was out (R241); `marks` are raised and have not fired (R120); `past` are body nodes that ended in an earlier iteration (R208); `asked`:
its completion has joined the flush reads (R189). -/
structure Launch where
  q : Nat
  e : Nat
  pat : Nat
  runPat : Nat
  light : Bool
  switched : Bool
  space : Nat
  slot : Nat
  place : Nat
  ctx : CtxSt
  entry : Nat
  handles : List Nat
  patch : Bytes
  pins : List (Nat × Nat)
  scratch : Option (Nat × Nat)
  save : Option (Nat × Nat)
  admitted : Nat
  expiry : Nat
  nodes : Tab NodeRt
  edges : List Edge
  final : Nat
  endNode : Nat
  endTick : Nat
  ports : Nat
  bridge : Bool
  switchAt : Option Nat
  waited : Bool
  group : Nat
  early : Bool
  pastSwitch : Bool
  marks : List Mark
  past : List Nat
  asked : Bool
  deriving DecidableEq, Repr, Inhabited

/-- A launch of a queue at an entry, of which nothing is known yet. -/
def Launch.new (q e : Nat) : Launch :=
  { q := q, e := e, pat := 0, runPat := 0, light := false, switched := false, space := 0, slot := 0, place := 0, ctx := .none, entry := 0,
    handles := [], patch := [], pins := [], scratch := none, save := none, admitted := 0, expiry := 0, nodes := [], edges := [], final := 0xFF,
    endNode := 0xFFFF, endTick := 0, ports := 0, bridge := false, switchAt := none, waited := false, group := 0, early := false,
    pastSwitch := false, marks := [], past := [], asked := false }

/-- A slot (R236, R239, R245): its join list, its places, the switch-point timer, the victim, the blocks and
places that ended contexts release at the next boundary, and 1 + the tick of the last boundary taken (0 before the first). -/
structure Slot where
  joins : List (Nat × Nat)
  places : Tab (Nat × Nat)
  timerOn : Bool
  timer : Nat
  victim : Option (Nat × Nat)
  rel : List Nat
  relPlaces : List Nat
  boundary : Nat
  deriving DecidableEq, Repr, Inhabited

/-- A dispatch record staged at a Cluster Sequencer (R224); `re` is a re-dispatch with its deadline. -/
structure Staged2 where
  q : Nat
  e : Nat
  n : Nat
  re : Bool
  until_ : Nat
  deriving DecidableEq, Repr, Inhabited

/-- A core's Run node (R224, R228). -/
structure CoreRun where
  q : Nat
  e : Nat
  n : Nat
  aborted : Bool
  abortAt : Nat
  deriving DecidableEq, Repr, Inhabited

/-- A Cluster Sequencer: staged records, running cores, and the Cadence arbiters of its cluster (R249). -/
structure Cluster where
  staged : List Staged2
  cores : Tab CoreRun
  corePtr : Nat
  slotCredit : Tab Nat
  slotPtr : Nat
  grpCredit : Tab Nat
  grpPtr : Tab Nat
  qPtr : Tab Nat
  deriving DecidableEq, Repr, Inhabited

/-- One Pattern (R233): state, the image held, its staging run, check result, launches running, granules, E_p in thousandths. -/
structure Pattern where
  state : Nat
  image : Bytes
  run : Option (Nat × Nat)
  check : Nat
  running : Nat
  gran : Nat
  granLen : Nat
  est : Nat
  deriving DecidableEq, Repr, Inhabited

/-- Patterns, launches, slots and clusters. Launches are keyed by queue × 2^32 + entry. `reads` are launches whose patch block and
handle table are being read (R218). `boot` is a Bootstrap command's wait: 3 a descriptor, 4 an argument block, 6 a digest, whose bytes by
stroke are `bootData` (R232). -/
structure PatSt where
  pats : Tab Pattern
  launches : Tab Launch
  reads : List (Nat × Nat)
  pipePtr : Nat
  slots : Tab Slot
  clusters : Tab Cluster
  stagePtr : Nat
  lastReject : Nat
  boot : Option Nat
  bootArg : Bytes
  bootData : Tab Bytes
  deriving DecidableEq, Repr, Inhabited

/-! Peer windows and coherent windows (R255 to R275). -/

/-- One accepted inbound packet (R260): its window, source, set, target (Space and generation for DATA), lines outstanding. -/
structure Inbound where
  id : Nat
  win : Nat
  set : Nat
  node : Nat
  write : Bool
  space : Nat
  gen : Nat
  counted : Bool
  addr : Nat
  len : Nat
  deriving DecidableEq, Repr, Inhabited

/-- One peer window (R256, R273): shadow and active records, the count of packets accepted, the last refusal. -/
structure PeerWin where
  shadow : Nat
  active : Nat
  accepted : Nat
  refusal : Nat
  deriving DecidableEq, Repr, Inhabited

/-- The Peer Gateway: the unit's fabric node number (R255), windows, set number, Commit status, packets accepted and not yet answered; `posts` are the packets that wait for the
dictionary service, with the tick at which they were presented and their record (R42, R264). -/
structure PeerSt where
  node : Nat
  wins : Tab PeerWin
  setNo : Nat
  status : Nat
  reason : Nat
  window : Nat
  packets : List Inbound
  nextPkt : Nat
  posts : List (Nat × Nat × Bytes)
  deriving DecidableEq, Repr, Inhabited

/-- A line of the Coherent Line Cache (R186, R269, R270), keyed by port × 2^64 + address: held Shared or only watched, its read in flight
and whether it must be read again, watched or pinned, its 64 bytes. `wanted` is set while a read of Belfry's or the GFE's waits for its data. -/
structure Line where
  shared : Bool
  reading : Bool
  again : Bool
  watched : Bool
  pinned : Bool
  wanted : Bool
  data : Nat
  deriving DecidableEq, Repr, Inhabited

/-- Coherent windows (R274): state by window, lines, and the line reads still in flight whose line has been dropped, with whether their data is
to be discarded (R271, R272). -/
structure CohSt where
  wins : Tab Nat
  lines : Tab Line
  late : List (Nat × Bool)
  deriving DecidableEq, Repr, Inhabited

/-! Doublet mode (R276 to R298). -/

/-- A mirrored write or internal change that waits for unit 1's acknowledgement (R287): the entry, its sequence, who waits for the
response, and the response. -/
structure MirrorWait where
  kind : MirrorKind
  num : Nat
  seq : Nat
  req : Option (Src × Req)
  deriving DecidableEq, Repr, Inhabited

/-- Doublet: Join status, bridge state, the join's step (R280; 0 when none runs) and its ticks, what is known of the partner, sequences of this
unit and as last known of the partner (key kind × 65,536 + number), changes that wait for an acknowledgement, forwarded writes not answered
yet, frozen entries, whole entries asked for, the cross-link flush, the partner's DRAINED (on a unit in ROUGH: its own, sent). -/
structure DblSt where
  state : Nat
  reason : Nat
  kind : Nat
  lead : Nat
  tick : Nat
  bridge : Nat
  joinStart : Nat
  joinStep : Nat
  joinTick : Nat
  wasJoined : Bool
  partnerLeft : Bool
  partnerRough : Bool
  kaNext : Nat
  seqs : Tab Nat
  partner : Tab Nat
  waits : List MirrorWait
  fwd : List (Src × Req)
  frozen : List (MirrorKind × Nat)
  remirror : List Nat
  flushing : Bool
  flushFor : List (Nat × Nat)
  drained : Bool
  deriving DecidableEq, Repr, Inhabited

/-! The host ports (R299 to R325). -/

/-- The configuration space registers the unit uses (R303, R304): Vendor ID and Device ID (R425), bits of Command, D3hot, Device Control and
Control 2, the capabilities' enables, the BARs, AER status and interrupt status. -/
structure CfgSpace where
  vid : Nat
  did : Nat
  mse : Bool
  bme : Bool
  serr : Bool
  parity : Bool
  intDisable : Bool
  d3 : Bool
  mps : Nat
  mrrs : Nat
  roEn : Bool
  idoEn : Bool
  ctv : Nat
  ptmEn : Bool
  priEn : Bool
  priAlloc : Nat
  cacheEn : Bool
  aspm : Nat
  bar0 : Nat
  bar2 : Nat
  rom : Nat
  aerUnc : Nat
  aerCor : Nat
  rma : Bool
  rta : Bool
  deriving DecidableEq, Repr, Inhabited

/-- One host port: the protocol and role in force, the link, its registers, attach, shutdown, the optical engine (`oeNext` the tick of the next poll), its wire. `shut` is
0 none, 1 FLR, 2 BME, 3 D3hot; `ready` says that configuration requests are answered. -/
structure Port where
  proto : Nat
  pool : Bool
  perst : Bool
  link : Nat
  rate : Nat
  width : Nat
  flitRefused : Bool
  cfg : CfgSpace
  ready : Bool
  mgmt : Bool
  intxEn : Nat
  inta : Bool
  attached : Bool
  epoch : Nat
  shut : Nat
  note : Nat
  oeLight : Nat
  oeFault : Nat
  oeTemp : Nat
  oeState : Nat
  oeTick : Nat
  latched : Bool
  latch : Nat
  subVid : Nat
  subId : Nat
  oeNext : Nat
  deriving DecidableEq, Repr, Inhabited

/-! Carillon and the clocks (R326 to R349). -/

/-- The discipline of Carillon (R329 to R335): state, the run of good samples, last valid sample, PPS, holdover (its status kept after it in
`holdAge` and `holdBound`), the tick since when no valid sample has come, the pending align. -/
structure Disc where
  state : Nat
  good : Nat
  lastOff : Int
  lastTick : Nat
  steer : Int
  ppsOpen : Bool
  ppsLast : Nat
  ppsSet : Bool
  ppsNext : Nat
  holdTick : Nat
  holdB0 : Nat
  holdAge : Nat
  holdBound : Nat
  since : Nat
  align : Bool
  ptmOut : Bool
  ptmSent : Nat
  ptmNext : Nat
  deriving DecidableEq, Repr, Inhabited

/-- Clock sources, PLLs (state 0 OFF, 1 LOCKING, 2 READY, 3 FAILED), the domains' selection (bit d − 1 set: domain d on its
fallback) and multiplexers, monitors, the meter; `held` are the Domain source writes that wait for their switch. -/
structure ClkSt where
  carillon : Nat
  half : Bool
  firc : Bool
  xref0 : Bool
  xref1 : Bool
  pll : List Nat
  pllAt : List Nat
  sel : Nat
  mux : List Nat
  want : List Nat
  stopped : Nat
  armed : Nat
  monFail : Nat
  monPass : List Nat
  lastFail : Nat
  enables : Nat
  meter : Nat
  meterW : Nat
  meterM : Nat
  meterR : Nat
  meterCount : Nat
  held : List (Nat × Src × Req)
  disc : Disc
  deriving DecidableEq, Repr, Inhabited

/-! Firmware, attestation, IDE and tenancy (R372 to R398). -/

/-- What a root-of-trust request is for (R376). For SPDM it carries the request's code and argument and the nonce drawn so far. -/
inductive RotFor where
  | serial
  | keyDigest
  | verifySig
  | counterRead
  | tenancyRead
  | counterRaise
  | tenancyRaise
  | keySeed
  | cert (t : Transport) (off len : Nat)
  | random (t : Transport) (code arg : Nat)
  | sign (t : Transport) (code arg : Nat) (nonce : Bytes)
  deriving DecidableEq, Repr, Inhabited

/-- The outstanding root-of-trust request (R375). -/
structure RotReq where
  tag : Nat
  by_ : RotFor
  sent : Nat
  deriving DecidableEq, Repr, Inhabited

/-- The firmware: banks, the state of object 0x6000.01, the activation, the counter, the recovery loader. -/
structure FwSt where
  state : Nat
  reason : Nat
  bank : Nat
  staged : Bytes
  version : Nat
  svn : Nat
  running : Bytes
  runVersion : Nat
  runSvn : Nat
  counter : Nat
  sigOk : Nat
  window : Bool
  raiseAt : Nat
  raise : Bool
  stagePort : HPort
  stageLen : Nat
  loader : Bool
  deriving DecidableEq, Repr, Inhabited

/-- Measurement and its log (R383, R385, R386): the blocks' values and ticks of last change, the model measurement, the log. -/
structure MeasSt where
  progDigest : Bytes
  weightDigest : Bytes
  state : Nat
  badRange : Nat
  tick : Nat
  changed : Tab Nat
  patDigest : Bytes
  block3 : Bytes
  block4 : Bytes
  storeDigest : Bytes
  logTotal : Nat
  log : List Bytes
  chain : Bytes
  deriving DecidableEq, Repr, Inhabited

/-- IDE streams and SPDM sessions (R384, R388): 10 stream states, key sets programmed and active, sessions with their handshake. -/
structure SpdmSt where
  streams : Nat
  keys : Tab Nat
  sessions : List Nat
  handshakes : List Nat
  deriving DecidableEq, Repr, Inhabited

/-- Tenancy (R390 to R396): state code, the epoch, END progress, the XTS key pair (64 bytes: two 256-bit keys; none when destroyed), what the scrub has
still to write set descriptors for (route, address, length). -/
structure TenSt where
  state : Nat
  epoch : Nat
  step : Nat
  stepTick : Nat
  endTick : Nat
  abortedAt : Nat
  limitHit : Bool
  xts : Option Nat
  attaching : Bool
  scrubLeft : List (Nat × Nat × Nat)
  deriving DecidableEq, Repr, Inhabited

/-- Security and tenancy; `rotQueue` holds the root-of-trust requests that wait for the one outstanding (R375). -/
structure SecSt where
  rot : Option RotReq
  rotQueue : List RotFor
  rotTag : Nat
  fw : FwSt
  meas : MeasSt
  spdm : SpdmSt
  ten : TenSt
  deriving DecidableEq, Repr, Inhabited

/-! What the unit sends at its boundary (R2). -/

/-- One thing sent at a boundary interface, as it was sent: the model's own record of the unit's outputs. -/
inductive Emit where
  | mctp (command : Nat) (body : Bytes)
  | btu (typ : Nat) (packets : List Bytes)
  | inta (p : HPort) (on : Bool)
  | trace (rec : Bytes)
  | flash (what : Nat) (data : Bytes)
  | hostWrite (p : HPort) (addr : Nat) (data : Bytes) (ro ido ns : Bool)
  | hostRead (p : HPort) (addr len : Nat)
  | flushRead (p : HPort)
  | cacheWrite (p : HPort) (addr : Nat) (data : Bytes)
  | cacheRead (p : HPort) (addr : Nat)
  | snoopResponse (p : HPort) (addr : Nat)
  | request (r : XReq) (port : Option Nat)
  | atsRequest (p : HPort) (pasid page : Nat) (nw : Bool)
  | pageRequest (p : HPort) (pasid page : Nat) (write : Bool)
  | invalidateDone (p : HPort) (itag count : Nat)
  | ptmRequest (p : HPort)
  | completion (p : HPort) (status : Nat) (data : Bytes)
  | message (p : HPort) (code : Nat)
  | dispatch (cluster core : Nat) (program : Nat) (tag : Nat) (args : Bytes)
  | abortRun (cluster core : Nat)
  | peerResponse (node code detail : Nat) (data : Bytes)
  | nocWrite (route : Nat) (port : Option Nat) (addr : Nat) (data : Bytes)
  | nocRead (route : Nat) (port : Option Nat) (addr len : Nat)
  | bridge (kind : Nat) (data : Bytes)
  | rot (op select tag : Nat) (payload : Bytes)
  | spdm (t : Transport) (code : Nat) (data : Bytes)
  | laserOn (p : HPort)
  deriving DecidableEq, Repr, Inhabited

/-! One unit. -/

/-- One Tijor-3 unit: everything but the queue of waiting commands. `objs` holds the values of plain configuration objects and of the
statistics, keyed by index × 256 + subindex; an unlisted object reads as its default. `free` counts the free values taken so far and
`out` records what was sent, newest first: both are the model's own. -/
structure Chip where
  unit1 : Bool
  mode : Mode
  rough : RoughSt
  boot : BootSt
  objs : Tab Nat
  dict : DictSt
  toc : TocSt
  sp : SpaceSt
  geo : GeodeSt
  xf : XferSt
  lap : LapSt
  bel : BelfrySt
  pat : PatSt
  peer : PeerSt
  coh : CohSt
  dbl : DblSt
  port : Two Port
  clk : ClkSt
  sec : SecSt
  free : Nat
  out : List Emit
  deriving DecidableEq, Repr, Inhabited

/-- The state of the model: the unit and the commands that are waiting, first in, first out. -/
structure State extends Chip where
  pending : List Instr
  deriving DecidableEq, Repr

/-- Why a step stops. -/
inductive Fault where
  /-- Raised by the meaning of an event whose conditions do not hold in this state: the spec gives the event an effect only when they do, so
  the hardware never sees it then. Safe: nothing is claimed of a run in which it is taken. -/
  | notDue (event : String)
  deriving DecidableEq, Repr

/-- Why a command has no meaning. -/
inductive Refusal where
  /-- Raised by the dispatcher for a command whose meaning is not written yet. Safe: the machine stops. -/
  | notModelled (mnemonic : String)
  deriving DecidableEq, Repr

/-! The state after reset (R15, R399). -/

/-- The mailbox after reset (R35). -/
def Mbox.reset : Mbox :=
  { req := [], resp := [], state := .idle, protoErr := false, captured := none, since := 0, dropped := [] }

/-- Configuration space at its defaults (R303, R304, R122): Max Payload Size 128 B, Max Read Request Size 512 B, relaxed ordering enabled. -/
def CfgSpace.reset : CfgSpace :=
  { vid := Config.pciVendorId.toNat, did := Config.pciDeviceId.toNat, mse := false, bme := false, serr := false, parity := false, intDisable := false, d3 := false, mps := 128, mrrs := 512,
    roEn := true, idoEn := false, ctv := 0, ptmEn := false, priEn := false, priAlloc := 0, cacheEn := false, aspm := 0, bar0 := 0,
    bar2 := 0, rom := 0, aerUnc := 0, aerCor := 0, rma := false, rta := false }

/-- A host port after a unit reset (R318, R324). -/
def Port.reset : Port :=
  { proto := 0, pool := false, perst := true, link := 0, rate := 0, width := 0, flitRefused := false, cfg := CfgSpace.reset,
    ready := false, mgmt := false, intxEn := 0, inta := false, attached := false, epoch := 0, shut := 0, note := 0,
    oeLight := 0, oeFault := 0, oeTemp := 0, oeState := 0, oeTick := 0, latched := false, latch := 0, subVid := 0, subId := 0,
    oeNext := 0 }

/-- A Tocsin source that has taken no event (R368). -/
def SrcSt.reset : SrcSt :=
  { level := 0, endTaken := false, winOpen := false, winClose := 0, winN := 0, count := 0, total := 0, timerOn := false, timer := 0,
    lastTick := 0, lastElem := 0, lastLevel := 0, lastDetail := 0 }

/-- A Space after reset; Space 0 is LIVE with no segments (R54). -/
def Space.reset (s : Nat) : Space :=
  { state := if s = 0 then 2 else 0, gen := 0, drain := [0, 0, 0, 0], wStat := 0, wGen := 0, lastFault := 0, faultCount := 0,
    wrote := [], segs := [], tabs := [] }

/-- A segment at the reset column of R57: UNUSED, GRAIN 2. -/
def Seg.reset : Seg :=
  { kind := 0, cls := 0, start := 0, len := 0, target := 0, grain := 2, tableId := 0, sealed := false, ns := false, portB := false,
    faultWait := false, facetCount := 0, tableBase := 0, effGen := 0 }

/-- An idle channel (R134). -/
def Channel.reset : Channel :=
  { state := 0, bound := [], strokes := [], lastErr := 0 }

/-- A queue that was never created (R182). -/
def Queue.reset : Queue :=
  { state := 0, space := 0, p := 0, f := 0, cause := 0, completed := 0, shown := 0, doneSet := [], overrun := false, reading := 0,
    overAt := 0, await := [], held := [], heldEpoch := 0, half := 0, full := 0, silent := false, destroy := none }

/-- An undefined table (R174). -/
def Table.reset : Table :=
  { state := 0, epoch := 0, newest := 0, older := 0, pins0 := 0, pins1 := 0, lastSeq := 0, lineage := List.replicate 48 0, slots := [],
    bitmap := none, prior := [], priorRun := (0, 0), relLeft := [], publishTick := 0, alerted := false }

/-- A FREE Pattern (R233). -/
def Pattern.reset : Pattern :=
  { state := 0, image := [], run := none, check := 0, running := 0, gran := 0, granLen := 0, est := 0 }

/-- An empty slot (R253). -/
def Slot.reset : Slot :=
  { joins := [], places := [], timerOn := false, timer := 0, victim := none, rel := [], relPlaces := [], boundary := 0 }

/-- An idle cluster (R224). -/
def Cluster.reset : Cluster :=
  { staged := [], cores := [], corePtr := 0, slotCredit := [], slotPtr := 0, grpCredit := [], grpPtr := [], qPtr := [] }

/-- A peer window that is OFF (R273). -/
def PeerWin.reset : PeerWin :=
  { shadow := 0, active := 0, accepted := 0, refusal := 0 }

/-- The discipline after reset (R348). -/
def Disc.reset : Disc :=
  { state := 0, good := 0, lastOff := 0, lastTick := 0, steer := 0, ppsOpen := false, ppsLast := 0, ppsSet := false, ppsNext := 0,
    holdTick := 0, holdB0 := 0, holdAge := 0, holdBound := 0, since := 0, align := false, ptmOut := false, ptmSent := 0, ptmNext := 0 }

/-- The clock system after reset: Carillon 0, every PLL OFF, no clock enabled (R340, R348). -/
def ClkSt.reset : ClkSt :=
  { carillon := 0, half := false, firc := false, xref0 := false, xref1 := false, pll := [0, 0, 0, 0], pllAt := [0, 0, 0, 0],
    sel := 0, mux := List.replicate 25 0, want := List.replicate 25 0, stopped := 0, armed := 0, monFail := 0,
    monPass := List.replicate 7 0, lastFail := 0, enables := 0, meter := 0, meterW := 0, meterM := 0, meterR := 0, meterCount := 0, held := [],
    disc := Disc.reset }

/-- `RoughSt` right after reset. -/
def RoughSt.reset : RoughSt :=
  { kind := 0, settled := false, cause := 0, exitReason := 0, tick := 0 }

/-- `BootSt` right after reset. -/
def BootSt.reset : BootSt :=
  { pwrgood := false, rstN := false, fircOn := false, storeLoaded := false, storeTick := 0, xref0Late := false, xref1Late := false,
    mclkRuns := false, kclkDone := false, serialFetched := false, keyFetched := false, serial := 0, keyDigest := 0 }

/-- `SideBand` right after reset. -/
def SideBand.reset : SideBand :=
  { eid := 0, outstanding := none, since := 0 }

/-- `StoreSt` right after reset. -/
def StoreSt.reset : StoreSt :=
  { active := 2, seqA := 0, seqB := 0, stA := 2, stB := 2, loadResult := 4, commit := 0, image := [] }

/-- `DictSt` right after reset. -/
def DictSt.reset : DictSt :=
  { mbox := ⟨Mbox.reset, Mbox.reset⟩, sb := SideBand.reset, ptr := 0, staged := [], views := [], lastResp := none, store := StoreSt.reset }

/-- `TocSt` right after reset. -/
def TocSt.reset : TocSt :=
  { sticky := 0, srcs := [], raised := [], cutters := 0xFFFF, channels := 2 ^ 64 - 1, slots := 2 ^ 32 - 1, clusters := 0xFF,
    cores := 2 ^ 128 - 1, temp := 0, power := 0, sampled := false, sampleNext := 0, sbAlertN := true }

/-- `FacetLoad` right after reset. -/
def FacetLoad.reset : FacetLoad :=
  { state := 0, reason := 0, index := 0, fill := false, space := 0, seg := 0, first := 0, count := 0, portB := false, source := 0,
    ready := none }

/-- `SpaceSt` right after reset. -/
def SpaceSt.reset : SpaceSt :=
  { spaces := [], load := FacetLoad.reset, bumps := [], nextBump := 0, cutters := [], cutPtr := 0, jobPtr := 0, cache := [],
    missing := [], atsPtr := 0, priPtr := ⟨0, 0⟩, atsOut := 0, priOut := ⟨0, 0⟩,
    priOff := ⟨false, false⟩, invQueued := ⟨0, 0⟩ }

/-- `MapBuild` right after reset. -/
def MapBuild.reset : MapBuild :=
  { state := 0, reason := 0, space := 0, seg := 0, filled := 0, desc := Seg.reset, base := 0, len := 0 }

/-- `Flush` right after reset. -/
def Flush.reset : Flush :=
  { state := 0, space := 0, seg := 0, left := [], written := 0 }

/-- `GeodeSt` right after reset. -/
def GeodeSt.reset : GeodeSt :=
  { maps := [], hbmTally := [], frames := [], queue := [], paid := [], copies := [], tokens := 0, tokenAt := 0, sweeps := [], batches := [], nextBatch := 0,
    decayGrain := 0, decayAt := 0, build := MapBuild.reset, flush := Flush.reset, flushing := [], probe := 0, wpBlocks := [],
    spUsed := [], tallies := [], acks := [] }

/-- `XferSt` right after reset. -/
def XferSt.reset : XferSt :=
  { chans := [], sds := [], nextSd := 0, reqs := [], nextReq := 0, nextStroke := 0, bindPtr := 0, presentPtr := 0, portPtr := [], banks := [] }

/-- `ApplyStat` right after reset. -/
def ApplyStat.reset : ApplyStat :=
  { state := 0, reason := 0, table := 0, mseq := 0, rows := 0, grains := 0, escaped := 0, tick := 0 }

/-- `LapSt` right after reset. -/
def LapSt.reset : LapSt :=
  { tables := [], posts := [], job := none, stat := ApplyStat.reset, holding := false, failed := false, items := [], dying := [], next := 0,
    tokens := 0, tokenAt := 0 }

/-- `BelfrySt` right after reset. -/
def BelfrySt.reset : BelfrySt :=
  { queues := [], lanes := [], fetchPtr := 0, flush := ⟨⟨[], []⟩, ⟨[], []⟩⟩ }

/-- `PatSt` right after reset. -/
def PatSt.reset : PatSt :=
  { pats := [], launches := [], reads := [], pipePtr := 0, slots := [], clusters := [], stagePtr := 0, lastReject := 0, boot := none,
    bootArg := [], bootData := [] }

/-- `PeerSt` right after reset. -/
def PeerSt.reset : PeerSt :=
  { node := Config.fabricNode false, wins := [], setNo := 0, status := 0, reason := 0, window := 0, packets := [], nextPkt := 0, posts := [] }

/-- `CohSt` right after reset. -/
def CohSt.reset : CohSt :=
  { wins := [], lines := [], late := [] }

/-- `DblSt` right after reset. -/
def DblSt.reset : DblSt :=
  { state := 0, reason := 0, kind := 0, lead := 0, tick := 0, bridge := 0, joinStart := 0, joinStep := 0, joinTick := 0,
    wasJoined := false, partnerLeft := false, partnerRough := false, kaNext := 0, seqs := [], partner := [], waits := [], fwd := [],
    frozen := [], remirror := [], flushing := false, flushFor := [], drained := false }

/-- `FwSt` right after reset. -/
def FwSt.reset : FwSt :=
  { state := 0, reason := 0, bank := 0, staged := [], version := 0, svn := 0, running := Config.flashBundle, runVersion := 0,
    runSvn := 0, counter := 0, sigOk := 0, window := false, raiseAt := 0, raise := false, stagePort := .a, stageLen := 0,
    loader := false }

/-- `MeasSt` right after reset. -/
def MeasSt.reset : MeasSt :=
  { progDigest := [], weightDigest := [], state := 0, badRange := 0, tick := 0, changed := [], patDigest := [], block3 := [],
    block4 := [], storeDigest := [], logTotal := 0, log := [], chain := [] }

/-- `SpdmSt` right after reset. -/
def SpdmSt.reset : SpdmSt :=
  { streams := 0, keys := [], sessions := [0, 0, 0], handshakes := [0, 0, 0] }

/-- `TenSt` right after reset. -/
def TenSt.reset : TenSt :=
  { state := 0, epoch := 0, step := 0, stepTick := 0, endTick := 0, abortedAt := 0, limitHit := false, xts := none,
    attaching := false, scrubLeft := [] }

/-- `SecSt` right after reset. -/
def SecSt.reset : SecSt :=
  { rot := none, rotQueue := [], rotTag := 0, fw := FwSt.reset, meas := MeasSt.reset, spdm := SpdmSt.reset, ten := TenSt.reset }

/-- The unit right after reset (R15, R27, R399): MODE BOOT, every object at its default, nothing listed in any table, both pins sampled
low (the always-on logic waits for UNIT_PWRGOOD). -/
def Chip.reset : Chip :=
  { unit1 := false
    mode := .boot
    rough := RoughSt.reset
    boot := BootSt.reset
    objs := []
    dict := DictSt.reset
    toc := TocSt.reset
    sp := SpaceSt.reset
    geo := GeodeSt.reset
    xf := XferSt.reset
    lap := LapSt.reset
    bel := BelfrySt.reset
    pat := PatSt.reset
    peer := PeerSt.reset
    coh := CohSt.reset
    dbl := DblSt.reset
    port := ⟨Port.reset, Port.reset⟩
    clk := ClkSt.reset
    sec := SecSt.reset
    free := 0
    out := [] }

/-- The machine right after reset: the unit after reset and no command waiting. -/
def State.reset : State := { toChip := Chip.reset, pending := [] }

end Sys2Proof.Machine
end

