-- ==== Sys2Proof/Machine/ObjTable.lean ====
section
/-! DEFINITION. The object index (R415 to R424): every dictionary index with its subindexes, types, access rights, defaults and
persistence classes, transcribed from the object tables of the chapters; one list per chapter range. Defaults that depend on the
instance are in `objDefault` (Operands.lean). -/

namespace Sys2Proof.Machine

/-- Objects of the range 0x1000 to 0x11ff (R28). -/
def objsIdentity : List ObjFam := [
  ⟨0x1000, 1,
    [⟨0x1, 0x1, 4, 4, 1, 1, 0x4e524946, 0⟩,
     ⟨0x2, 0x2, 3, 2, 1, 1, 0x0, 0⟩,
     ⟨0x3, 0x3, 3, 2, 1, 1, 0x0, 0⟩,
     ⟨0x4, 0x4, 2, 1, 1, 1, 0x0, 0⟩,
     ⟨0x5, 0x5, 2, 1, 1, 1, 0x11, 0⟩,
     ⟨0x6, 0x6, 11, 16, 1, 1, 0x0, 0⟩,
     ⟨0x7, 0x7, 11, 48, 1, 1, 0x0, 0⟩,
     ⟨0x8, 0x8, 4, 4, 1, 1, 0x0, 0⟩,
     ⟨0x9, 0x9, 3, 2, 1, 1, 0x100, 0⟩,
     ⟨0xa, 0xa, 11, 256, 0, 1, 0x0, 0⟩]⟩,
  ⟨0x1001, 1,
    [⟨0x1, 0x1, 3, 2, 1, 1, 0x1000, 0⟩,
     ⟨0x2, 0x2, 2, 1, 1, 1, 0x20, 0⟩,
     ⟨0x3, 0x3, 3, 2, 1, 1, 0x400, 0⟩,
     ⟨0x4, 0x4, 2, 1, 1, 1, 0x10, 0⟩,
     ⟨0x5, 0x5, 2, 1, 1, 1, 0x40, 0⟩,
     ⟨0x6, 0x6, 2, 1, 1, 1, 0x40, 0⟩,
     ⟨0x7, 0x7, 2, 1, 1, 1, 0x40, 0⟩,
     ⟨0x8, 0x8, 2, 1, 1, 1, 0xc0, 0⟩,
     ⟨0x9, 0x9, 1, 1, 1, 1, 0x1, 0⟩,
     ⟨0xa, 0xa, 4, 4, 1, 1, 0x100000, 0⟩,
     ⟨0xb, 0xb, 3, 2, 1, 1, 0x7f0, 0⟩]⟩,
  ⟨0x10f0, 1,
    [⟨0x1, 0x1, 2, 1, 1, 1, 0x2, 0⟩,
     ⟨0x2, 0x2, 4, 4, 1, 1, 0x0, 0⟩,
     ⟨0x3, 0x3, 4, 4, 1, 1, 0x0, 0⟩,
     ⟨0x4, 0x4, 2, 1, 1, 1, 0x2, 0⟩,
     ⟨0x5, 0x5, 2, 1, 1, 1, 0x2, 0⟩,
     ⟨0x6, 0x6, 2, 1, 1, 1, 0x4, 0⟩,
     ⟨0x7, 0x7, 2, 1, 2, 2, 0x0, 0⟩,
     ⟨0x8, 0x8, 2, 1, 1, 1, 0x0, 0⟩]⟩,
  ⟨0x1100, 1,
    [⟨0x1, 0x1, 2, 1, 1, 1, 0x0, 0⟩,
     ⟨0x2, 0x2, 2, 1, 2, 2, 0x0, 0⟩,
     ⟨0x3, 0x3, 4, 4, 3, 3, 0x0, 0⟩,
     ⟨0x4, 0x4, 4, 4, 1, 1, 0x0, 0⟩]⟩]

/-- Objects of the range 0x1200 to 0x12ff (R28). -/
def objsPorts : List ObjFam := [
  ⟨0x1200, 1,
    [⟨0x1, 0x1, 3, 2, 1, 3, 0x0, 2⟩,
     ⟨0x2, 0x2, 3, 2, 1, 3, 0x0, 2⟩]⟩,
  ⟨0x1210, 2,
    [⟨0x1, 0x1, 2, 1, 3, 3, 0x0, 2⟩,
     ⟨0x2, 0x2, 2, 1, 3, 3, 0x0, 2⟩,
     ⟨0x3, 0x3, 2, 1, 1, 1, 0x0, 0⟩,
     ⟨0x4, 0x4, 10, 8, 1, 1, 0x0, 0⟩,
     ⟨0x5, 0x5, 8, 8, 3, 3, 0x2710, 2⟩,
     ⟨0x6, 0x6, 8, 8, 3, 3, 0xf4240, 2⟩,
     ⟨0x7, 0x7, 1, 1, 3, 3, 0x0, 2⟩,
     ⟨0x8, 0x8, 2, 1, 2, 0, 0x0, 0⟩,
     ⟨0x9, 0x9, 4, 4, 1, 1, 0x0, 1⟩,
     ⟨0xa, 0xa, 2, 1, 1, 1, 0x0, 0⟩,
     ⟨0xb, 0xb, 8, 8, 3, 3, 0x989680, 2⟩,
     ⟨0xc, 0xc, 10, 8, 1, 1, 0x0, 1⟩,
     ⟨0xd, 0xd, 10, 16, 1, 1, 0x0, 1⟩,
     ⟨0xf, 0xf, 4, 4, 1, 3, 0x0, 1⟩]⟩,
  ⟨0x12f0, 1,
    [⟨0x1, 0x1, 2, 1, 2, 2, 0x0, 0⟩,
     ⟨0x2, 0x2, 10, 8, 1, 1, 0x0, 0⟩,
     ⟨0x3, 0x3, 8, 8, 3, 3, 0xf4240, 2⟩,
     ⟨0x4, 0x4, 3, 2, 1, 1, 0x0, 0⟩,
     ⟨0x5, 0x5, 3, 2, 1, 1, 0x0, 0⟩]⟩,
  ⟨0x12f1, 1,
    [⟨0x1, 0x1, 4, 4, 1, 1, 0x0, 0⟩,
     ⟨0x2, 0x2, 3, 2, 1, 1, 0x0, 0⟩]⟩]

/-- Objects of the range 0x1300 to 0x13ff (R28). -/
def objsClocks : List ObjFam := [
  ⟨0x1300, 1,
    [⟨0x1, 0x1, 8, 8, 1, 1, 0x0, 0⟩,
     ⟨0x2, 0x2, 2, 1, 3, 3, 0x0, 2⟩,
     ⟨0x3, 0x3, 2, 1, 1, 1, 0x0, 0⟩,
     ⟨0x4, 0x4, 7, 8, 3, 3, 0x0, 2⟩,
     ⟨0x5, 0x5, 8, 8, 1, 3, 0x0, 0⟩,
     ⟨0x6, 0x6, 8, 8, 2, 2, 0x0, 0⟩,
     ⟨0x7, 0x7, 4, 4, 3, 3, 0x186a0, 2⟩,
     ⟨0x8, 0x8, 8, 8, 3, 3, 0x64, 2⟩,
     ⟨0x9, 0x9, 8, 8, 3, 3, 0xb2d05e00, 2⟩,
     ⟨0xa, 0xa, 8, 8, 3, 3, 0x989680, 2⟩,
     ⟨0xb, 0xb, 4, 4, 3, 3, 0x3e8, 2⟩,
     ⟨0xc, 0xc, 10, 24, 1, 1, 0x0, 0⟩,
     ⟨0xd, 0xd, 10, 24, 1, 1, 0x0, 0⟩,
     ⟨0xe, 0xe, 8, 8, 3, 3, 0xf4240, 2⟩,
     ⟨0xf, 0xf, 2, 1, 2, 2, 0x0, 0⟩]⟩,
  ⟨0x1310, 4,
    [⟨0x1, 0x1, 10, 16, 3, 3, 0x0, 2⟩,
     ⟨0x2, 0x2, 2, 1, 2, 2, 0x0, 0⟩,
     ⟨0x3, 0x3, 2, 1, 1, 1, 0x0, 0⟩]⟩,
  ⟨0x1321, 25,
    [⟨0x1, 0x1, 2, 1, 3, 3, 0x0, 0⟩,
     ⟨0x2, 0x2, 2, 1, 1, 1, 0x0, 0⟩,
     ⟨0x3, 0x3, 4, 4, 1, 1, 0x0, 0⟩]⟩,
  ⟨0x1340, 1,
    [⟨0x1, 0x1, 2, 1, 1, 1, 0x0, 0⟩,
     ⟨0x2, 0x2, 11, 7, 1, 1, 0x0, 0⟩,
     ⟨0x3, 0x3, 10, 16, 1, 1, 0x0, 0⟩]⟩,
  ⟨0x1350, 1,
    [⟨0x1, 0x1, 10, 8, 2, 2, 0x0, 0⟩,
     ⟨0x2, 0x2, 10, 16, 1, 1, 0x0, 0⟩]⟩]

/-- Objects of the range 0x2000 to 0x2fff (R28). -/
def objsQueues : List ObjFam := [
  ⟨0x2000, 4096,
    [⟨0x1, 0x1, 2, 1, 1, 1, 0x0, 1⟩,
     ⟨0x2, 0x2, 2, 1, 2, 2, 0x0, 1⟩,
     ⟨0x3, 0x3, 10, 64, 3, 1, 0x0, 1⟩,
     ⟨0x4, 0x4, 8, 8, 3, 3, 0x0, 1⟩,
     ⟨0x5, 0x5, 4, 4, 3, 3, 0x0, 1⟩,
     ⟨0x6, 0x6, 10, 16, 1, 1, 0x0, 1⟩,
     ⟨0x7, 0x7, 1, 1, 1, 1, 0x0, 0⟩]⟩]

/-- Objects of the range 0x3000 to 0x34ff (R28). -/
def objsSpaces : List ObjFam := [
  ⟨0x3000, 1024,
    [⟨0x1, 0x1, 2, 1, 1, 1, 0x0, 0⟩,
     ⟨0x2, 0x2, 2, 1, 2, 2, 0x0, 0⟩,
     ⟨0x3, 0x3, 4, 4, 1, 1, 0x0, 0⟩,
     ⟨0x4, 0x4, 11, 8, 1, 1, 0x0, 0⟩,
     ⟨0x5, 0x5, 2, 1, 1, 1, 0x0, 0⟩,
     ⟨0x6, 0x6, 4, 4, 1, 1, 0x0, 0⟩,
     ⟨0x7, 0x7, 4, 4, 3, 1, 0x0, 0⟩,
     ⟨0x8, 0x8, 8, 8, 3, 1, 0xf4240, 0⟩,
     ⟨0x9, 0x9, 10, 32, 1, 1, 0x0, 0⟩,
     ⟨0xa, 0xa, 4, 4, 1, 1, 0x0, 0⟩,
     ⟨0x10, 0x1f, 10, 64, 3, 1, 0x0, 0⟩]⟩,
  ⟨0x3400, 1,
    [⟨0x1, 0x1, 3, 2, 1, 1, 0xffff, 0⟩,
     ⟨0x2, 0x2, 8, 8, 3, 3, 0x5f5e100, 2⟩,
     ⟨0x3, 0x3, 3, 2, 3, 1, 0x40, 2⟩,
     ⟨0x4, 0x4, 4, 4, 1, 1, 0x0, 0⟩]⟩,
  ⟨0x3410, 1,
    [⟨0x1, 0x1, 10, 32, 2, 0, 0x0, 0⟩,
     ⟨0x2, 0x2, 10, 8, 1, 1, 0x0, 0⟩]⟩]

/-- Objects of the range 0x3500 to 0x35ff (R28). -/
def objsGeode : List ObjFam := [
  ⟨0x3500, 1,
    [⟨0x1, 0x1, 10, 64, 3, 1, 0x0, 2⟩,
     ⟨0x2, 0x2, 10, 16, 3, 1, 0x0, 2⟩,
     ⟨0x3, 0x3, 10, 16, 3, 1, 0x0, 2⟩,
     ⟨0x4, 0x4, 11, 16, 3, 1, 0x0, 2⟩,
     ⟨0x5, 0x5, 11, 16, 1, 1, 0x0, 0⟩,
     ⟨0x6, 0x6, 2, 1, 3, 1, 0x4, 2⟩,
     ⟨0x7, 0x7, 2, 1, 3, 1, 0x2, 2⟩,
     ⟨0x8, 0x8, 2, 1, 3, 1, 0x1, 2⟩,
     ⟨0x9, 0x9, 4, 4, 3, 1, 0x10000, 2⟩,
     ⟨0xa, 0xa, 4, 4, 3, 1, 0x20000, 2⟩,
     ⟨0xb, 0xb, 4, 4, 3, 1, 0x7a120, 2⟩,
     ⟨0xc, 0xc, 3, 2, 3, 1, 0x40, 2⟩,
     ⟨0xd, 0xd, 8, 8, 3, 1, 0x3b9aca00, 2⟩,
     ⟨0xe, 0xe, 3, 2, 3, 1, 0x1000, 2⟩,
     ⟨0xf, 0xf, 8, 8, 3, 1, 0x989680, 2⟩,
     ⟨0x10, 0x10, 5, 8, 3, 1, 0xf000000000000000, 2⟩,
     ⟨0x11, 0x11, 10, 16, 1, 1, 0x0, 0⟩,
     ⟨0x12, 0x12, 10, 8, 2, 2, 0x0, 0⟩,
     ⟨0x13, 0x13, 10, 8, 1, 1, 0x0, 0⟩,
     ⟨0x14, 0x14, 3, 2, 1, 1, 0x0, 0⟩,
     ⟨0x15, 0x15, 10, 16, 2, 2, 0x0, 0⟩,
     ⟨0x16, 0x16, 5, 8, 1, 1, 0x0, 0⟩,
     ⟨0x17, 0x17, 5, 8, 1, 1, 0x0, 0⟩]⟩]

/-- Objects of the range 0x3600 to 0x37ff (R28). -/
def objsTransfer : List ObjFam := [
  ⟨0x3600, 64,
    [⟨0x1, 0x1, 2, 1, 1, 1, 0x0, 0⟩,
     ⟨0x2, 0x2, 2, 1, 2, 2, 0x0, 0⟩,
     ⟨0x3, 0x3, 2, 1, 3, 3, 0x3, 2⟩,
     ⟨0x4, 0x4, 5, 8, 1, 1, 0x0, 0⟩,
     ⟨0x5, 0x5, 5, 8, 1, 1, 0x0, 0⟩,
     ⟨0x6, 0x6, 5, 8, 1, 1, 0x0, 0⟩,
     ⟨0x7, 0x7, 10, 16, 1, 1, 0x0, 0⟩,
     ⟨0x8, 0x8, 3, 2, 1, 1, 0x0, 0⟩,
     ⟨0x9, 0x9, 2, 1, 1, 1, 0x0, 0⟩]⟩,
  ⟨0x3710, 16,
    [⟨0x1, 0x1, 4, 4, 3, 1, 0x0, 2⟩,
     ⟨0x2, 0x2, 4, 4, 3, 1, 0xffffffff, 2⟩,
     ⟨0x3, 0x3, 2, 1, 3, 1, 0x0, 2⟩]⟩]

/-- Objects of the range 0x3800 to 0x38ff (R28). -/
def objsLapidary : List ObjFam := [
  ⟨0x3800, 1,
    [⟨0x1, 0x1, 5, 8, 3, 1, 0xf00000000000000, 2⟩,
     ⟨0x2, 0x2, 10, 32, 2, 2, 0x0, 0⟩,
     ⟨0x3, 0x3, 2, 1, 1, 1, 0x0, 0⟩,
     ⟨0x4, 0x4, 10, 32, 1, 1, 0x0, 0⟩,
     ⟨0x5, 0x5, 2, 1, 2, 2, 0x0, 0⟩,
     ⟨0x6, 0x6, 4, 4, 3, 1, 0x1f40, 2⟩,
     ⟨0x7, 0x7, 8, 8, 3, 1, 0x3b9aca00, 2⟩]⟩,
  ⟨0x3801, 255,
    [⟨0x1, 0x1, 10, 32, 3, 1, 0x0, 0⟩,
     ⟨0x2, 0x2, 2, 1, 2, 2, 0x0, 0⟩,
     ⟨0x3, 0x3, 2, 1, 1, 1, 0x0, 0⟩,
     ⟨0x4, 0x4, 4, 4, 1, 1, 0x0, 0⟩,
     ⟨0x5, 0x5, 2, 1, 1, 1, 0x0, 0⟩,
     ⟨0x6, 0x6, 11, 8, 1, 1, 0x0, 0⟩,
     ⟨0x7, 0x7, 4, 4, 3, 1, 0x0, 0⟩,
     ⟨0x8, 0x8, 11, 48, 1, 1, 0x0, 0⟩,
     ⟨0x9, 0x9, 4, 4, 1, 1, 0x0, 0⟩,
     ⟨0xa, 0xa, 8, 8, 1, 1, 0x0, 0⟩]⟩]

/-- Objects of the range 0x4000 to 0x43ff (R28). -/
def objsPatterns : List ObjFam := [
  ⟨0x4000, 1024,
    [⟨0x1, 0x1, 2, 1, 1, 1, 0x0, 0⟩,
     ⟨0x2, 0x2, 2, 1, 2, 2, 0x0, 0⟩,
     ⟨0x3, 0x3, 12, 1048576, 3, 1, 0x0, 0⟩,
     ⟨0x4, 0x4, 10, 8, 1, 1, 0x0, 0⟩,
     ⟨0x5, 0x5, 4, 4, 1, 1, 0x0, 0⟩,
     ⟨0x6, 0x6, 4, 4, 1, 1, 0x0, 0⟩]⟩]

/-- Objects of the range 0x4400 to 0x44ff (R28). -/
def objsFrontEnd : List ObjFam := [
  ⟨0x4400, 1,
    [⟨0x1, 0x4, 11, 1024, 3, 1, 0x0, 2⟩]⟩,
  ⟨0x4401, 1,
    [⟨0x1, 0x1, 11, 256, 3, 1, 0x0, 2⟩,
     ⟨0x2, 0x2, 11, 256, 3, 1, 0x2, 2⟩]⟩,
  ⟨0x4402, 1,
    [⟨0x1, 0x1, 8, 8, 3, 1, 0x30d40, 2⟩,
     ⟨0x2, 0x2, 3, 2, 3, 1, 0x3de, 2⟩,
     ⟨0x3, 0x3, 8, 8, 3, 1, 0x7d0, 2⟩,
     ⟨0x4, 0x4, 8, 8, 3, 1, 0xf4240, 2⟩,
     ⟨0x5, 0x5, 3, 2, 3, 1, 0x100, 2⟩]⟩,
  ⟨0x4403, 1,
    [⟨0x1, 0x1, 3, 2, 3, 3, 0x0, 0⟩,
     ⟨0x2, 0x2, 8, 8, 3, 1, 0x0, 0⟩,
     ⟨0x3, 0x3, 3, 2, 1, 1, 0x0, 0⟩]⟩,
  ⟨0x4440, 32,
    [⟨0x1, 0x1, 10, 16, 1, 1, 0x0, 0⟩,
     ⟨0x2, 0x2, 3, 2, 3, 1, 0xff, 2⟩,
     ⟨0x3, 0x3, 2, 1, 3, 1, 0x40, 2⟩,
     ⟨0x4, 0x4, 3, 2, 3, 1, 0x200, 2⟩,
     ⟨0x5, 0x5, 5, 8, 3, 1, 0x0, 2⟩,
     ⟨0x6, 0x6, 8, 8, 3, 1, 0xc350, 2⟩,
     ⟨0x7, 0x7, 8, 8, 3, 1, 0x186a0, 2⟩]⟩,
  ⟨0x44f0, 1,
    [⟨0x1, 0x1, 4, 4, 3, 1, 0x0, 0⟩,
     ⟨0x2, 0x2, 4, 4, 1, 1, 0x800000, 0⟩,
     ⟨0x3, 0x3, 4, 4, 1, 1, 0x800000, 0⟩,
     ⟨0x4, 0x4, 10, 16, 1, 1, 0x0, 0⟩,
     ⟨0x5, 0x5, 2, 1, 3, 1, 0x20, 2⟩,
     ⟨0x6, 0x6, 8, 8, 3, 1, 0xf4240, 2⟩,
     ⟨0x7, 0x7, 8, 8, 3, 1, 0x186a0, 2⟩]⟩]

/-- Objects of the range 0x4800 to 0x48ff (R28). -/
def objsWindows : List ObjFam := [
  ⟨0x4800, 64,
    [⟨0x1, 0x1, 10, 32, 3, 3, 0x0, 0⟩,
     ⟨0x2, 0x2, 10, 32, 1, 1, 0x0, 0⟩,
     ⟨0x3, 0x3, 5, 8, 1, 1, 0x0, 0⟩,
     ⟨0x4, 0x4, 10, 16, 1, 1, 0x0, 0⟩]⟩,
  ⟨0x4840, 64,
    [⟨0x1, 0x1, 10, 16, 3, 1, 0x0, 1⟩,
     ⟨0x2, 0x2, 2, 1, 2, 0, 0x0, 0⟩,
     ⟨0x3, 0x3, 2, 1, 1, 1, 0x0, 1⟩,
     ⟨0x4, 0x4, 4, 4, 1, 1, 0x0, 0⟩]⟩]

/-- Objects of the range 0x4900 to 0x49ff (R28). -/
def objsDoublet : List ObjFam := [
  ⟨0x4900, 1,
    [⟨0x1, 0x1, 1, 1, 3, 3, 0x0, 2⟩,
     ⟨0x2, 0x2, 10, 16, 1, 1, 0x0, 0⟩,
     ⟨0x3, 0x3, 8, 8, 3, 3, 0x989680, 2⟩,
     ⟨0x4, 0x4, 8, 8, 3, 3, 0x186a0, 2⟩,
     ⟨0x5, 0x5, 8, 8, 3, 1, 0x3b9aca00, 2⟩,
     ⟨0x6, 0x6, 7, 8, 1, 1, 0x0, 0⟩,
     ⟨0x7, 0x7, 2, 1, 1, 1, 0x0, 0⟩]⟩,
  ⟨0x4910, 1,
    [⟨0x1, 0x1, 10, 4, 3, 3, 0x0, 0⟩,
     ⟨0x2, 0x2, 11, 8, 1, 1, 0x0, 0⟩]⟩]

/-- Objects of the range 0x5000 to 0x51ff (R28). -/
def objsTocsin : List ObjFam := [
  ⟨0x5000, 192,
    [⟨0x1, 0x1, 10, 16, 1, 1, 0x0, 0⟩,
     ⟨0x2, 0x2, 2, 1, 2, 2, 0x0, 0⟩,
     ⟨0x3, 0x3, 2, 1, 3, 3, 0x0, 2⟩,
     ⟨0x4, 0x4, 8, 8, 3, 3, 0x0, 2⟩,
     ⟨0x5, 0x5, 1, 1, 3, 3, 0x0, 2⟩,
     ⟨0x6, 0x6, 10, 16, 1, 1, 0x0, 0⟩]⟩,
  ⟨0x5100, 1,
    [⟨0x1, 0x1, 10, 16, 1, 1, 0x0, 0⟩,
     ⟨0x2, 0x2, 2, 1, 2, 2, 0x0, 0⟩,
     ⟨0x3, 0x3, 11, 24, 1, 1, 0x0, 0⟩,
     ⟨0x4, 0x4, 2, 1, 2, 2, 0x0, 0⟩,
     ⟨0x5, 0x5, 8, 8, 3, 3, 0x3b9aca00, 2⟩,
     ⟨0x6, 0x6, 8, 8, 3, 3, 0x5f5e100, 2⟩,
     ⟨0x7, 0x7, 2, 1, 1, 3, 0x7, 2⟩,
     ⟨0x8, 0x8, 2, 1, 3, 3, 0x0, 0⟩]⟩,
  ⟨0x5120, 1,
    [⟨0x1, 0x1, 5, 8, 1, 1, 0xffffffffffffffff, 0⟩,
     ⟨0x2, 0x2, 4, 4, 1, 1, 0xffffffff, 0⟩,
     ⟨0x3, 0x3, 2, 1, 1, 1, 0xff, 0⟩,
     ⟨0x4, 0x4, 11, 16, 1, 1, 0xffffffffffffffffffffffffffffffff, 0⟩]⟩,
  ⟨0x5140, 1,
    [⟨0x1, 0x1, 6, 4, 1, 1, 0x0, 0⟩,
     ⟨0x2, 0x2, 4, 4, 1, 1, 0x0, 0⟩,
     ⟨0x3, 0x3, 6, 4, 1, 3, 0x17318, 2⟩,
     ⟨0x4, 0x4, 6, 4, 1, 3, 0x1adb0, 2⟩,
     ⟨0x5, 0x5, 4, 4, 1, 3, 0xd6d8, 2⟩]⟩]

/-- Objects of the range 0x6000 to 0x60ff (R28). -/
def objsSecurity : List ObjFam := [
  ⟨0x6000, 1,
    [⟨0x1, 0x1, 10, 16, 1, 1, 0x0, 0⟩,
     ⟨0x2, 0x2, 10, 16, 2, 0, 0x0, 0⟩,
     ⟨0x3, 0x3, 12, 1048576, 0, 2, 0x0, 0⟩,
     ⟨0x4, 0x4, 4, 4, 0, 3, 0x0, 0⟩,
     ⟨0x5, 0x5, 2, 1, 2, 2, 0x0, 0⟩,
     ⟨0x6, 0x6, 4, 4, 1, 1, 0x0, 0⟩,
     ⟨0x7, 0x7, 4, 4, 1, 1, 0x0, 0⟩]⟩,
  ⟨0x6008, 1,
    [⟨0x1, 0x1, 10, 768, 3, 1, 0x0, 0⟩,
     ⟨0x2, 0x2, 2, 1, 2, 2, 0x0, 0⟩,
     ⟨0x3, 0x3, 10, 16, 1, 1, 0x0, 0⟩,
     ⟨0x4, 0x4, 2, 1, 3, 3, 0x1, 0⟩,
     ⟨0x5, 0x5, 10, 128, 1, 1, 0x0, 0⟩]⟩,
  ⟨0x6010, 1,
    [⟨0x1, 0x1, 11, 2, 3, 3, 0x0, 2⟩,
     ⟨0x2, 0x2, 11, 10, 1, 1, 0x0, 0⟩,
     ⟨0x3, 0x3, 11, 3, 1, 1, 0x0, 0⟩]⟩,
  ⟨0x6020, 1,
    [⟨0x1, 0x1, 2, 1, 1, 1, 0x0, 0⟩,
     ⟨0x2, 0x2, 2, 1, 2, 2, 0x0, 0⟩,
     ⟨0x3, 0x3, 10, 64, 3, 3, 0x0, 0⟩,
     ⟨0x4, 0x4, 4, 4, 1, 1, 0x0, 0⟩,
     ⟨0x5, 0x5, 8, 8, 3, 3, 0x989680, 2⟩,
     ⟨0x6, 0x6, 10, 16, 1, 1, 0x0, 0⟩,
     ⟨0x7, 0x7, 10, 256, 1, 3, 0x0, 2⟩]⟩]

/-- Objects of the range 0x7000 to 0x7035 (R28). -/
def objsStatsA : List ObjFam := [
  ⟨0x7012, 2,
    [⟨0x1, 0x1, 5, 8, 1, 1, 0x0, 0⟩,
     ⟨0x2, 0x2, 5, 8, 1, 1, 0x0, 0⟩,
     ⟨0x3, 0x3, 5, 8, 1, 1, 0x0, 0⟩,
     ⟨0x4, 0x4, 5, 8, 1, 1, 0x0, 0⟩,
     ⟨0x5, 0x5, 5, 8, 1, 1, 0x0, 0⟩,
     ⟨0x6, 0x6, 5, 8, 1, 1, 0x0, 0⟩,
     ⟨0x7, 0x7, 5, 8, 1, 1, 0x0, 0⟩,
     ⟨0x8, 0x8, 5, 8, 1, 1, 0x0, 0⟩]⟩,
  ⟨0x7014, 1,
    [⟨0x1, 0x1, 5, 8, 1, 1, 0x0, 0⟩,
     ⟨0x2, 0x2, 5, 8, 1, 1, 0x0, 0⟩,
     ⟨0x3, 0x3, 5, 8, 1, 1, 0x0, 0⟩,
     ⟨0x4, 0x4, 5, 8, 1, 1, 0x0, 0⟩,
     ⟨0x5, 0x5, 5, 8, 1, 1, 0x0, 0⟩,
     ⟨0x6, 0x6, 5, 8, 1, 1, 0x0, 0⟩]⟩,
  ⟨0x7020, 1,
    [⟨0x1, 0x1, 5, 8, 1, 1, 0x0, 0⟩,
     ⟨0x2, 0x2, 5, 8, 1, 1, 0x0, 0⟩,
     ⟨0x3, 0x3, 5, 8, 1, 1, 0x0, 0⟩,
     ⟨0x4, 0x4, 5, 8, 1, 1, 0x0, 0⟩,
     ⟨0x5, 0x5, 5, 8, 1, 1, 0x0, 0⟩,
     ⟨0x6, 0x6, 5, 8, 1, 1, 0x0, 0⟩,
     ⟨0x7, 0x7, 5, 8, 1, 1, 0x0, 0⟩,
     ⟨0x8, 0x8, 5, 8, 1, 1, 0x0, 0⟩]⟩,
  ⟨0x7034, 1,
    [⟨0x1, 0x1, 5, 8, 1, 1, 0x0, 0⟩,
     ⟨0x2, 0x2, 5, 8, 1, 1, 0x0, 0⟩,
     ⟨0x3, 0x3, 5, 8, 1, 1, 0x0, 0⟩,
     ⟨0x4, 0x4, 5, 8, 1, 1, 0x0, 0⟩,
     ⟨0x5, 0x5, 5, 8, 1, 1, 0x0, 0⟩]⟩,
  ⟨0x7035, 1,
    [⟨0x1, 0x1, 5, 8, 1, 1, 0x0, 0⟩,
     ⟨0x2, 0x2, 5, 8, 1, 1, 0x0, 0⟩,
     ⟨0x3, 0x3, 5, 8, 1, 1, 0x0, 0⟩,
     ⟨0x4, 0x4, 5, 8, 1, 1, 0x0, 0⟩,
     ⟨0x5, 0x5, 5, 8, 1, 1, 0x0, 0⟩,
     ⟨0x6, 0x6, 5, 8, 1, 1, 0x0, 0⟩,
     ⟨0x7, 0x7, 5, 8, 1, 1, 0x0, 0⟩,
     ⟨0x8, 0x8, 5, 8, 1, 1, 0x0, 0⟩,
     ⟨0x9, 0x9, 5, 8, 1, 1, 0x0, 0⟩,
     ⟨0xa, 0xa, 5, 8, 1, 1, 0x0, 0⟩]⟩]

/-- Objects of the range 0x7036 to 0x703f (R28). -/
def objsStatsB : List ObjFam := [
  ⟨0x7036, 1,
    [⟨0x1, 0x1, 5, 8, 1, 1, 0x0, 0⟩,
     ⟨0x2, 0x2, 5, 8, 1, 1, 0x0, 0⟩,
     ⟨0x3, 0x3, 5, 8, 1, 1, 0x0, 0⟩,
     ⟨0x4, 0x4, 3, 2, 1, 1, 0x0, 0⟩,
     ⟨0x5, 0x5, 5, 8, 1, 1, 0x0, 0⟩]⟩,
  ⟨0x7037, 1,
    [⟨0x1, 0x1, 5, 8, 1, 1, 0x0, 0⟩,
     ⟨0x2, 0x2, 5, 8, 1, 1, 0x0, 0⟩,
     ⟨0x3, 0x3, 5, 8, 1, 1, 0x0, 0⟩,
     ⟨0x4, 0x4, 5, 8, 1, 1, 0x0, 0⟩,
     ⟨0x5, 0x5, 5, 8, 1, 1, 0x0, 0⟩,
     ⟨0x6, 0x6, 5, 8, 1, 1, 0x0, 0⟩,
     ⟨0x7, 0x7, 5, 8, 1, 1, 0x0, 0⟩]⟩,
  ⟨0x7038, 1,
    [⟨0x1, 0x1, 5, 8, 1, 1, 0x0, 0⟩,
     ⟨0x2, 0x2, 5, 8, 1, 1, 0x0, 0⟩,
     ⟨0x3, 0x3, 5, 8, 1, 1, 0x0, 0⟩,
     ⟨0x4, 0x4, 5, 8, 1, 1, 0x0, 0⟩,
     ⟨0x5, 0x5, 5, 8, 1, 1, 0x0, 0⟩,
     ⟨0x6, 0x6, 5, 8, 1, 1, 0x0, 0⟩,
     ⟨0x7, 0x7, 5, 8, 1, 1, 0x0, 0⟩,
     ⟨0x8, 0x8, 5, 8, 1, 1, 0x0, 0⟩]⟩]

/-- Objects of the range 0x7040 to 0x7fff (R28). -/
def objsStatsC : List ObjFam := [
  ⟨0x7040, 1,
    [⟨0x1, 0x1, 5, 8, 1, 1, 0x0, 0⟩,
     ⟨0x2, 0x2, 5, 8, 1, 1, 0x0, 0⟩,
     ⟨0x3, 0x3, 5, 8, 1, 1, 0x0, 0⟩,
     ⟨0x4, 0x4, 5, 8, 1, 1, 0x0, 0⟩,
     ⟨0x5, 0x5, 5, 8, 1, 1, 0x0, 0⟩,
     ⟨0x6, 0x6, 5, 8, 1, 1, 0x0, 0⟩,
     ⟨0x7, 0x7, 5, 8, 1, 1, 0x0, 0⟩]⟩,
  ⟨0x7044, 1,
    [⟨0x1, 0x1, 5, 8, 1, 1, 0x0, 0⟩,
     ⟨0x2, 0x2, 5, 8, 1, 1, 0x0, 0⟩,
     ⟨0x3, 0x3, 5, 8, 1, 1, 0x0, 0⟩,
     ⟨0x4, 0x4, 5, 8, 1, 1, 0x0, 0⟩,
     ⟨0x5, 0x5, 5, 8, 1, 1, 0x0, 0⟩,
     ⟨0x6, 0x6, 5, 8, 1, 1, 0x0, 0⟩,
     ⟨0x7, 0x7, 5, 8, 1, 1, 0x0, 0⟩,
     ⟨0x8, 0x8, 5, 8, 1, 1, 0x0, 0⟩]⟩,
  ⟨0x7048, 1,
    [⟨0x1, 0x1, 5, 8, 1, 1, 0x0, 0⟩,
     ⟨0x2, 0x2, 5, 8, 1, 1, 0x0, 0⟩,
     ⟨0x3, 0x3, 5, 8, 1, 1, 0x0, 0⟩,
     ⟨0x4, 0x4, 5, 8, 1, 1, 0x0, 0⟩,
     ⟨0x5, 0x5, 5, 8, 1, 1, 0x0, 0⟩,
     ⟨0x6, 0x6, 5, 8, 1, 1, 0x0, 0⟩]⟩,
  ⟨0x7049, 1,
    [⟨0x1, 0x1, 5, 8, 1, 1, 0x0, 0⟩,
     ⟨0x2, 0x2, 5, 8, 1, 1, 0x0, 0⟩,
     ⟨0x3, 0x3, 5, 8, 1, 1, 0x0, 0⟩,
     ⟨0x4, 0x4, 5, 8, 1, 1, 0x0, 0⟩,
     ⟨0x5, 0x5, 5, 8, 1, 1, 0x0, 0⟩,
     ⟨0x6, 0x6, 5, 8, 1, 1, 0x0, 0⟩]⟩,
  ⟨0x704a, 1,
    [⟨0x1, 0x1, 5, 8, 1, 1, 0x0, 0⟩,
     ⟨0x2, 0x2, 5, 8, 1, 1, 0x0, 0⟩,
     ⟨0x3, 0x3, 5, 8, 1, 1, 0x0, 0⟩,
     ⟨0x4, 0x4, 5, 8, 1, 1, 0x0, 0⟩,
     ⟨0x5, 0x5, 5, 8, 1, 1, 0x0, 0⟩,
     ⟨0x6, 0x6, 5, 8, 1, 1, 0x0, 0⟩,
     ⟨0x7, 0x7, 5, 8, 1, 1, 0x0, 0⟩]⟩,
  ⟨0x7050, 1,
    [⟨0x1, 0x1, 5, 8, 1, 1, 0x0, 0⟩,
     ⟨0x2, 0x2, 5, 8, 1, 1, 0x0, 0⟩,
     ⟨0x3, 0x3, 5, 8, 1, 1, 0x0, 0⟩,
     ⟨0x4, 0x4, 5, 8, 1, 1, 0x0, 0⟩,
     ⟨0x5, 0x5, 5, 8, 1, 1, 0x0, 0⟩,
     ⟨0x6, 0x6, 5, 8, 1, 1, 0x0, 0⟩,
     ⟨0x7, 0x7, 5, 8, 1, 1, 0x0, 0⟩]⟩]

/-- Every defined index (R415). -/
def objIndex : List ObjFam :=
  objsIdentity ++ objsPorts ++ objsClocks ++ objsQueues ++ objsSpaces ++ objsGeode ++ objsTransfer ++ objsLapidary ++ objsPatterns ++ objsFrontEnd ++ objsWindows ++ objsDoublet ++ objsTocsin ++ objsSecurity ++ objsStatsA ++ objsStatsB ++ objsStatsC

end Sys2Proof.Machine
end

