-- ==== Sys2Proof/Machine/Objects.lean ====
section
/-! DEFINITION. Looking an object up in the index: its row, highest subindex, block and default (R24, R28, R32, R418). -/

namespace Sys2Proof.Machine

/-- The families that hold an index (index 0x3800 is one of its own beside 0x3800+t). -/
def objFams (i : Nat) : List ObjFam := objIndex.filter fun f => f.base ≤ i && i < f.base + f.count

/-- The rows of an index; none when the index is not defined (R28). -/
def objRows (i : Nat) : List ObjRow := (objFams i).flatMap (·.rows)

/-- The highest subindex defined at an index, the value of subindex 0 (R24). -/
def objHighest (i : Nat) : Nat := (objRows i).foldl (fun m r => max m r.subEnd) 0

/-- The row of an object; subindex 0 of a defined index is a U8 readable by both (R24). -/
def objRow (i s : Nat) : Option ObjRow :=
  if s = 0 then (if (objRows i).isEmpty then none else some ⟨0, 0, 2, 1, 1, 1, objHighest i, 0⟩)
  else (objRows i).find? fun r => r.sub ≤ s && s ≤ r.subEnd

/-- The BLOCK of an index, 0xFF when it is never gated (R418). -/
def objBlock (i : Nat) : Nat :=
  if 0x2000 ≤ i && i ≤ 0x2FFF then 0
  else if 0x4000 ≤ i && i ≤ 0x44FF then 1
  else if 0x3000 ≤ i && i ≤ 0x34FF then 2
  else if 0x3500 ≤ i && i ≤ 0x35FF then 3
  else if 0x3600 ≤ i && i ≤ 0x363F then 4
  else if 0x3700 ≤ i && i ≤ 0x37FF then 5
  else if 0x3800 ≤ i && i ≤ 0x38FF then 6
  else if i = 0x12F0 || (0x4800 ≤ i && i ≤ 0x483F) then 7
  else if i = 0x12F1 || (0x4840 ≤ i && i ≤ 0x487F) then 8
  else 0xFF

/-- N of a Tocsin source's counting window by default (R350, R368). -/
def tocDefaultN (n : Nat) : Nat :=
  if n ≤ 7 then 1
  else if n = 8 then 16
  else if n ≤ 15 then 255
  else if n ≤ 31 then (if n % 8 ≤ 3 then 16 else 255)
  else if n ≤ 47 then 1
  else if n ≤ 111 then 3
  else if n ≤ 119 then 1
  else if n ≤ 127 then 4
  else if n ≤ 159 then 2
  else if n ≤ 173 then 255
  else if n = 174 then 16
  else if n ≤ 176 then 255
  else if n = 177 then 16
  else if n = 178 then 255
  else if n = 179 then 16
  else if n ≤ 181 then 255
  else if n = 187 then 4
  else if n ≤ 189 then 16
  else 255

/-- W of a Tocsin source's counting window by default (R350). -/
def tocDefaultW (n : Nat) : Nat := if n ≤ 6 then 1000000 else 1000000000

/-- The nominal frequency of a clock domain in kHz, from its normal source (R339); RXCLK at the rate of TXCLK. -/
def domainNominal (d : Nat) : Nat :=
  if d = 1 || d = 2 || d = 25 then 2000000
  else if 3 ≤ d && d ≤ 8 then 1000000
  else if d = 9 || d = 10 then 100000
  else if d = 11 then 1500000
  else if 12 ≤ d && d ≤ 19 then 2500000
  else if d = 20 then 800000
  else if d = 21 then 12500
  else if d = 22 then 1000000
  else if d = 23 then 1000
  else 500000

/-- The default of an object (R24, R417): the row's, and those that the tables give by instance or by source. The trims, the serial
number and what firmware or the root of trust supplies have no fixed default and describe as 0. -/
def objDefault (i s : Nat) : Nat :=
  if i = 0x1000 && s = 2 then Config.pciVendorId.toNat
  else if i = 0x1000 && s = 3 then Config.pciDeviceId.toNat
  else if i = 0x3000 && s = 1 then 2
  else if 0x3000 ≤ i && i ≤ 0x33FF && 0x10 ≤ s && s ≤ 0x1F then 2 * 2 ^ 136
  else if i = 0x4400 && 1 ≤ s && s ≤ 4 then pack ((upFrom 0 1024).map fun q => (q % 256, 1))
  else if i = 0x4401 && s = 1 then pack ((upFrom 0 256).map fun g => (g % 32, 1))
  else if i = 0x4401 && s = 2 then pack ((upFrom 0 256).map fun _ => (2, 1))
  else if 0x1310 ≤ i && i ≤ 0x1311 && s = 1 then pack [(0, 1), (1, 1), (40, 2)]
  else if i = 0x1312 && s = 1 then pack [(0, 1), (1, 1), (30, 2)]
  else if i = 0x1313 && s = 1 then pack [(1, 1), (1, 1), (160, 2)]
  else if 0x1321 ≤ i && i ≤ 0x1339 && s = 3 then domainNominal (i - 0x1320)
  else if 0x5000 ≤ i && i ≤ 0x50BF && s = 3 then tocDefaultN (i - 0x5000)
  else if 0x5000 ≤ i && i ≤ 0x50BF && s = 4 then tocDefaultW (i - 0x5000)
  else match objRow i s with
    | some r => r.dflt
    | none => 0

end Sys2Proof.Machine
end

