-- ==== Sys2Proof/Machine/Ops.lean ====
section
/-! DEFINITION. The named operations every meaning uses: objects, statistics, events, boundary outputs, free values, time, the getters
and setters of the tables, and the pools. -/

namespace Sys2Proof.Machine

/-! Ports, outputs, events, time. -/

/-- The value of a port. -/
def two {α : Type} (t : Two α) (p : HPort) : α := match p with | .a => t.a | .b => t.b

/-- Replace the value of a port. -/
def setTwo {α : Type} (t : Two α) (p : HPort) (v : α) : Two α := match p with | .a => { t with a := v } | .b => { t with b := v }

/-- The number of a port in field maps: A 0, B 1. -/
def portNo (p : HPort) : Nat := match p with | .a => 0 | .b => 1

/-- The port of a number. -/
def portOf (b : Bool) : HPort := if b then .b else .a

/-- The bit of a port in a mask of ports. -/
def portBit (p : HPort) : Nat := match p with | .a => 1 | .b => 2

/-- A host port of the unit. -/
def getPort (c : Chip) (p : HPort) : Port := two c.port p

/-- Change a host port. -/
def modPort (c : Chip) (p : HPort) (f : Port → Port) : Chip := { c with port := setTwo c.port p (f (two c.port p)) }

/-- Is the link of a port up: L0, L0p or L1 (R322)? -/
def linkIsUp (c : Chip) (p : HPort) : Bool := let l := (getPort c p).link; l == 2 || l == 3 || l == 4

/-- May the unit issue requests on a port: link up, Bus Master Enable, D0, no FLR or shutdown running (R318)? -/
def canIssue (c : Chip) (p : HPort) : Bool :=
  let s := getPort c p
  linkIsUp c p && s.cfg.bme && !s.cfg.d3 && s.shut == 0

/-- Send something at the boundary. -/
def emit (c : Chip) (e : Emit) : Chip := { c with out := e :: c.out }

/-- An event on its way to Tocsin (R350): source, element, level, detail. -/
def raiseEv (c : Chip) (src elem level detail : Nat) : Chip :=
  { c with toc := { c.toc with raised := c.toc.raised ++ [⟨src, elem, level, detail⟩] } }

/-- Carillon now (R326). -/
def now (c : Chip) : Nat := c.clk.carillon

/-- Carillon advances to a later tick at which a timed event happens; it never goes back (R326). -/
def advance (c : Chip) (t : Nat) : Chip := { c with clk := { c.clk with carillon := max c.clk.carillon (t % 2 ^ 64) } }

/-- Carillon at a timed event that names tick `t`: the later of the two. -/
def nowAt (c : Chip) (t : Nat) : Nat := max c.clk.carillon (t % 2 ^ 64)

/-- Take one free value of `w` bits (the spec leaves the value open). -/
def takeFree (c : Chip) (w : Nat) : Nat × Chip := ((Config.freeValue c.free).toNat % 2 ^ w, { c with free := c.free + 1 })

/-! The NoC (R133). -/

/-- The route to an HBM address: this die or the other (R60, R69). -/
def hbmRoute (c : Chip) (a : Nat) : Nat := if bits a 39 1 = b2n c.unit1 then 0 else 1

/-- The NoC port of a request on a route: ADDR[11:7] on NOC_HBM and NOC_CLUSTER, none on any other route (R133). -/
def nocPort (route a : Nat) : Option Nat := if route = 0 || route = 2 then some (bits a 7 5) else none

/-- The parts of an extent in lines of `u` bytes: (address, length). -/
def pieces (u a n : Nat) : List (Nat × Nat) :=
  if n = 0 then []
  else (upFrom (a / u) ((a + n + u - 1) / u - a / u)).map fun k =>
    let lo := max a (u * k)
    (lo, min (a + n) (u * k + u) - lo)

/-- The parts of an extent in its 128-byte lines (R122, R261). -/
def lineParts (a n : Nat) : List (Nat × Nat) := pieces 128 a n

/-- Write bytes on a route, line by line. -/
def nocWrites (c : Chip) (route a : Nat) (bs : Bytes) : Chip :=
  (lineParts a bs.length).foldl (fun c p => emit c (.nocWrite route (nocPort route p.1) p.1 ((bs.drop (p.1 - a)).take p.2))) c

/-- Read bytes on a route, line by line. -/
def nocReads (c : Chip) (route a n : Nat) : Chip :=
  (lineParts a n).foldl (fun c p => emit c (.nocRead route (nocPort route p.1) p.1 p.2)) c

/-- Take `n` free values of 64 bits, as one number. -/
def takeWords (c : Chip) : Nat → Nat × Chip
  | 0 => (0, c)
  | n + 1 =>
    let r := takeWords c n
    let x := takeFree r.2 64
    (r.1 * 2 ^ 64 + x.1, x.2)

/-! Objects and statistics. -/

/-- The key of an object. -/
def objKey (i s : Nat) : Nat := i * 256 + s

/-- The value of a plain object. -/
def obj (c : Chip) (i s : Nat) : Nat := (tget c.objs (objKey i s)).getD (objDefault i s)

/-- Write a plain object; at its default it is not listed. -/
def setObj (c : Chip) (i s v : Nat) : Chip := { c with objs := tput c.objs (objDefault i s) (objKey i s) v }

/-- Return a plain object to its default. -/
def clearObj (c : Chip) (i s : Nat) : Chip := { c with objs := tdel c.objs (objKey i s) }

/-- Add to a U64 statistic (R417, R423). -/
def stat (c : Chip) (i s n : Nat) : Chip := setObj c i s ((obj c i s + n) % 2 ^ 64)

/-! Getters and setters of the tables. -/

/-- Space `s`. -/
def getSpace (c : Chip) (s : Nat) : Space := tgetD c.sp.spaces s (Space.reset s)

/-- Replace Space `s`. -/
def setSpace (c : Chip) (s : Nat) (v : Space) : Chip := { c with sp := { c.sp with spaces := tput c.sp.spaces (Space.reset s) s v } }

/-- Change Space `s`. -/
def modSpace (c : Chip) (s : Nat) (f : Space → Space) : Chip := setSpace c s (f (getSpace c s))

/-- Segment `n` of a Space. -/
def getSeg (sp : Space) (n : Nat) : Seg := tgetD sp.segs n Seg.reset

/-- Queue `q`. -/
def getQueue (c : Chip) (q : Nat) : Queue := tgetD c.bel.queues q Queue.reset

/-- Replace queue `q`. -/
def setQueue (c : Chip) (q : Nat) (v : Queue) : Chip := { c with bel := { c.bel with queues := tput c.bel.queues Queue.reset q v } }

/-- The intake lane of a queue (R183). -/
def laneOf (c : Chip) (l : Nat) : List (Nat × Nat × Bool) := tgetD c.bel.lanes l []

/-- Replace an intake lane. -/
def setLane (c : Chip) (l : Nat) (v : List (Nat × Nat × Bool)) : Chip := { c with bel := { c.bel with lanes := tput c.bel.lanes [] l v } }

/-- A producer value enters the lane of its queue (R183). -/
def pushValue (c : Chip) (q v : Nat) (bell : Bool) : Chip := setLane c (q % 4) (laneOf c (q % 4) ++ [(q, v % 2 ^ 32, bell)])

/-- Have the lanes room for one value of each queue of a list (R183)? -/
def lanesTake (c : Chip) (qs : List Nat) : Bool :=
  (upFrom 0 4).all fun l => (laneOf c l).length + (qs.filter fun q => q % 4 == l).length ≤ 256

/-- Change queue `q`. -/
def modQueue (c : Chip) (q : Nat) (f : Queue → Queue) : Chip := setQueue c q (f (getQueue c q))

/-- The configuration of a queue, object 0x2000+q.03 (R199). -/
def qConf (c : Chip) (q : Nat) : Nat := obj c (0x2000 + q) 3

/-- The home port of a queue (R177, R199). -/
def homePort (c : Chip) (q : Nat) : HPort := portOf (fld (qConf c q) 44 1 == 1)

/-- Channel `ch`. -/
def getChan (c : Chip) (ch : Nat) : Channel := tgetD c.xf.chans ch Channel.reset

/-- Replace channel `ch`. -/
def setChan (c : Chip) (ch : Nat) (v : Channel) : Chip := { c with xf := { c.xf with chans := tput c.xf.chans Channel.reset ch v } }

/-- Change channel `ch`. -/
def modChan (c : Chip) (ch : Nat) (f : Channel → Channel) : Chip := setChan c ch (f (getChan c ch))

/-- Table `t`. -/
def getTable (c : Chip) (t : Nat) : Table := tgetD c.lap.tables t Table.reset

/-- Replace table `t`. -/
def setTable (c : Chip) (t : Nat) (v : Table) : Chip := { c with lap := { c.lap with tables := tput c.lap.tables Table.reset t v } }

/-- Change table `t`. -/
def modTable (c : Chip) (t : Nat) (f : Table → Table) : Chip := setTable c t (f (getTable c t))

/-- Pattern `p`. -/
def getPat (c : Chip) (p : Nat) : Pattern := tgetD c.pat.pats p Pattern.reset

/-- Replace Pattern `p`. -/
def setPat (c : Chip) (p : Nat) (v : Pattern) : Chip := { c with pat := { c.pat with pats := tput c.pat.pats Pattern.reset p v } }

/-- Change Pattern `p`. -/
def modPat (c : Chip) (p : Nat) (f : Pattern → Pattern) : Chip := setPat c p (f (getPat c p))

/-- Slot `s`. -/
def getSlot (c : Chip) (s : Nat) : Slot := tgetD c.pat.slots s Slot.reset

/-- Replace slot `s`. -/
def setSlot (c : Chip) (s : Nat) (v : Slot) : Chip := { c with pat := { c.pat with slots := tput c.pat.slots Slot.reset s v } }

/-- Change slot `s`. -/
def modSlot (c : Chip) (s : Nat) (f : Slot → Slot) : Chip := setSlot c s (f (getSlot c s))

/-- Cluster Sequencer `k`. -/
def getClu (c : Chip) (k : Nat) : Cluster := tgetD c.pat.clusters k Cluster.reset

/-- Replace Cluster Sequencer `k`. -/
def setClu (c : Chip) (k : Nat) (v : Cluster) : Chip :=
  { c with pat := { c.pat with clusters := tput c.pat.clusters Cluster.reset k v } }

/-- Change Cluster Sequencer `k`. -/
def modClu (c : Chip) (k : Nat) (f : Cluster → Cluster) : Chip := setClu c k (f (getClu c k))

/-- The key of a launch. -/
def lkey (q e : Nat) : Nat := q * 2 ^ 32 + e

/-- The launch of entry `e` of queue `q`, if it runs. -/
def getLaunch (c : Chip) (q e : Nat) : Option Launch := tget c.pat.launches (lkey q e)

/-- Store a launch. -/
def setLaunch (c : Chip) (l : Launch) : Chip :=
  { c with pat := { c.pat with launches := tset c.pat.launches (lkey l.q l.e) l } }

/-- Change a launch. -/
def modLaunch (c : Chip) (q e : Nat) (f : Launch → Launch) : Chip :=
  match getLaunch c q e with
  | some l => setLaunch c (f l)
  | none => c

/-- A node of a launch. -/
def getNode (l : Launch) (n : Nat) : Option NodeRt := tget l.nodes n

/-- Change a node of a launch. -/
def modNode (c : Chip) (q e n : Nat) (f : NodeRt → NodeRt) : Chip :=
  modLaunch c q e fun l => { l with nodes := tmod l.nodes n f }

/-- A live set descriptor. -/
def getSd (c : Chip) (i : Nat) : Option SetDesc := tget c.xf.sds i

/-- Change a live set descriptor. -/
def modSd (c : Chip) (i : Nat) (f : SetDesc → SetDesc) : Chip := { c with xf := { c.xf with sds := tmod c.xf.sds i f } }

/-- A Tocsin source. -/
def getSrc (c : Chip) (n : Nat) : SrcSt := tgetD c.toc.srcs n SrcSt.reset

/-- Replace a Tocsin source. -/
def setSrc (c : Chip) (n : Nat) (v : SrcSt) : Chip := { c with toc := { c.toc with srcs := tput c.toc.srcs SrcSt.reset n v } }

/-- Is a block's clock enabled (R340)? -/
def enabled (c : Chip) (b : Nat) : Bool := bit c.clk.enables b

/-- Does the unit run all services: NORMAL, DOUBLET or SPLIT (R14)? -/
def serving (c : Chip) : Bool := c.mode == .normal || c.mode == .doublet || c.mode == .split

/-- The unit's own number (R8). -/
def unitNo (c : Chip) : Nat := b2n c.unit1

/-- The queue number that fault objects, set descriptors and records carry: the global one on unit 1 in DOUBLET (R282). -/
def globalQueue (c : Chip) (q : Nat) : Nat := if c.mode == .doublet && c.unit1 then 4096 + q else q

/-- The slot number that set descriptors and dispatch tags carry: the pair's one in DOUBLET, 32 to 63 on unit 1 (R283). -/
def pairSlot (c : Chip) (s : Nat) : Nat := if c.mode == .doublet && c.unit1 then 32 + s else s

/-- Can the bridge carry an access to the other die: UP, its port not gated, and not in an ISOLATED split (R60, R294)? -/
def bridgeUp (c : Chip) : Bool := c.dbl.bridge == 2 && enabled c 18 && !(c.mode == .split && c.dbl.kind == 2)

/-- Is channel `ch` in service: not fenced (R361)? -/
def chanInService (c : Chip) (ch : Nat) : Bool := bit c.toc.channels ch

/-- Is channel `ch` a launch channel (R106)? -/
def isLaunchChan (c : Chip) (ch : Nat) : Bool :=
  ch < 64 && chanInService c ch && !bit (obj c 0x3500 0x10) ch && !bit (obj c 0x3800 0x01) ch

/-! The structure pool and the working pool (R97, R98). -/

/-- First fit by address of a run in a region: the lowest start not meeting a used run; the candidates are the region's start and the
ends of used runs (R98). -/
def firstFit (base len want : Nat) (used : List (Nat × Nat)) : Option Nat :=
  let cands := (base :: used.map fun u => u.1 + u.2).filter fun a =>
    base ≤ a && a + want ≤ base + len && used.all fun u => !overlaps a want u.1 u.2
  cands.foldl (fun m a => match m with | none => some a | some b => some (min a b)) none

/-- BASE of the structure pool. -/
def spBase (c : Chip) : Nat := fld (obj c 0x3500 0x03) 0 8

/-- LENGTH of the structure pool. -/
def spLen (c : Chip) : Nat := fld (obj c 0x3500 0x03) 8 8

/-- Frame list `i`'s BASE, COUNT and GRAIN code (R105); 4 to 7 are the lists of the other die. -/
def listRec (c : Chip) (i : Nat) : Nat × Nat × Nat :=
  let v := if i < 4 then obj c 0x3500 0x01 else Config.otherLists.toNat
  let i := i % 4
  (fld v (16 * i) 8, fld v (16 * i + 8) 4, fld v (16 * i + 12) 1)

/-- Bytes of the frame table under a layout: 8 B per frame, rounded up to 2 MiB (R85). -/
def frameTableBytes (lists : Nat) : Nat :=
  roundUp (8 * (fld lists 8 4 + fld lists 24 4 + fld lists 40 4 + fld lists 56 4)) 0x200000

/-- The frame table's run, when a layout stands (R85). -/
def frameTableRun (c : Chip) : List (Nat × Nat) :=
  let n := frameTableBytes (obj c 0x3500 0x01)
  if n = 0 then [] else [(spBase c, n)]

/-- Allocate a run of 2 MiB units from the structure pool, first fit (R98). -/
def spAlloc (c : Chip) (bytes : Nat) : Option (Nat × Chip) :=
  let want := roundUp bytes 0x200000
  match firstFit (spBase c) (spLen c) want (frameTableRun c ++ c.geo.spUsed) with
  | some a => some (a, { c with geo := { c.geo with spUsed := (a, want) :: c.geo.spUsed } })
  | none => none

/-- Release a run to the structure pool (R98). -/
def spFree (c : Chip) (base : Nat) : Chip := { c with geo := { c.geo with spUsed := c.geo.spUsed.filter fun u => u.1 != base } }

/-- Round a working-pool request up: a power of two of at least 4 KiB (R97); 0 above 1 MiB. -/
def wpSize (bytes : Nat) : Nat :=
  ((upFrom 12 9).map fun k => 2 ^ k).find? (fun s => bytes ≤ s) |>.getD 0

/-- Blocks of the working pool in use, as (address, size): the buddy allocator's free space is everything else (R97). -/
def wpUsed (c : Chip) : List (Nat × Nat) := c.geo.wpBlocks

/-- Is the block of size `s` at `a` free? -/
def wpIsFree (c : Chip) (a s : Nat) : Bool := (wpUsed c).all fun u => !overlaps a s u.1 u.2

/-- Allocate a working-pool block (R97): the lowest aligned free block of the size (DESIGN CHOICE: the spec names no order). -/
def wpAlloc (c : Chip) (bytes : Nat) : Option (Nat × Nat × Chip) :=
  let s := wpSize bytes
  let v := obj c 0x3500 0x02
  let base := fld v 0 8
  let len := fld v 8 8
  if s = 0 then none else
  let cands := (base :: (wpUsed c).map fun u => base + roundUp (u.1 + u.2 - base) s).filter fun a => a + s ≤ base + len && wpIsFree c a s
  match cands.foldl (fun m a => match m with | none => some a | some b => some (min a b)) (none : Option Nat) with
  | some a => some (a, s, { c with geo := { c.geo with wpBlocks := (a, s) :: c.geo.wpBlocks } })
  | none => none

/-- Return a working-pool block; buddies merge at once, as the free space is what no block uses (R97). -/
def wpRelease (c : Chip) (a : Nat) : Chip := { c with geo := { c.geo with wpBlocks := c.geo.wpBlocks.filter fun u => u.1 != a } }

/-- Return a working-pool block that may be absent. -/
def wpReleaseOpt (c : Chip) (b : Option (Nat × Nat)) : Chip :=
  match b with
  | some x => wpRelease c x.1
  | none => c

/-- Free bytes of the working pool (object 0x3500.17). -/
def wpFreeBytes (c : Chip) : Nat := fld (obj c 0x3500 0x02) 8 8 - (wpUsed c).foldl (fun n u => n + u.2) 0

/-- Change the tenancy. -/
def modTen (c : Chip) (f : TenSt → TenSt) : Chip := { c with sec := { c.sec with ten := f c.sec.ten } }

/-- The number that stands for Lapidary where a queue's number stands: its pulls are moves of one node each, keyed by it and the number of the
pull (DESIGN CHOICE, log 116). -/
def lapQ : Nat := 8192

/-- A launch of a queue, not a Bootstrap command or a pull of Lapidary. -/
def ofQueue (q : Nat) : Bool := q != 0 && q != lapQ

end Sys2Proof.Machine
end

