-- ==== Sys2Proof/Machine/Domains.lean ====
section
/-! DEFINITION. Clock domains: their sources, their multiplexers, and which blocks they clock (R336, R339, R340, R345). -/

namespace Sys2Proof.Machine

/-- The state of PLL `k`: 0 OFF, 1 LOCKING, 2 READY, 3 FAILED (R348). -/
def pllState (c : Chip) (k : Nat) : Nat := c.clk.pll.getD k 0

/-- The PLL that a domain's normal source is taken from. -/
def domainPll (d : Nat) : Option Nat :=
  if d = 1 || d = 2 || d = 20 || d = 24 || d = 25 then some 0
  else if d = 3 || d = 4 || d = 7 || d = 8 then some 1
  else if d = 11 then some 2
  else if d = 22 then some 3
  else none

/-- Has a domain a fallback, and so a multiplexer (R339)? -/
def hasMux (d : Nat) : Bool := (1 ≤ d && d ≤ 25) && !((5 ≤ d && d ≤ 8) || (12 ≤ d && d ≤ 19) || d == 23)

/-- Does a domain run on its fallback? -/
def onFallback (c : Chip) (d : Nat) : Bool := bit c.clk.sel (d - 1)

/-- Is the normal source of a domain READY: its PLL, XREF0 for OECLK, FIRC for SBCLK? -/
def normalReady (c : Chip) (d : Nat) : Bool :=
  match domainPll d with
  | some k => pllState c k == 2
  | none => if d = 9 || d = 10 then c.clk.xref0 else c.clk.firc

/-- Does the fallback of a domain run: FIRC, or XREF0 for SBCLK? -/
def fallbackRuns (c : Chip) (d : Nat) : Bool := if d = 21 then c.clk.xref0 else c.clk.firc

/-- Does the source that a domain runs on now run? -/
def currentRuns (c : Chip) (d : Nat) : Bool := if onFallback c d then fallbackRuns c d else normalReady c d

/-- The status of a domain's multiplexer (R348). -/
def muxOf (c : Chip) (d : Nat) : Nat := c.clk.mux.getD (d - 1) 0

/-- Is a domain clocked (R343, R345)? Not once it has stopped, nor while its multiplexer hangs on an old clock that has stopped. -/
def domainRuns (c : Chip) (d : Nat) : Bool := !bit c.clk.stopped (d - 1) && !(muxOf c d == 1 && !currentRuns c d)

/-- The domain that clocks a block (R339, R340). -/
def blockDomain (b : Nat) : Nat :=
  if b = 4 || b = 5 || b = 7 then 2
  else if b = 9 then 11
  else if 10 ≤ b && b ≤ 17 then b + 2
  else if b = 18 then 25
  else if b = 19 then 24
  else 1

/-- Does a block run: its clock is enabled, and its domain is clocked (R340)? -/
def blockRuns (c : Chip) (b : Nat) : Bool := enabled c b && domainRuns c (blockDomain b)

end Sys2Proof.Machine
end

