-- ==== Sys2Proof/Machine/Flags.lean ====
section
/-! DEFINITION. The status registers that are functions of the state (UNIT_STATUS, TOCSIN_SUMMARY, INTX_STATUS, MBOX_STAT), the two
level-sensitive outputs they drive (INTA and SB_ALERT_N), and how a command ends: `put` and `event`. -/

namespace Sys2Proof.Machine

/-! Tocsin's summary (R350, R357). -/

/-- The group of a Tocsin source (R350). -/
def tocGroup (n : Nat) : Nat :=
  if n ≤ 15 then 0 else if n ≤ 23 then 1 else if n ≤ 31 then 2 else if n ≤ 47 then 3 else if n ≤ 111 then 4
  else if n ≤ 127 then 5 else if n ≤ 159 then 6 else if n ≤ 175 then 7 else if n ≤ 181 then 8 else if n ≤ 184 then 9 else 10

/-- Is a source listed at the level (R352)? -/
def anyLevel (c : Chip) (l : Nat) : Bool := c.toc.srcs.any fun x => x.2.level == l

/-- The GROUPS field of TOCSIN_SUMMARY (R357). -/
def tocGroups (c : Chip) : Nat :=
  (upFrom 0 11).foldl (fun m g => setBit m g (c.toc.srcs.any fun x => tocGroup x.1 == g && 2 ≤ x.2.level)) 0

/-- Bits [2:0] of TOCSIN_SUMMARY: ALERT, SEVERE, and FATAL from a Fatal until the Rough exit (R357). -/
def tocLow (c : Chip) : Nat := b2n (anyLevel c 2) + 2 * b2n (anyLevel c 3) + 4 * b2n (c.rough.kind == 2)

/-- TOCSIN_SUMMARY at BAR0+0x0_2000 (R357). -/
def tocsinSummary (c : Chip) : Nat := tocLow c + 2 ^ 16 * tocGroups c

/-- TOCSIN_PENDING (R17, R358). -/
def tocsinPending (c : Chip) : Bool := tocsinSummary c != 0

/-! UNIT_STATUS, INTX_STATUS, MBOX_STAT. -/

/-- The encoding of the mode (R14). -/
def modeCode (m : Mode) : Nat :=
  match m with | .boot => 0 | .rough => 1 | .normal => 2 | .doublet => 3 | .split => 4

/-- UNIT_STATUS at BAR0+0x0_1000 (R17); HOLDOVER follows the discipline's state HOLDOVER (R348). -/
def unitStatus (c : Chip) : Nat :=
  packBits [(modeCode c.mode, 3), (0, 1), (unitNo c, 1), (0, 3), (b2n c.port.a.attached, 1), (b2n c.port.b.attached, 1),
    (b2n (tocsinPending c), 1), (b2n (c.clk.disc.state == 3), 1)]

/-- INTX_STATUS at BAR0+0x0_1050 of a port (R310). -/
def intxStatus (c : Chip) (p : HPort) : Nat := b2n (tocsinPending c) + 2 * b2n (getPort c p).mgmt

/-- The state code of a mailbox (R35). -/
def mboxCode (m : MboxState) : Nat := match m with | .idle => 0 | .busy => 1 | .done => 2

/-- MBOX_STAT at BAR0+0x0_1044 of a port (R35). -/
def mboxStat (c : Chip) (p : HPort) : Nat :=
  let m := two c.dict.mbox p
  mboxCode m.state + 256 * b2n m.protoErr

/-- Should the virtual INTA wire of a port be asserted: the four conditions of R309. -/
def intaWanted (c : Chip) (p : HPort) : Bool :=
  let s := getPort c p
  ((bit (intxStatus c p) 0 && bit s.intxEn 0) || (bit (intxStatus c p) 1 && bit s.intxEn 1)) && !s.cfg.intDisable && !s.cfg.d3
    && linkIsUp c p

/-- Should SB_ALERT_N be driven low (R358)? -/
def sbAlertWanted (c : Chip) : Bool :=
  let e := obj c 0x5100 7
  (bit (tocLow c) 0 && bit e 0) || (bit (tocLow c) 1 && bit e 1) || (bit (tocLow c) 2 && bit e 2)

/-! How a command ends. -/

/-- Bring the INTA wire of a port to its conditions; Assert_INTA or Deassert_INTA is sent when it changes and the link is up (R309). -/
def settleInta (c : Chip) (p : HPort) : Chip :=
  if (getPort c p).inta == intaWanted c p then c
  else
    let w := intaWanted c p
    let c := modPort c p fun s => { s with inta := w }
    if linkIsUp c p then emit c (.inta p w) else c

/-- Bring SB_ALERT_N to its condition (R358); the pin is low when the alert is wanted. -/
def settleAlert (c : Chip) : Chip := { c with toc := { c.toc with sbAlertN := !sbAlertWanted c } }

/-- The level-sensitive outputs follow the state at once: SB_ALERT_N, INTA of Port A, INTA of Port B (R309, R358). -/
def settle (c : Chip) : Chip := settleInta (settleInta (settleAlert c) .a) .b

/-- The state after a command: the unit settled, the queue untouched. -/
def put (s : State) (c : Chip) : State := { s with toChip := settle c }

/-- An event: its effect when its conditions hold, a fault of its name otherwise. -/
def event (name : String) (due : Bool) (c : Chip) (s : State) : Host.Outcome State Fault Refusal :=
  if due then .next (put s c) else .fault (.notDue name)

/-- The meaning of an event of a block: it happens only while the block runs (R340). -/
def eventOn (b : Nat) (name : String) (due : Bool) (c : Chip) (s : State) : Host.Outcome State Fault Refusal :=
  event name (blockRuns s.toChip b && due) c s

end Sys2Proof.Machine
end

