-- ==== Sys2Proof/Machine/Operands.lean ====
section
/-! DEFINITION. Field maps: request and response frames (R29, R30), segment descriptors (R57), facets (R61), configuration objects read
by several parts. -/

namespace Sys2Proof.Machine

/-! Bytes. -/

/-- The `n` bytes from offset `o` of a byte string as a little-endian value; bytes past its end read as 0. -/
def bfld (bs : Bytes) (o n : Nat) : Nat := leNat ((bs.drop o).take n)

/-- `n` zero bytes. -/
def zeros (n : Nat) : Bytes := List.replicate n 0

/-- A byte string cut or zero-padded to `n` bytes. -/
def padTo (n : Nat) (bs : Bytes) : Bytes := bs.take n ++ zeros (n - bs.length)

/-- A byte string with `new` laid over it at offset `o`. -/
def overlay (old : Bytes) (o : Nat) (new : Bytes) : Bytes := padTo o old ++ new ++ old.drop (o + new.length)

/-! Frames. -/

/-- A request frame out of a byte string that holds its header (R29). Reserved bits, and OFFSET and FLAGS of opcodes that do not use
them, are ignored (R7). -/
def parseReq (bs : Bytes) : Req :=
  let op := bfld bs 0 1
  let len := bfld bs 8 4
  let seg := op == 4 || op == 5
  { op := op
    flags := if op = 5 then bfld bs 1 1 % 4 else 0
    tag := bfld bs 2 2
    index := bfld bs 4 2
    sub := bfld bs 6 1
    len := len
    off := if seg then bfld bs 12 4 else 0
    payload := if op = 2 || op = 5 then (bs.drop 16).take (min len 2032) else [] }

/-- A response frame's bytes (R30). -/
def respBytes (r : Resp) : Bytes :=
  leBytes 16 (pack [(r.op, 1), (r.status, 1), (r.tag, 2), (r.index, 2), (r.sub, 1), (0, 1), (r.payload.length, 4), (r.total, 4)])
    ++ r.payload

/-- A WRITE frame's request, as a command row carries it. -/
def writeReq (tag index sub : Nat) (payload : Bytes) : Req := ⟨2, 0, tag, index, sub, payload.length, 0, payload⟩

/-- The master of a presenter (R26): the side-band is S; every other presenter carries the rights of H. -/
def masterOf (src : Src) : Master := match src with | .sideband => .s | _ => .h

/-! Reserved fields of stored objects (R7). -/

/-- The byte fields of a stored STRUCT that has reserved bytes (R105, R174, R297, R348, R397, R398), as (offset, width); none listed: every
byte is a field. -/
def recFields (i s : Nat) : List (Nat × Nat) :=
  if i = 0x3500 && s = 1 then [(0, 13), (16, 13), (32, 13), (48, 13)]
  else if 0x1310 ≤ i && i ≤ 0x1313 && s = 1 then [(0, 8)]
  else if 0x3801 ≤ i && i ≤ 0x38FF && s = 1 then [(0, 5), (6, 18)]
  else if i = 0x4910 && s = 1 then [(0, 1), (2, 2)]
  else if i = 0x6008 && s = 1 then (upFrom 0 32).flatMap fun k => [(24 * k, 3), (24 * k + 8, 16)]
  else if i = 0x6020 && s = 7 then (upFrom 0 16).flatMap fun k => [(16 * k, 5), (16 * k + 8, 8)]
  else []

/-- The value that an object holds after a value was given to it: reserved bits are ignored and read as 0 (R7). -/
def storedVal (i s v : Nat) : Nat :=
  if i = 0x5100 && s = 7 then v % 8 else if (recFields i s).isEmpty then v else keepFields (recFields i s) v

/-! Segment descriptors (R57). -/

/-- A segment descriptor out of a written 64-byte value; the fields marked r are ignored (R57). -/
def segOf (v : Nat) : Seg :=
  { kind := bits v 128 4, cls := bits v 132 4, start := bits v 0 56, len := bits v 64 56, target := bits v 160 64,
    grain := bits v 136 4, tableId := bits v 144 8, sealed := bit v 143, ns := bit v 142, portB := bit v 141, faultWait := bit v 140,
    facetCount := bits v 320 21, tableBase := 0, effGen := 0 }

/-- The 64-byte value of a segment descriptor (R57). -/
def segVal (s : Seg) : Nat :=
  packBits [(s.start, 56), (0, 8), (s.len, 56), (0, 8), (s.kind, 4), (s.cls, 4), (s.grain, 4), (b2n s.faultWait, 1), (b2n s.portB, 1),
    (b2n s.ns, 1), (b2n s.sealed, 1), (s.tableId, 8), (0, 8), (s.target, 64), (0, 32), (s.tableBase, 40), (0, 24), (s.facetCount, 21),
    (0, 43), (s.effGen, 32)]

/-- The bytes of a grain of a segment (R57). -/
def grainBytes (s : Seg) : Nat := 2 ^ (14 + s.grain)

/-- The grains of a Tiered segment. -/
def grainCount (s : Seg) : Nat := s.len / grainBytes s

/-- A facet out of its 16-byte value (R61). -/
def facetOf (v : Nat) : Facet :=
  { portB := bit v 108, cls := bits v 104 4, taddr := bits v 52 52, ns := bit v 44, start := bits v 0 44 }

/-- The 16-byte value of a facet (R61). -/
def facetVal (f : Facet) : Nat := packBits [(f.start, 44), (b2n f.ns, 1), (0, 7), (f.taddr, 52), (f.cls, 4), (b2n f.portB, 1)]

/-- A list of facets out of the bytes read from the host. -/
def facetsOf (bs : Bytes) : Nat → List Facet
  | 0 => []
  | n + 1 => facetOf (bfld bs 0 16) :: facetsOf (bs.drop 16) n

/-! Entries (R69). -/

/-- The address word of an entry (R69). -/
def addrWord (e : Entry) : Nat := packBits [(e.addr, 60), (b2n e.sealed, 1), (e.route, 3)]

/-- An entry in its form: a ROW entry is one address word; a RUN entry adds LENGTH, 0 for 2^24, and LOGICAL (R69). -/
def entryBytes (form : Nat) (e : Entry) : Bytes :=
  if form = 1 then leBytes 8 (addrWord e) else leBytes 16 (packBits [(addrWord e, 64), (e.len, 24), (e.logical, 40)])

/-- No Snoop of an entry at a position of the stream (R123). -/
def nsAt (e : Entry) (o : Nat) : Bool := (((e.ns.filter fun x => x.1 ≤ o).getLast?).map (·.2)).getD false

/-- No Snoop of an entry that has one value, from its first byte on. -/
def nsFrom (ns : Bool) (o : Nat) : List (Nat × Bool) := if ns then [(o, true)] else []

/-- No Snoop of two contiguous runs merged (R69): that of the second goes on where it differs. -/
def nsJoin (p e : Entry) : List (Nat × Bool) :=
  if nsAt p (p.logical + p.len - 1) == nsAt e e.logical then p.ns else p.ns ++ [(e.logical, nsAt e e.logical)]

/-- A region's 96 bytes (R68): `list` is the address of its cut list. -/
def regionVal (r : Region) : Nat :=
  let n := r.entries.length
  let inl := match r.block with | some _ => [] | none => r.entries
  packBits [(r.form, 2), (b2n r.block.isSome, 1), (0, 5), (r.seg, 4), (0, 4), (inl.length, 16), (if r.block.isSome then n else 0, 32),
    ((r.block.map (·.1)).getD 0, 64), (leNat (inl.flatMap (entryBytes r.form)), 640)]

/-- Does a route lead to a host port, and to which: routes 3 and 5 to Port A, 4 and 6 to Port B (R69)? -/
def routePort (r : Nat) : Option HPort :=
  if r = 3 || r = 5 then some .a else if r = 4 || r = 6 then some .b else none

/-- Is the route to HBM of either die? -/
def routeHbm (r : Nat) : Bool := r == 0 || r == 1

end Sys2Proof.Machine
end

