-- ==== Sys2Proof/Machine/HostAccess.lean ====
section
/-! DEFINITION. How a port meets a host memory request (R305 to R307, R319, R320), and its error log (R315). -/

namespace Sys2Proof.Machine

/-- Log an uncorrectable error (bit of the AER status register) and send its message: 0x31 ERR_NONFATAL or 0x33 ERR_FATAL (R315). -/
def aerUncorrectable (c : Chip) (p : HPort) (b msg : Nat) : Chip :=
  emit (modPort c p fun s => { s with cfg := { s.cfg with aerUnc := setBit s.cfg.aerUnc b true } }) (.message p msg)

/-- Log a correctable error and send ERR_COR, 0x30 (R315). -/
def aerCorrectable (c : Chip) (p : HPort) (b : Nat) : Chip :=
  emit (modPort c p fun s => { s with cfg := { s.cfg with aerCor := setBit s.cfg.aerCor b true } }) (.message p 0x30)

/-- An uncorrectable error that the port treats as Advisory Non-Fatal: its own status bit, the advisory bit 13, ERR_COR (R315). -/
def aerAdvisory (c : Chip) (p : HPort) (b : Nat) : Chip :=
  aerCorrectable (modPort c p fun s => { s with cfg := { s.cfg with aerUnc := setBit s.cfg.aerUnc b true } }) p 13

/-- Can a host memory request arrive on the port: its link is up and its configuration space answers (R307, R319)? -/
def hostReach (c : Chip) (p : HPort) : Bool := linkIsUp c p && (getPort c p).ready

/-- Can a host memory write arrive: an intake lane that is full withholds the port's posted-request credits (R183)? -/
def hostPosts (c : Chip) (p : HPort) : Bool := hostReach c p && (upFrom 0 4).all fun l => (laneOf c l).length < 256

/-- Does the port decode memory requests: D0, Memory Space Enable, and no FLR running (R307, R319, R320)? -/
def hostDecodes (c : Chip) (p : HPort) : Bool :=
  let s := getPort c p
  !s.cfg.d3 && s.cfg.mse && s.shut != 1

/-- A host posted write that completes with UR: discarded and logged as Unsupported Request, bit 20, ERR_NONFATAL (R307, R315). -/
def urWrite (c : Chip) (p : HPort) : Chip := stat (aerUncorrectable c p 20 0x31) (0x7012 + portNo p) 7 1

/-- A host read that completes with UR: a completion with UR status (1), logged as Advisory Non-Fatal (R307, R315). -/
def urRead (c : Chip) (p : HPort) : Chip := emit (stat (aerAdvisory c p 20) (0x7012 + portNo p) 7 1) (.completion p 1 [])

/-- A host write of `n` bytes to a register: done when the port decodes the request and the access is allowed, UR otherwise (R307). Its payload is
counted (R325). -/
def hostWrite (c : Chip) (p : HPort) (n : Nat) (allowed : Bool) (f : Chip → Chip) : Chip :=
  let c := stat c (0x7012 + portNo p) 2 n
  if hostDecodes c p && allowed then f c else urWrite c p

/-- A completion with data; its payload is counted (R325). -/
def complete (c : Chip) (p : HPort) (st : Nat) (bs : Bytes) : Chip := emit (stat c (0x7012 + portNo p) 1 bs.length) (.completion p st bs)

/-- A host read of a register: answered with its data when the port decodes it and the access is allowed, UR otherwise (R307). -/
def hostRead (c : Chip) (p : HPort) (allowed : Bool) (f : Chip → Bytes × Chip) : Chip :=
  if hostDecodes c p && allowed then
    let r := f c
    complete r.2 p 0 r.1
  else urRead c p

/-- What the port logs when a read of the unit's ends (R315, R316): Received Master or Target Abort, Poisoned TLP Received, Completion
Timeout with a Note of source 20 + 8p. -/
def logRead (c : Chip) (p : HPort) (r : RdResult) : Chip :=
  match r with
  | .ur => modPort c p fun s => { s with cfg := { s.cfg with rma := true } }
  | .ca => modPort c p fun s => { s with cfg := { s.cfg with rta := true } }
  | .poison => aerAdvisory c p 12
  | .timeout => raiseEv (stat (aerUncorrectable c p 14 0x31) (0x7012 + portNo p) 6 1) (20 + 8 * portNo p) 0 1 0
  | .data bs => stat c (0x7012 + portNo p) 2 bs.length
  | .linkDown => c

end Sys2Proof.Machine
end

