-- ==== Sys2Proof/Machine/PeerOps.lean ====
section
/-! DEFINITION. The Peer Gateway's tables and answers (R256 to R264), which the dictionary service needs to answer a post. -/

namespace Sys2Proof.Machine

/-- Peer window `w`. -/
def getWin (c : Chip) (w : Nat) : PeerWin := tgetD c.peer.wins w PeerWin.reset

/-- Change peer window `w`. -/
def modWin (c : Chip) (w : Nat) (f : PeerWin → PeerWin) : Chip :=
  { c with peer := { c.peer with wins := tput c.peer.wins PeerWin.reset w (f (getWin c w)) } }

/-- PEER_COMMIT_DRAINED (R258 step 4): no packet of an older set is left. -/
def commitDrained (c : Chip) : Chip :=
  if c.peer.status = 1 && c.peer.packets.all fun x => x.set == c.peer.setNo then
    stat { c with peer := { c.peer with status := 2 } } 0x7048 6 1
  else c

/-- A refusal (R262): its response, the count, and Last refusal of the window that matched. -/
def refuse (c : Chip) (node code detail : Nat) (w : Option Nat) : Chip :=
  let c := stat c 0x7048 3 1
  let c := match w with
    | some w => modWin c w fun x => { x with refusal := pack [(code, 1), (detail, 1), (node, 2), (0, 4), (now c, 8)] }
    | none => c
  emit c (.peerResponse node code detail [])

/-- A tracked packet. -/
def getPacket (c : Chip) (id : Nat) : Option Inbound := c.peer.packets.find? fun x => x.id == id

/-- A packet that waits for its response is tracked (R255). -/
def track (c : Chip) (x : Inbound) : Chip := { c with peer := { c.peer with packets := c.peer.packets ++ [x], nextPkt := x.id + 1 } }

/-- A packet leaves the tracker, and with the last of an older set the commit is done (R258). -/
def untrack (c : Chip) (id : Nat) : Chip :=
  commitDrained { c with peer := { c.peer with packets := c.peer.packets.filter fun y => y.id != id } }

/-- The dictionary service answers a post of the gateway (R262, R264): ACK when it completed OK, otherwise POST_REFUSED with the status as
its detail. The oldest post with the record is the one answered. -/
def peerAnswer (c : Chip) (rec : Bytes) (st : Nat) : Chip :=
  match c.peer.posts.find? fun x => x.2.2 == rec with
  | none => c
  | some p =>
    let c := { c with peer := { c.peer with posts := ldel c.peer.posts (· == p) } }
    match getPacket c p.1 with
    | none => c
    | some x => untrack (if st = 0 then emit c (.peerResponse x.node 0 0 []) else refuse c x.node 4 st (some x.win)) p.1

end Sys2Proof.Machine
end

