-- ==== Sys2Proof/Machine/Sha.lean ====
section
/-! DEFINITION. SHA-384 (FIPS 180-4), which the spec names for the store DIGEST (R46), the lineage digest (R164), the bundle
blocks (R372), the identity key digest, the measurements (R386) and DIGEST (R232). -/

namespace Sys2Proof.Machine

/-- One 64-bit word of the hash. -/
abbrev ShaWord := BitVec 64

/-- The greatest `r` below `2 ^ n`, at or above `r`, whose power `e` does not exceed `x`, found bit by bit from the highest. -/
def intRoot (e x r : Nat) : Nat → Nat
  | 0 => r
  | n + 1 => intRoot e x (if (r + 2 ^ n) ^ e ≤ x then r + 2 ^ n else r) n

/-- The first 64 bits of the fractional part of the `e`-th root of a number (FIPS 180-4 takes its constants from such roots). -/
def rootFraction (e p : Nat) : ShaWord := BitVec.ofNat 64 (intRoot e (p * 2 ^ (64 * e)) 0 67)

/-- The primes below 410: the first 80. -/
def shaPrimes : List Nat := (upFrom 2 408).filter fun n => (upFrom 2 19).all fun d => n % d != 0 || n == d

/-- The 80 round constants: the fractions of the cube roots of the first 80 primes (FIPS 180-4). -/
def shaK : List ShaWord := shaPrimes.map (rootFraction 3)

/-- The working variables a to h. -/
structure ShaVars where
  a : ShaWord
  b : ShaWord
  c : ShaWord
  d : ShaWord
  e : ShaWord
  f : ShaWord
  g : ShaWord
  h : ShaWord
  deriving DecidableEq, Repr, Inhabited

/-- The initial hash value of SHA-384: the fractions of the square roots of the ninth to sixteenth primes (FIPS 180-4). -/
def sha384Init : ShaVars :=
  let h := fun (n : Nat) => rootFraction 2 (shaPrimes.getD n 0)
  ⟨h 8, h 9, h 10, h 11, h 12, h 13, h 14, h 15⟩

/-- Rotate right. -/
def ror (x : ShaWord) (n : Nat) : ShaWord := (x >>> n) ||| (x <<< (64 - n))

/-- One compression round with round constant `k` and schedule word `w`. -/
def shaRound (v : ShaVars) (k w : ShaWord) : ShaVars :=
  let s1 := ror v.e 14 ^^^ ror v.e 18 ^^^ ror v.e 41
  let ch := (v.e &&& v.f) ^^^ (~~~v.e &&& v.g)
  let t1 := v.h + s1 + ch + k + w
  let s0 := ror v.a 28 ^^^ ror v.a 34 ^^^ ror v.a 39
  let maj := (v.a &&& v.b) ^^^ (v.a &&& v.c) ^^^ (v.b &&& v.c)
  ⟨t1 + (s0 + maj), v.a, v.b, v.c, v.d + t1, v.e, v.f, v.g⟩

/-- The next schedule word from the last sixteen, oldest first. -/
def shaNext (ws : List ShaWord) : ShaWord :=
  let w1 := ws.getD 1 0
  let w14 := ws.getD 14 0
  let s0 := ror w1 1 ^^^ ror w1 8 ^^^ (w1 >>> 7)
  let s1 := ror w14 19 ^^^ ror w14 61 ^^^ (w14 >>> 6)
  s1 + ws.getD 9 0 + s0 + ws.getD 0 0

/-- The rounds of one block: `ws` is the window of sixteen schedule words. -/
def shaRounds (v : ShaVars) (ws : List ShaWord) : List ShaWord → ShaVars
  | [] => v
  | k :: ks => shaRounds (shaRound v k (ws.headD 0)) (ws.drop 1 ++ [shaNext ws]) ks

/-- The big-endian value of bytes. -/
def beWord (bs : Bytes) : ShaWord := bs.foldl (fun w b => (w <<< 8) ||| b.setWidth 64) 0

/-- A block of 128 bytes as sixteen words. -/
def blockWords (bs : Bytes) : Nat → List ShaWord
  | 0 => []
  | n + 1 => beWord (bs.take 8) :: blockWords (bs.drop 8) n

/-- Fold one block into the hash value. -/
def shaBlock (v : ShaVars) (bs : Bytes) : ShaVars :=
  let r := shaRounds v (blockWords bs 16) shaK
  ⟨v.a + r.a, v.b + r.b, v.c + r.c, v.d + r.d, v.e + r.e, v.f + r.f, v.g + r.g, v.h + r.h⟩

/-- Fold `n` blocks. -/
def shaBlocks (v : ShaVars) (bs : Bytes) : Nat → ShaVars
  | 0 => v
  | n + 1 => shaBlocks (shaBlock v (bs.take 128)) (bs.drop 128) n

/-- The padded message: 0x80, zeros, and the bit length as a 128-bit big-endian number. -/
def shaPad (bs : Bytes) : Bytes :=
  let z := (239 - bs.length % 128) % 128
  bs ++ [0x80] ++ List.replicate z 0 ++ (leBytes 16 (8 * bs.length)).reverse

/-- The eight bytes of a word, big-endian. -/
def wordBytes (w : ShaWord) : Bytes := (leBytes 8 w.toNat).reverse

/-- SHA-384 of a byte string: 48 bytes. -/
def sha384 (bs : Bytes) : Bytes :=
  let p := shaPad bs
  let v := shaBlocks sha384Init p (p.length / 128)
  wordBytes v.a ++ wordBytes v.b ++ wordBytes v.c ++ wordBytes v.d ++ wordBytes v.e ++ wordBytes v.f

end Sys2Proof.Machine
end

