-- ==== Sys2Proof/Machine/Dictionary.lean ====
section
/-! DEFINITION. The dictionary service (R24 to R49): the checks of R34, responses, DOMAIN staging and read views, mirrored entries, and the
commands of the mailbox, the side-band and the configuration store. -/

namespace Sys2Proof.Machine

/-! Which objects a mode serves. -/

/-- The Rough mode set (R364), with subindex 0 of every index that holds one of its objects. -/
def roughServes (i s : Nat) : Bool :=
  (0x1000 ≤ i && i ≤ 0x10FF) || (i == 0x1100 && s ≤ 4) || i == 0x1200 || i == 0x1210 || i == 0x1211 || (0x1300 ≤ i && i ≤ 0x13FF)
    || i == 0x2000 || i == 0x3000 || (i == 0x3400 && s ≤ 1) || (0x3600 ≤ i && i ≤ 0x363F) || (0x4900 ≤ i && i ≤ 0x49FF)
    || (0x5000 ≤ i && i ≤ 0x51FF) || (0x6000 ≤ i && i ≤ 0x60FF) || (0x7000 ≤ i && i ≤ 0x7FFF)

/-- The objects served in BOOT (R14) and before MCLK runs (R41). -/
def bootServes (i s : Nat) : Bool := (0x1000 ≤ i && i ≤ 0x10FF) || (i == 0x1100 && s == 1)

/-- Does the mode serve an object (step 3 of R34)? -/
def modeServes (c : Chip) (i s : Nat) : Bool :=
  match c.mode with
  | .boot => bootServes i s
  | .rough => roughServes i s
  | _ => true

/-- Is an object's block gated (step 4 of R34, R340)? -/
def isGated (c : Chip) (i : Nat) : Bool := objBlock i != 0xFF && !enabled c (objBlock i)

/-- Has a master the right that an opcode needs (R26)? READ and READ_SEG need r, WRITE and WRITE_SEG need w, DESCRIBE neither. -/
def hasRight (r : ObjRow) (m : Master) (op : Nat) : Bool :=
  let acc := match m with | .h => r.accH | .s => r.accS
  if op = 3 then true else if op = 1 || op = 4 then bit acc 0 else bit acc 1

/-- Is a written value outside the encoding of its type (R25)? -/
def badEncoding (typ v : Nat) : Bool := (typ == 1 && v > 1) || (typ == 9 && v ≥ 2 ^ 56)

/-- Steps 1 to 7 of R34 and the type's part of step 8: the first status that applies, 0 when none does. Before MCLK runs only READ and
DESCRIBE of the objects of R41 are served. -/
def check (c : Chip) (src : Src) (rq : Req) : Nat :=
  if !c.boot.mclkRuns && !((rq.op == 1 || rq.op == 3) && bootServes rq.index rq.sub) then 7
  else match objRow rq.index rq.sub with
  | none => if (objRows rq.index).isEmpty then 1 else 2
  | some r =>
    if rq.op = 0 || rq.op > 5 then 4
    else if rq.op != 3 && !modeServes c rq.index rq.sub then 7
    else if rq.op != 3 && isGated c rq.index then 9
    else if !hasRight r (masterOf src) rq.op then 3
    else if (rq.op = 1 || rq.op = 2) && r.typ = 12 then 4
    else if (rq.op = 4 || rq.op = 5) && r.typ != 12 then 4
    else if (rq.op = 1 || rq.op = 3) && rq.len != 0 then 8
    else if rq.op = 2 && (rq.len != r.size || rq.payload.length != rq.len) then 8
    else if (rq.op = 4 || rq.op = 5) && rq.len > 2032 then 8
    else if rq.op = 2 && badEncoding r.typ (leNat rq.payload) then 5
    else 0

/-! Mirrored entries (R286, R287). -/

/-- The mirrored entry that an object belongs to (R286). -/
def mirrorEntry (i s : Nat) : Option (MirrorKind × Nat) :=
  if 0x3000 ≤ i && i ≤ 0x33FF then some (.space, i - 0x3000)
  else if i = 0x3800 then some (.lapidary, 0)
  else if 0x3801 ≤ i && i ≤ 0x38FF then some (.table, i - 0x3800)
  else if 0x4000 ≤ i && i ≤ 0x43FF then some (.pattern, i - 0x4000)
  else if i = 0x44F0 && s = 1 then some (.package, 0)
  else none

/-- The code of a mirrored kind (object 0x4910.01, R297). -/
def mirrorCode (k : MirrorKind) : Nat :=
  match k with | .space => 0 | .pattern => 1 | .table => 2 | .lapidary => 3 | .package => 4

/-- The key of a mirrored entry's sequence. -/
def mirrorKey (k : MirrorKind) (n : Nat) : Nat := mirrorCode k * 65536 + n

/-- The facet table of a segment as it travels with its Space. -/
def tabContent (t : FacetTab) : Bytes :=
  leBytes 12 (pack [(t.base, 8), (t.facets.length, 4)]) ++ t.facets.flatMap fun f => leBytes 16 (facetVal f)

/-- The content of a mirrored entry as it travels over the bridge (R287); the layout is the model's own (DESIGN CHOICE: the spec gives
none). A Space carries with it whether its newest generation began with a hard bump, and its facet tables. -/
def mirrorContent (c : Chip) (k : MirrorKind) (n : Nat) : Bytes :=
  match k with
  | .space =>
    let sp := getSpace c n
    let hard := c.sp.bumps.any fun b => b.space == n && b.hard && b.gen == sp.gen && b.phase != BumpPhase.waiting
    leBytes 18 (pack [(sp.state, 1), (sp.gen, 4), (obj c (0x3000 + n) 7, 4), (obj c (0x3000 + n) 8, 8), (b2n hard, 1)])
      ++ ((upFrom 0 16).flatMap fun i => leBytes 64 (segVal (getSeg sp i)))
      ++ (upFrom 0 16).flatMap fun i => match tget sp.tabs i with | some t => leBytes 1 i ++ tabContent t | none => []
  | .pattern =>
    let p := getPat c n
    leBytes 9 (pack [(p.state, 1), (p.gran, 4), (p.granLen, 4)]) ++ p.image
  | .table =>
    let t := getTable c n
    leBytes 1 t.state ++ leBytes 4 t.epoch ++ leBytes 4 t.lastSeq ++ padTo 48 t.lineage ++ leBytes 32 (obj c (0x3800 + n) 1)
  | .lapidary => leBytes 8 (obj c 0x3800 1) ++ leBytes 4 (obj c 0x3800 6) ++ leBytes 8 (obj c 0x3800 7)
  | .package => leBytes 4 (obj c 0x44F0 1)

/-- Is a mirrored entry frozen (R290)? -/
def isFrozen (c : Chip) (k : MirrorKind) (n : Nat) : Bool := c.dbl.frozen.contains (k, n)

/-- Does this unit lead mirrored writes: unit 0 in DOUBLET (R286)? -/
def leadsMirror (c : Chip) : Bool := c.mode == .doublet && !c.unit1

/-- The update sequence of an entry (R287); the join sets every sequence to 1. -/
def seqOf (c : Chip) (key : Nat) : Nat := tgetD c.dbl.seqs key 1

/-- Send an entry over the bridge with its sequence; `whole` marks a copy of the whole entry that is not the next update. -/
def sendMirror (c : Chip) (k : MirrorKind) (n s : Nat) (whole : Bool) : Chip :=
  emit (stat c 0x704A 3 1) (.bridge 0 (leBytes 9 (pack [(mirrorCode k, 1), (0, 1), (n, 2), (s, 4), (b2n whole, 1)]) ++ mirrorContent c k n))

/-- A changed mirrored entry at unit 0 in DOUBLET: its sequence rises by 1, the new content and sequence go to unit 1, and the change (with
the request it completes, if it is a write) waits for the acknowledgement (R287). -/
def mirror (c : Chip) (k : MirrorKind) (n : Nat) (rq : Option (Src × Req)) : Chip :=
  if leadsMirror c then
    let s := (seqOf c (mirrorKey k n) + 1) % 2 ^ 32
    sendMirror { c with dbl := { c.dbl with seqs := tset c.dbl.seqs (mirrorKey k n) s, waits := c.dbl.waits ++ [⟨k, n, s, rq⟩] } } k n s false
  else c

/-! Presenters and responses. -/

/-- Replace the mailbox of a port. -/
def setMbox (c : Chip) (p : HPort) (m : Mbox) : Chip := { c with dict := { c.dict with mbox := setTwo c.dict.mbox p m } }

/-- Lay a response over the response half of a mailbox (R35). The response of a request that a reset of the port found captured is
discarded (R38), and so is one that no captured request waits for. -/
def mboxAnswer (c : Chip) (p : HPort) (rq : Req) (r : Resp) : Chip :=
  let m := two c.dict.mbox p
  if m.dropped.any fun x => x.2 == rq then setMbox c p { m with dropped := ldel m.dropped fun x => x.2 == rq }
  else if m.captured = some rq then setMbox c p { m with resp := overlay m.resp 0 (respBytes r), state := .done, captured := none }
  else c

/-- A message cut into the 64-byte units of the MCTP baseline on I3C (R39); at most 33 carry a frame. -/
def btuPackets : Nat → Bytes → List Bytes
  | 0, _ => []
  | n + 1, bs => if bs.isEmpty then [] else bs.take 64 :: btuPackets n (bs.drop 64)

/-- The MCTP message that carries a frame (R39): the IC bit 0 and type 0x7E, the PCI vendor ID, then the frame. -/
def mctpMessage (frame : Bytes) : Bytes := leBytes 3 (pack [(0x7E, 1), (Config.pciVendorId.toNat, 2)]) ++ frame

/-- Send a response frame on the side-band, in packets (R39). -/
def sidebandSend (c : Chip) (r : Resp) : Chip := emit c (.btu 0x7E (btuPackets 33 (mctpMessage (respBytes r))))

/-- Answer the side-band's outstanding request (R40). -/
def sidebandAnswer (c : Chip) (r : Resp) : Chip :=
  if c.dict.sb.outstanding.isSome then sidebandSend { c with dict := { c.dict with sb := { c.dict.sb with outstanding := none } } } r else c

/-- Post the one response of a request (R30, R33) to the presenter that waits for it. -/
def post (c : Chip) (src : Src) (rq : Req) (st total : Nat) (payload : Bytes) : Chip :=
  let r : Resp := ⟨rq.op, st, rq.tag, rq.index, rq.sub, total, if st = 0 then payload else []⟩
  let c := { c with dict := { c.dict with lastResp := some r } }
  match src with
  | .mbox p => mboxAnswer c p rq r
  | .sideband => sidebandAnswer c r
  | .peer => peerAnswer c rq.payload st
  | .forwarded => emit c (.bridge 1 (respBytes r))

/-! The order of service (R21, R22, R42). -/

/-- The place of a presenter in the rotation that follows the side-band: Port A, Port B, the Peer Gateway, a write forwarded from unit 1. -/
def turnNo (src : Src) : Nat :=
  match src with | .mbox .a => 0 | .mbox .b => 1 | .peer => 2 | .forwarded => 3 | .sideband => 0

/-- After a grant the pointer moves to the presenter after the one granted; the side-band stands outside the rotation (R21, R22). -/
def grantTurn (c : Chip) (src : Src) : Chip :=
  if src = .sideband then c else { c with dict := { c.dict with ptr := (turnNo src + 1) % 4 } }

/-- The requests that wait for the service, with the ticks at which they were presented. -/
def waitingReqs (c : Chip) : List (Src × Req × Nat) :=
  [HPort.a, HPort.b].flatMap (fun p =>
      let m := two c.dict.mbox p
      m.dropped.map (fun x => (Src.mbox p, x.2, x.1)) ++ m.captured.toList.map fun r => (Src.mbox p, r, m.since))
    ++ c.dict.sb.outstanding.toList.map (fun r => (Src.sideband, r, c.dict.sb.since))
    ++ c.peer.posts.map fun x => (Src.peer, writeReq 0 0x3800 2 x.2.2, x.2.1)

/-- Has a request already been executed, and does only its response wait: for an acknowledgement (R287), for unit 0's answer (R286), or for a
multiplexer (R344)? -/
def inService (c : Chip) (src : Src) (rq : Req) : Bool :=
  (c.dbl.waits.any fun w => w.req == some (src, rq)) || c.dbl.fwd.contains (src, rq) || c.clk.held.any fun x => x.2.1 == src && x.2.2 == rq

/-- The order in which requests are served (R42): by the tick of presentation, which stands for the MCLK cycle (DESIGN CHOICE, log 103); of
one cycle the side-band first, then the rotation. -/
def turnKey (c : Chip) (src : Src) (t : Nat) : Nat := 8 * t + (if src = .sideband then 0 else 1 + (turnNo src + 4 - c.dict.ptr) % 4)

/-- When a presenter presented this request: a captured one when it was captured; with none captured the request comes without a GO or a
message of its own among the commands, now (DESIGN CHOICE, log 83). None: the presenter waits with another request. -/
def presentedAt (c : Chip) (src : Src) (rq : Req) : Option Nat :=
  match (waitingReqs c).find? fun x => x.1 == src && x.2.1 == rq with
  | some x => some x.2.2
  | none =>
    match src with
    | .mbox p => if (two c.dict.mbox p).captured.isSome then none else some (now c)
    | .sideband => if c.dict.sb.outstanding.isSome then none else some (now c)
    | .peer => none
    | .forwarded => if leadsMirror c then some (now c) else none

/-- Does the service take this request next (R42): no activation window is open (R381), it has not run already, and no other waiting request
goes before it? While a response waits in `inService`, the service goes on with other requests (DEDUCED, log 103). -/
def presents (c : Chip) (src : Src) (rq : Req) : Bool :=
  !c.sec.fw.window && !inService c src rq &&
  match presentedAt c src rq with
  | some t => (waitingReqs c).all fun x => (x.1 == src && x.2.1 == rq) || inService c x.1 x.2.1 || turnKey c src t ≤ turnKey c x.1 x.2.2
  | none => false

/-- The service has taken a request and answers it: the rotation moves on, and the response is posted. -/
def respond (c : Chip) (src : Src) (rq : Req) (st total : Nat) (payload : Bytes) : Chip := post (grantTurn c src) src rq st total payload

/-- TOTAL of a response (R30): the current size of a DOMAIN object for its segment opcodes, 0 for every other. The Stage chunk reads as
empty. -/
def totalOf (c : Chip) (rq : Req) : Nat :=
  if (rq.op = 4 || rq.op = 5) && 0x4000 ≤ rq.index && rq.index ≤ 0x43FF then (getPat c (rq.index - 0x4000)).image.length else 0

/-- What follows an accepted write: at unit 0 in DOUBLET, a write of a mirrored object completes only after unit 1 acknowledges (R287);
otherwise the response is posted. -/
def finishWrite (c : Chip) (src : Src) (rq : Req) (st total : Nat) : Chip :=
  match mirrorEntry rq.index rq.sub with
  | some (k, n) => if st = 0 && leadsMirror c then mirror (grantTurn c src) k n (some (src, rq)) else respond c src rq st total []
  | none => respond c src rq st total []

/-- Is a write of this object to be forwarded: unit 1 in DOUBLET, a mirrored object (R286)? -/
def forwards (c : Chip) (rq : Req) : Bool := c.mode == .doublet && c.unit1 && (mirrorEntry rq.index rq.sub).isSome

/-- Forward a write to unit 0; unit 1 keeps it until it is answered (R286, R293). -/
def forward (c : Chip) (src : Src) (rq : Req) (payload : Bytes) : Chip :=
  emit { grantTurn c src with dbl := { c.dbl with fwd := c.dbl.fwd ++ [(src, rq)] } }
    (.bridge 2 (leBytes 6 (pack [(rq.tag, 2), (rq.index, 2), (rq.sub, 1), (0, 1)]) ++ payload))

/-- Serve one WRITE request (R34, R42): the checks, then the owning part's handler, which gives the status of steps 8 to 10 and the state
after it. -/
def serve (h : Chip → Nat × Chip) (src : Src) (rq : Req) (c : Chip) : Chip :=
  let st := check c src rq
  if st != 0 then respond c src rq st 0 []
  else if forwards c rq then forward c src rq rq.payload
  else
    let r := h c
    finishWrite r.2 src rq r.1 0

/-- A handler: the first failing condition's status, or the effect. -/
def orElse (bad : Bool) (st : Nat) (r : Nat × Chip) (c : Chip) : Nat × Chip := if bad then (st, c) else r

/-! DOMAIN transfers (R43 to R45). -/

/-- Does a staged write or view belong to this master and object? -/
def Staged.isFor (x : Staged) (m : Master) (i s : Nat) : Bool := x.master == m && x.index == i && x.sub == s

/-- Does an open read view belong to this master and object? -/
def View.isFor (x : View) (m : Master) (i s : Nat) : Bool := x.master == m && x.index == i && x.sub == s

/-- The other master (R44). -/
def otherMaster (m : Master) : Master := match m with | .h => .s | .s => .h

/-- The staged write of a master to an object. -/
def stagedOf (c : Chip) (m : Master) (i s : Nat) : Option Staged := c.dict.staged.find? fun x => x.isFor m i s

/-- The staging run of a Pattern returns. -/
def freeRun (c : Chip) (p : Nat) : Chip :=
  match (getPat c p).run with
  | some r => spFree (modPat c p fun x => { x with run := none }) r.1
  | none => c

/-- A master's staged write to an object is gone. -/
def dropStage (c : Chip) (m : Master) (i s : Nat) : Chip :=
  { c with dict := { c.dict with staged := ldel c.dict.staged fun x => x.isFor m i s } }

/-- Discard a master's staged write to an object; a Pattern that then holds no image keeps no run (R215). -/
def unstage (c : Chip) (m : Master) (i s : Nat) : Chip :=
  let c := dropStage c m i s
  if 0x4000 ≤ i && i < 0x4400 && s == 3 && (getPat c (i - 0x4000)).image.isEmpty then freeRun c (i - 0x4000) else c

/-- Stage a write: the bytes so far, arriving now. -/
def stage (c : Chip) (m : Master) (i s : Nat) (bs : Bytes) : Chip :=
  let c := dropStage c m i s
  { c with dict := { c.dict with staged := ⟨m, i, s, bs, now c⟩ :: c.dict.staged } }

/-- A segment of a staged write arrived and was refused with BUSY: it counts as an arrival (R43). -/
def touchStaged (c : Chip) (m : Master) (i s : Nat) : Chip :=
  { c with dict := { c.dict with staged := lmod c.dict.staged (fun x => x.isFor m i s) fun x => { x with last := now c } } }

/-- Is a read view of this master open on an object? -/
def viewOpen (c : Chip) (m : Master) (i s : Nat) : Bool := c.dict.views.any fun x => x.isFor m i s

/-- Close a master's read view. -/
def closeView (c : Chip) (m : Master) (i s : Nat) : Chip :=
  { c with dict := { c.dict with views := ldel c.dict.views fun x => x.isFor m i s } }

/-- Open or continue a master's read view (R45). -/
def openView (c : Chip) (m : Master) (i s : Nat) : Chip :=
  let c := closeView c m i s
  { c with dict := { c.dict with views := ⟨m, i, s, now c⟩ :: c.dict.views } }

/-- Unit 0 has answered a forwarded write, or the pair has parted (R286, R293): unit 1 returns the status. A DOMAIN write that was accepted is
no longer staged; a refusal discards it as R43 and R45 say for its status, and BUSY and GATED leave it. -/
def forwardAnswer (c : Chip) (x : Src × Req) (st : Nat) : Chip :=
  let rq := x.2
  let m := masterOf x.1
  let c := { c with dbl := { c.dbl with fwd := ldel c.dbl.fwd (· == x) } }
  let c := if rq.op != 5 then c
    else if st = 0 then closeView (unstage c m rq.index rq.sub) m rq.index rq.sub
    else if st = 6 then touchStaged c m rq.index rq.sub
    else if st = 9 then c
    else unstage c m rq.index rq.sub
  post c x.1 rq st (totalOf c rq) []

/-- One WRITE_SEG (R34, R43 to R45): `pre` is the owning part's judgement of any segment, with what the first one takes; `apply` its
judgement of a whole value, and the effect. A segment that `pre` refuses has no effect, but a LAST one refused with STATE discards the staged
write (R45). -/
def writeSegment (pre : Chip → Nat × Chip) (apply : Bytes → Chip → Nat × Chip) (m : Master) (rq : Req) (max : Nat) (c : Chip) : Nat × Chip :=
  let i := rq.index
  let s := rq.sub
  let own := stagedOf c m i s
  let other := stagedOf c (otherMaster m) i s
  let p := pre c
  if bit rq.flags 1 then
    if own.isSome then (0, unstage c m i s) else if other.isSome then (6, c) else (0, c)
  else if rq.off + rq.payload.length > max then (8, unstage c m i s)
  else if rq.off != 0 && (own.map fun x => x.data.length) != some rq.off then (5, unstage c m i s)
  else if p.1 = 7 then (7, if bit rq.flags 0 then unstage p.2 m i s else p.2)
  else if p.1 != 0 || other.isSome then (6, touchStaged c m i s)
  else
    let bs := (if rq.off = 0 then [] else (own.map fun x => x.data).getD []) ++ rq.payload
    if !bit rq.flags 0 then (0, stage p.2 m i s bs)
    else
      let r := apply bs p.2
      if r.1 = 6 then (6, touchStaged c m i s)
      else if r.1 != 0 then (r.1, unstage c m i s)
      else if viewOpen c (otherMaster m) i s then (6, touchStaged c m i s)
      else (0, closeView (unstage r.2 m i s) m i s)

/-- One READ_SEG of an object whose value is `bs` (R31, R45): the bytes returned and the view after it. At OFFSET 0 it opens a view; it closes
one when it returns the object's last byte; every READ_SEG within a view keeps it open. -/
def readSegment (bs : Bytes) (m : Master) (rq : Req) (c : Chip) : Bytes × Chip :=
  let out := (bs.drop rq.off).take rq.len
  let i := rq.index
  let s := rq.sub
  if !out.isEmpty && rq.off + out.length = bs.length then (out, closeView c m i s)
  else if rq.off = 0 || viewOpen c m i s then (out, openView c m i s)
  else (out, c)

/-! DOMAIN_STAGE_TIMEOUT and READ_VIEW_TIMEOUT. -/

/-- 100,000,000 ticks without a segment (R43, R45). -/
def segmentTimeout : Nat := 100000000

/-- A staged write times out (R43). -/
def dueDomainStageTimeout (m : Master) (i s t : Nat) (c : Chip) : Bool :=
  (stagedOf c m i s).any fun x => x.last + segmentTimeout ≤ nowAt c t

/-- DOMAIN_STAGE_TIMEOUT: the staged write is discarded (R43). -/
def execDomainStageTimeout (m : Master) (i s t : Nat) (st : State) : Host.Outcome State Fault Refusal :=
  event "DOMAIN_STAGE_TIMEOUT" (dueDomainStageTimeout m i s t st.toChip) (unstage (advance st.toChip t) m i s) st

/-- A read view times out (R45). -/
def dueReadViewTimeout (m : Master) (i s t : Nat) (c : Chip) : Bool :=
  c.dict.views.any fun x => x.isFor m i s && x.last + segmentTimeout ≤ nowAt c t

/-- READ_VIEW_TIMEOUT: the master's read view closes (R45). -/
def execReadViewTimeout (m : Master) (i s t : Nat) (st : State) : Host.Outcome State Fault Refusal :=
  event "READ_VIEW_TIMEOUT" (dueReadViewTimeout m i s t st.toChip) (closeView (advance st.toChip t) m i s) st

/-! The mailbox (R35, R36). -/

/-- The request half of a mailbox as bytes. -/
def requestHalf (m : Mbox) : Bytes := (upFrom 0 2048).map fun o => tgetD m.req o 0

/-- Can no command row carry this frame: its opcode is unknown, or its LENGTH exceeds the frame? The service then answers from the checks
of R34 alone. -/
def answersAtOnce (rq : Req) : Bool := rq.op = 0 || rq.op > 5 || ((rq.op = 2 || rq.op = 5) && rq.len != rq.payload.length)

/-- The status of a frame that no command row can carry: the first of R34, which is TYPE or LENGTH at the latest. -/
def atOnceStatus (c : Chip) (src : Src) (rq : Req) : Nat := if check c src rq = 0 then 8 else check c src rq

/-- Answer a captured frame that no command row can carry, outside an activation window. -/
def answerBad (c : Chip) (p : HPort) : Chip :=
  match (two c.dict.mbox p).captured with
  | some rq => if answersAtOnce rq && !c.sec.fw.window then respond c (.mbox p) rq (atOnceStatus c (.mbox p) rq) (totalOf c rq) [] else c
  | none => c

/-- Set PROTO_ERR (R36). -/
def setProtoErr (c : Chip) (p : HPort) : Chip :=
  setMbox c p { two c.dict.mbox p with protoErr := true }

/-- A write of GO: the request half is captured in IDLE, PROTO_ERR sets otherwise (R36). -/
def mboxGo (c : Chip) (p : HPort) : Chip :=
  let m := two c.dict.mbox p
  if m.state = .idle then
    answerBad (setMbox c p { m with state := .busy, captured := some (parseReq (requestHalf m)), since := now c }) p
  else setProtoErr c p

/-- A write of ACK: DONE returns to IDLE, PROTO_ERR sets otherwise (R36). -/
def mboxAck (c : Chip) (p : HPort) : Chip :=
  let m := two c.dict.mbox p
  if m.state = .done then setMbox c p { m with state := .idle } else setProtoErr c p

/-- A write of MBOX_CTRL: ACK acts first, GO second (R36). -/
def mboxCtrl (c : Chip) (p : HPort) (v : Nat) : Chip :=
  let c := if bit v 1 then mboxAck c p else c
  if bit v 0 then mboxGo c p else c

/-- A write of MBOX_STAT: 1 to PROTO_ERR clears it (R35). -/
def protoErrClear (c : Chip) (p : HPort) : Chip :=
  setMbox c p { two c.dict.mbox p with protoErr := false }

/-- A host write to the request half: bytes by offset, or PROTO_ERR while BUSY (R35, R36). -/
def writeRequestHalf (c : Chip) (p : HPort) (off : Nat) (bs : Bytes) : Chip :=
  let m := two c.dict.mbox p
  if m.state = .busy then setProtoErr c p
  else setMbox c p { m with req := (bs.zipIdx).foldl (fun t x => tput t 0 (off + x.2) x.1) m.req }

/-- MBOX_GO (R36). -/
def execMboxGo (p : HPort) (s : State) : Host.Outcome State Fault Refusal :=
  event "MBOX_GO" (hostPosts s.toChip p) (hostWrite s.toChip p 4 true fun c => mboxGo c p) s

/-- MBOX_ACK (R36). -/
def execMboxAck (p : HPort) (s : State) : Host.Outcome State Fault Refusal :=
  event "MBOX_ACK" (hostPosts s.toChip p) (hostWrite s.toChip p 4 true fun c => mboxAck c p) s

/-- PROTO_ERR_CLEAR (R35). -/
def execProtoErrClear (p : HPort) (s : State) : Host.Outcome State Fault Refusal :=
  event "PROTO_ERR_CLEAR" (hostPosts s.toChip p) (hostWrite s.toChip p 4 true fun c => protoErrClear c p) s

/-- What a reset or FLR of a port does to its mailbox (R38): IDLE, registers at reset, the written half lost; a request already captured is
still completed by the service, which discards its response (a frame that no command row can carry has no effect to complete). -/
def resetMbox (c : Chip) (p : HPort) : Chip :=
  let m := two c.dict.mbox p
  setMbox c p { Mbox.reset with dropped := m.dropped ++ (m.captured.toList.filter fun r => !answersAtOnce r).map fun r => (m.since, r) }

/-! The side-band (R39 to R41). -/

/-- Can the side-band logic act: SBCLK runs once UNIT_PWRGOOD is up and the reset is released (R41, R399)? -/
def sidebandUp (c : Chip) : Bool := c.boot.pwrgood && c.boot.fircOn && !bit c.clk.stopped 20

/-- Does a frame's payload differ in number from its LENGTH field (R40)? The LENGTH of a READ_SEG names the bytes wanted, and its request has
no payload (R31). -/
def lengthWrong (rq : Req) (payload : Bytes) : Bool := payload.length != (if rq.op = 4 then 0 else rq.len)

/-- A complete MCTP message of type 0x7E (R40, R381): discarded when too short or of another vendor; LENGTH when its payload differs from
its header; BUSY while a request is outstanding or an activation window is open; otherwise presented. -/
def sidebandMessage (c : Chip) (body : Bytes) : Chip :=
  let frame := body.drop 2
  let rq := parseReq frame
  let answer := fun (st : Nat) => sidebandSend c ⟨rq.op, st, rq.tag, rq.index, rq.sub, totalOf c rq, []⟩
  if body.length < 18 then c
  else if bfld body 0 2 != Config.pciVendorId.toNat then c
  else if lengthWrong rq (frame.drop 16) then answer 8
  else if c.dict.sb.outstanding.isSome || c.sec.fw.window then answer 6
  else
    let c := { c with dict := { c.dict with sb := { c.dict.sb with outstanding := some rq, since := now c } } }
    if answersAtOnce rq then respond c .sideband rq (atOnceStatus c .sideband rq) (totalOf c rq) [] else c

/-- SIDEBAND_MESSAGE (R40). -/
def execSidebandMessage (body : Bytes) (s : State) : Host.Outcome State Fault Refusal :=
  event "SIDEBAND_MESSAGE" (sidebandUp s.toChip) (sidebandMessage s.toChip body) s

/-- SET_ENDPOINT_ID (R39): the endpoint ID is taken, unless it is 0 or 0xFF, which MCTP reserves (PRESUMED, log 92). The layout of the control
responses, here and below, is the MCTP base standard's as far as the model knows it (PRESUMED, log 129). -/
def execSetEndpointId (eid : Nat) (s : State) : Host.Outcome State Fault Refusal :=
  let c := s.toChip
  let ok := eid % 256 != 0 && eid % 256 != 0xFF
  let c := if ok then { c with dict := { c.dict with sb := { c.dict.sb with eid := eid % 256 } } } else c
  event "SET_ENDPOINT_ID" (sidebandUp s.toChip) (emit c (.mctp 0x01 (leBytes 4 (pack [(if ok then 0 else 2, 1), (0, 1), (c.dict.sb.eid, 1)])))) s

/-- GET_ENDPOINT_ID (R39): the endpoint ID. -/
def execGetEndpointId (s : State) : Host.Outcome State Fault Refusal :=
  event "GET_ENDPOINT_ID" (sidebandUp s.toChip) (emit s.toChip (.mctp 0x02 (leBytes 4 (pack [(0, 1), (s.dict.sb.eid, 1)])))) s

/-- GET_MCTP_VERSION_SUPPORT (R39): one version entry, whose value the spec does not give (a free value). -/
def execGetMctpVersionSupport (s : State) : Host.Outcome State Fault Refusal :=
  let r := takeFree s.toChip 32
  event "GET_MCTP_VERSION_SUPPORT" (sidebandUp s.toChip) (emit r.2 (.mctp 0x04 (leBytes 6 (pack [(0, 1), (1, 1), (r.1, 4)])))) s

/-- GET_MESSAGE_TYPE_SUPPORT (R39, R384): types 0x7E, 0x05 and 0x06. -/
def execGetMessageTypeSupport (s : State) : Host.Outcome State Fault Refusal :=
  event "GET_MESSAGE_TYPE_SUPPORT" (sidebandUp s.toChip) (emit s.toChip (.mctp 0x05 (leBytes 5 (pack [(0, 1), (3, 1), (0x7E, 1), (5, 1), (6, 1)])))) s

/-- GET_VENDOR_DEFINED_MESSAGE_SUPPORT (R39): the last and only set, of ID format 0, with the PCI vendor ID of object 0x1000.02, lower byte first as
in the frames (R39), and no command-set field (PRESUMED, log 129). -/
def execGetVendorDefinedMessageSupport (s : State) : Host.Outcome State Fault Refusal :=
  event "GET_VENDOR_DEFINED_MESSAGE_SUPPORT" (sidebandUp s.toChip)
    (emit s.toChip (.mctp 0x06 (leBytes 5 (pack [(0, 1), (0xFF, 1), (0, 1), (Config.pciVendorId.toNat, 2)])))) s

/-! The configuration store (R46 to R49). -/

/-- Every C object with its row: the instances of every index (R27, R46). The Trim set of object 0x1000.0A travels with them (R50). -/
def storeObjects : List (Nat × Nat × ObjRow) :=
  objIndex.flatMap fun f => (upFrom f.base f.count).flatMap fun i => f.rows.flatMap fun r =>
    if r.kept = 2 || (i = 0x1000 && r.sub = 0xA) then (upFrom r.sub (r.subEnd - r.sub + 1)).map fun s => (i, s, r) else []

/-- The running values of all C objects, by object key (R47). -/
def captureImage (c : Chip) : List (Nat × Nat) := storeObjects.map fun x => (objKey x.1 x.2.1, obj c x.1 x.2.1)

/-- One record of a store copy (R46). -/
def storeRecord (i s typ size v : Nat) : Bytes :=
  leBytes 8 (pack [(i, 2), (s, 1), (typ, 1), (size, 4)]) ++ leBytes (roundUp size 8) v

/-- The body of a copy: the records of every C object (R46), by index and then by subindex (DESIGN CHOICE, log 128: R46 gives them no order). -/
def storeBody (img : List (Nat × Nat)) : Bytes :=
  storeObjects.flatMap fun x => storeRecord x.1 x.2.1 x.2.2.typ x.2.2.size (tgetD img (objKey x.1 x.2.1) (objDefault x.1 x.2.1))

/-- A whole copy: header, then body (R46). -/
def storeCopy (seq : Nat) (img : List (Nat × Nat)) : Bytes :=
  let body := storeBody img
  let h := leBytes 16 (pack [(0x4B595A43, 4), (seq, 4), (body.length, 4), (0, 4)])
  h ++ sha384 (h ++ body) ++ body

/-- SEQ of the active copy; 0 when no copy is active. -/
def activeSeq (c : Chip) : Nat :=
  let st := c.dict.store
  if st.active = 0 then st.seqA else if st.active = 1 then st.seqB else 0

/-- The copy that a commit writes: the one that is not active, A when none is (R47). -/
def commitCopy (c : Chip) : Nat := if c.dict.store.active = 0 then 1 else 0

/-- Commit request, object 0x10F0.07 (R47). -/
def configCommit (v : Nat) (c : Chip) : Nat × Chip :=
  if v != 1 then (5, c)
  else if activeSeq c = 0xFFFFFFFE then (7, c)
  else if c.dict.store.commit = 1 then (6, c)
  else
    let img := captureImage c
    (0, emit { c with dict := { c.dict with store := { c.dict.store with commit := 1, image := img } } }
      (.flash (commitCopy c) (storeCopy (activeSeq c + 1) img)))

/-- CONFIG_COMMIT (R47). -/
def execConfigCommit (src : Src) (tag v : Nat) (s : State) : Host.Outcome State Fault Refusal :=
  let rq := writeReq tag 0x10F0 7 (leBytes 1 v)
  event "CONFIG_COMMIT" (presents s.toChip src rq) (serve (configCommit (v % 256)) src rq s.toChip) s

/-- The end of a commit: the written copy becomes active when its DIGEST verifies, and reads as a digest failure otherwise (R47). -/
def commitComplete (ok : Bool) (c : Chip) : Chip :=
  let st := c.dict.store
  let k := commitCopy c
  let seq := if ok then activeSeq c + 1 else 0
  let stt := if ok then 0 else 1
  let st := if k = 0 then { st with seqA := seq, stA := stt } else { st with seqB := seq, stB := stt }
  let st := if ok then { st with active := k, commit := 2 } else { st with commit := 3 }
  { c with dict := { c.dict with store := st } }

end Sys2Proof.Machine
end

