-- ==== Sys2Proof/Machine/Measure.lean ====
section
/-! DEFINITION. The measurement log and the measurement blocks (R383, R385, R386), and the end of a commit, which the log records. -/

namespace Sys2Proof.Machine

/-- Bytes 0 to 79 of a log entry (R383). -/
def logHead (tick kind idx value : Nat) (digest : Bytes) : Bytes :=
  leBytes 32 (pack [(tick, 8), (kind, 1), (idx, 1), (0, 2), (value, 4)]) ++ padTo 48 digest

/-- A measurement block changed now (bytes 8 to 15 of object 0x6008.05, R385). -/
def blockChanged (c : Chip) (b : Nat) : Chip :=
  { c with sec := { c.sec with meas := { c.sec.meas with changed := tset c.sec.meas.changed b (now c) } } }

/-- Append an entry to the measurement log (R383): CHAIN covers the previous entry's CHAIN, 48 zero bytes before the first, and bytes 0 to
79 of this one. The ring keeps 8,191 entries; block 8 follows CHAIN. -/
def logAdd (c : Chip) (kind idx value : Nat) (digest : Bytes) : Chip :=
  let m := c.sec.meas
  let head := logHead (now c) kind idx value digest
  let chain := sha384 ((if m.logTotal = 0 then zeros 48 else m.chain) ++ head)
  let c := { c with sec := { c.sec with meas := { m with logTotal := m.logTotal + 1, log := ((head ++ chain) :: m.log).take 8191, chain := chain } } }
  blockChanged c 8

/-- SHA-384 over the Pattern records of R386, kept with block 3: the resident package, the Pattern digest, the program digest. -/
def block3Value (c : Chip) : Bytes :=
  sha384 (leBytes 4 (obj c 0x44F0 1) ++ padTo 48 c.sec.meas.patDigest ++ padTo 48 c.sec.meas.progDigest)

/-- The Pattern digest: one record per REGISTERED Pattern in ascending p (R386). -/
def patternDigest (c : Chip) : Bytes :=
  sha384 ((c.pat.pats.filter fun x => x.2.state == 2).flatMap fun x => leBytes 2 x.1 ++ sha384 x.2.image)

/-- Block 3 follows a change into or out of REGISTERED (R386). -/
def patternsChanged (c : Chip) : Chip :=
  let c := { c with sec := { c.sec with meas := { c.sec.meas with patDigest := patternDigest c } } }
  blockChanged { c with sec := { c.sec with meas := { c.sec.meas with block3 := block3Value c } } } 3

/-- Block 2 takes the DIGEST of the active store copy, and the log records it (R383, R385). -/
def storeMeasured (c : Chip) (digest : Bytes) : Chip :=
  let c := blockChanged { c with sec := { c.sec with meas := { c.sec.meas with storeDigest := digest } } } 2
  logAdd c 2 2 0 digest

/-- CONFIG_COMMIT_COMPLETE (R47): while a commit runs, it ends as its DIGEST check says. -/
def execConfigCommitComplete (ok : Bool) (s : State) : Host.Outcome State Fault Refusal :=
  let c := commitComplete ok s.toChip
  let d := ((storeCopy (activeSeq c) c.dict.store.image).drop 16).take 48
  event "CONFIG_COMMIT_COMPLETE" (s.dict.store.commit == 1) (if ok then storeMeasured c d else c) s

end Sys2Proof.Machine
end

