-- ==== Sys2Proof/Machine/Sets.lean ====
section
/-! DEFINITION. Set descriptors and the drain counters (R66 to R70, R79), the cut jobs and channel places of a node, and the abort of a
node's moves (R130). -/

namespace Sys2Proof.Machine

/-! Drain counters (R79). -/

/-- The drain counter of generation `g` of a Space (element g mod 4). -/
def drainOf (s : Space) (g : Nat) : Nat := s.drain.getD (g % 4) 0

/-- One more set descriptor or packet counts in generation `g`. -/
def drainInc (c : Chip) (sp g : Nat) : Chip :=
  modSpace c sp fun s => { s with drain := s.drain.set (g % 4) (drainOf s g + 1) }

/-- One fewer counts in generation `g`. -/
def drainDec (c : Chip) (sp g : Nat) : Chip :=
  modSpace c sp fun s => { s with drain := s.drain.set (g % 4) (drainOf s g - 1) }

/-- A host port carried a write of generation `g` (step 5 of R80): ports as a mask. -/
def markWrote (c : Chip) (sp g ports : Nat) : Chip :=
  if ports = 0 then c
  else modSpace c sp fun s =>
    let old := tgetD s.wrote (g % 4) 0
    { s with wrote := tset s.wrote (g % 4) (old ||| ports) }

/-- A new generation begins: its element of `wrote` starts empty, and what it held of the generation four before joins entry 4, which stands
for every older generation (R80 step 5). -/
def wroteTurn (g : Nat) (w : List (Nat × Nat)) : List (Nat × Nat) :=
  let o := tgetD w (g % 4) 0
  if o = 0 then w else tset (tdel w (g % 4)) 4 (tgetD w 4 0 ||| o)

/-! Regions and set descriptors. -/

/-- A region with no entries. -/
def Region.empty : Region := ⟨2, 0, [], none⟩

/-- Entries that a region can hold inline: 10 in ROW form, 5 in RUN form (R68). -/
def inlineCap (form : Nat) : Nat := if form = 1 then 10 else 5

/-- Has the set-descriptor store room for one more (R18)? -/
def sdRoom (c : Chip) : Bool := c.xf.sds.length < 16384

/-- Start a set descriptor in a generation: it counts from now on (R79). -/
def newSd (c : Chip) (o : Owner) (sp gen body lo : Nat) : Nat × Chip :=
  let i := c.xf.nextSd
  let sd : SetDesc := ⟨i, o, sp, gen, body, lo, lo, lo, 0, Region.empty, Region.empty⟩
  (i, drainInc { c with xf := { c.xf with sds := tset c.xf.sds i sd, nextSd := i + 1 } } sp gen)

/-- The number of a node's owner, for nodes of launches. -/
def ownerNode (o : Owner) : Option (Nat × Nat × Nat) := match o with | .node q e n => some (q, e, n) | _ => none

/-- A set descriptor leaves the drain count (R79); its cut lists return to the working pool (R70). -/
def discardSd (c : Chip) (i : Nat) : Chip :=
  match getSd c i with
  | none => c
  | some sd =>
    let c := wpReleaseOpt (wpReleaseOpt c sd.src.block) sd.dst.block
    let c := drainDec { c with xf := { c.xf with sds := tdel c.xf.sds i } } sd.space sd.gen
    match ownerNode sd.owner with
    | some (q, e, n) => modNode c q e n fun x => { x with sds := x.sds.filter (· != i) }
    | none => c

/-- Discard a set descriptor whose every stroke has been issued and settled (R79). -/
def settleSd (c : Chip) (i : Nat) : Chip :=
  match getSd c i with
  | some sd => if sd.live = 0 && sd.next = sd.hi then discardSd c i else c
  | none => c

/-- Cut a set descriptor at its next stroke boundary: its issue ends, issued strokes go on (R80, R130). -/
def truncateSd (c : Chip) (i : Nat) : Chip := settleSd (modSd c i fun sd => { sd with hi := sd.next }) i

/-! Cut jobs of a node. -/

/-- Is a Cutter's job on this node? -/
def CutJob.isOf (j : CutJob) (q e n : Nat) : Bool := j.q == q && j.e == e && j.n == n

/-- Drop what is being cut for a node: the jobs of both sides, the set descriptor being cut and its lists (R74, R80). -/
def dropCut (c : Chip) (q e n : Nat) : Chip :=
  let c := { c with sp := { c.sp with cutters := c.sp.cutters.filter fun x => !x.2.isOf q e n } }
  match (getLaunch c q e).bind fun l => getNode l n with
  | none => c
  | some x =>
    let rel := fun (r : Option Region) (c : Chip) => wpReleaseOpt c (r.bind (·.block))
    let c := rel x.srcDone (rel x.dstDone c)
    let c := if x.cutting then (match x.sds.getLast? with | some i => discardSd c i | none => c) else c
    modNode c q e n fun x => { x with cutting := false, srcDone := none, dstDone := none }

/-! Channels. -/

/-- Remove an owner from the channels; their states do not change (R129: abort of bound nodes). -/
def unbind (c : Chip) (o : Owner) : Chip :=
  { c with xf := { c.xf with chans := c.xf.chans.map fun x => (x.1, { x.2 with bound := x.2.bound.filter (· != o) }) } }

/-- An owner's last stroke has completed: it leaves its channel, which is IDLE when nothing else is bound (R129). -/
def unbindDone (c : Chip) (o : Owner) : Chip :=
  { c with xf := { c.xf with chans := c.xf.chans.map fun x =>
      let b := x.2.bound.filter (· != o)
      let idle := x.2.bound.contains o && b.isEmpty && (x.2.state == 1 || x.2.state == 2)
      (x.1, { x.2 with bound := b, state := if idle then 0 else x.2.state }) } }

/-- The live set descriptors of an owner. -/
def sdsOf (c : Chip) (o : Owner) : List Nat := (c.xf.sds.filter fun x => x.2.owner == o).map (·.1)

/-- Has an owner a set descriptor with strokes to issue? -/
def sdLeft (c : Chip) (o : Owner) : Bool := c.xf.sds.any fun x => x.2.owner == o && x.2.next < x.2.hi

/-- Strokes of an owner that have been issued and are not complete. -/
def strokesOf (c : Chip) (o : Owner) : Nat :=
  c.xf.sds.foldl (fun n x => if x.2.owner == o then n + x.2.live else n) 0

/-- An abort takes effect before a retry (R130): strokes of the set descriptors named that wait to be reissued are aborted. -/
def abortRetries (c : Chip) (ids : List Nat) : Chip :=
  let f := fun (s : Stroke) => if s.phase == .retry && ids.contains s.sd then { s with aborted := true, todo := [], wtodo := [] } else s
  { c with xf := { c.xf with chans := c.xf.chans.map fun x => (x.1, { x.2 with strokes := x.2.strokes.map f }) } }

/-- Abort an owner's moves (R130): no further stroke issues, it leaves its channel, issued strokes complete. -/
def abortOwner (c : Chip) (o : Owner) : Chip :=
  let c := unbind c o
  let c := match o with | .node q e n => dropCut c q e n | _ => c
  (sdsOf c o).foldl truncateSd (abortRetries c (sdsOf c o))

/-- Strokes issued by any owner and not complete. -/
def strokesLive (c : Chip) : Nat := c.xf.sds.foldl (fun n x => n + x.2.live) 0

end Sys2Proof.Machine
end

