-- ==== Sys2Proof/Machine/GeodeOps.lean ====
section
/-! DEFINITION. The Geode's maps and frames (R84 to R91): map entries, frame lists, the resolve of an access, and what a withdrawn Tiered
segment gives up. -/

namespace Sys2Proof.Machine

/-! Map entries (R87). -/

/-- The key of a residency map. -/
def mapKey (sp seg : Nat) : Nat := sp * 16 + seg

/-- The entry of a grain; an unlisted grain reads as the zero entry (R87). -/
def entryOf (c : Chip) (sp seg n : Nat) : Nat := ((tget c.geo.maps (mapKey sp seg)).map fun m => tgetD m.entries n 0).getD 0

/-- Write the entry of a grain in the facet cache alone. -/
def setEntry (c : Chip) (sp seg n v : Nat) : Chip :=
  { c with geo := { c.geo with maps := tmod c.geo.maps (mapKey sp seg) fun m => { m with entries := tput m.entries 0 n v } } }

/-- TALLY of an entry. -/
def eTally (v : Nat) : Nat := bits v 40 8
/-- PRIOR of an entry. -/
def ePrior (v : Nat) : Bool := bit v 37
/-- FRESH of an entry. -/
def eFresh (v : Nat) : Bool := bit v 36
/-- SEALED of an entry. -/
def eSealed (v : Nat) : Bool := bit v 35
/-- DIRTY of an entry. -/
def eDirty (v : Nat) : Bool := bit v 34
/-- MIGRATING of an entry. -/
def eMigr (v : Nat) : Bool := bit v 33
/-- RESIDENT of an entry. -/
def eRes (v : Nat) : Bool := bit v 32
/-- The frame key of an entry: LIST × 2^28 + FRAME, and 2^30 more where DIE names the other die. -/
def eFrame (c : Chip) (v : Nat) : Nat := (if bit v 31 == c.unit1 then 0 else 2 ^ 30) + bits v 28 2 * 2 ^ 28 + bits v 0 28

/-- FAR: neither MIGRATING nor RESIDENT (R87). -/
def isFar (v : Nat) : Bool := !eMigr v && !eRes v
/-- PROMOTING (R87). -/
def isPromoting (v : Nat) : Bool := eMigr v && !eRes v
/-- RESIDENT and not migrating (R87). -/
def isResident (v : Nat) : Bool := !eMigr v && eRes v
/-- EVICTING (R87). -/
def isEvicting (v : Nat) : Bool := eMigr v && eRes v

/-- Set MIGRATING and RESIDENT. -/
def setState (v : Nat) (migr res : Bool) : Nat := setBit (setBit v 33 migr) 32 res
/-- Set DIE, LIST and FRAME (R87). -/
def setFrame (c : Chip) (v key : Nat) : Nat :=
  setBits (setBits (setBit v 31 (if key < 2 ^ 30 then c.unit1 else !c.unit1)) 28 2 (key / 2 ^ 28)) 0 28 (key % 2 ^ 28)
/-- FAR, with DIE, LIST and FRAME 0 (DEDUCED from the FAR entries of the worked example of ch. 4). -/
def toFar (v : Nat) : Nat := setBits (setState v false false) 0 32 0
/-- Set TALLY. -/
def setTally (v t : Nat) : Nat := setBits v 40 8 (min 255 t)

/-- "Clean" (R90): DIRTY = 0 and SEALED equal to the segment's. -/
def isClean (s : Seg) (v : Nat) : Bool := !eDirty v && eSealed v == s.sealed

/-! TALLY in the facet cache and in HBM (R88). -/

/-- The key of an entry among those whose TALLY is newer in the facet cache. -/
def tallyKey (sp seg n : Nat) : Nat := mapKey sp seg * 2 ^ 42 + n

/-- Write an entry through to HBM, as every change but a count of accesses is (R88). -/
def putEntry (c : Chip) (sp seg n v : Nat) : Chip :=
  let c := setEntry c sp seg n v
  { c with geo := { c.geo with hbmTally := tdel c.geo.hbmTally (tallyKey sp seg n) } }

/-- One access is counted in the cached line (R88, R89). -/
def countEntry (c : Chip) (sp seg n : Nat) : Chip :=
  let v := entryOf c sp seg n
  let k := tallyKey sp seg n
  let c := setEntry c sp seg n (setTally v (eTally v + 1))
  if (tget c.geo.hbmTally k).isSome then c else { c with geo := { c.geo with hbmTally := tset c.geo.hbmTally k (eTally v) } }

/-- The entries that a 64-byte line holds, as map keys and grain numbers. -/
def lineEntries (c : Chip) (ln : Nat) : List (Nat × Nat) :=
  (c.geo.maps.filter fun m => m.2.base ≤ 64 * ln && 64 * ln < m.2.base + m.2.len).flatMap fun m =>
    (upFrom ((64 * ln - m.2.base) / 8) 8).map fun n => (m.1, n)

/-- A line leaves the facet cache: what was counted in it reaches HBM (R88). -/
def savedLine (c : Chip) (ln : Nat) : Chip :=
  (lineEntries c ln).foldl (fun c x => { c with geo := { c.geo with hbmTally := tdel c.geo.hbmTally (x.1 * 2 ^ 42 + x.2) } }) c

/-- A line of the facet cache is lost: the counts in it fall back to what HBM holds (R360). -/
def lostLine (c : Chip) (ln : Nat) : Chip :=
  savedLine ((lineEntries c ln).foldl (fun c x =>
    match tget c.geo.hbmTally (x.1 * 2 ^ 42 + x.2) with
    | some t => setEntry c (x.1 / 16) (x.1 % 16) x.2 (setTally (entryOf c (x.1 / 16) (x.1 % 16) x.2) t)
    | none => c) c) ln

/-! Frame lists (R85, R93, R96). -/

/-- Frames of list `i` in use or in quarantine. -/
def listUsed (c : Chip) (i : Nat) : List Nat :=
  (c.geo.frames.filter fun x => x.1 / 2 ^ 28 == i).map fun x => x.1 % 2 ^ 28

/-- Free frames of a list (object 0x3500.05). -/
def listFree (c : Chip) (i : Nat) : Nat := (listRec c i).2.1 - (listUsed c i).length

/-- The lowest number not in a rising list. -/
def lowestGap : List Nat → Nat → Nat
  | [], k => k
  | x :: r, k => if x = k then lowestGap r (k + 1) else k

/-- The refresh reserve of a list (object 0x3500.04). -/
def listReserve (c : Chip) (i : Nat) : Nat := fld (obj c 0x3500 4) (4 * i) 4

/-- Bytes of a frame of a list. -/
def listGrainBytes (c : Chip) (i : Nat) : Nat := 2 ^ (14 + (listRec c i).2.2)

/-- Address of a frame: BASE of the list plus FRAME × grain size (R87). -/
def frameAddr (c : Chip) (key : Nat) : Nat :=
  (listRec c (key / 2 ^ 28)).1 + key % 2 ^ 28 * listGrainBytes c (key / 2 ^ 28)

/-- Start a list's sweep when its free count is below the low watermark (R93). -/
def sweepCheck (c : Chip) (i : Nat) : Chip :=
  let s := tgetD c.geo.sweeps i ⟨false, 0, 0, false⟩
  if (listRec c i).2.1 != 0 && !s.on && listFree c i < obj c 0x3500 9 && serving c then
    { c with geo := { c.geo with sweeps := tset c.geo.sweeps i { s with on := true, seen := 0, evicted := false } } }
  else c

/-- Can a list give a frame to a requester (R96)? Only Lapidary, requester 0, takes from the refresh reserve. -/
def listGives (c : Chip) (i req : Nat) : Bool :=
  0 < listFree c i && (req == 0 || listReserve c i < listFree c i)

/-- Take a frame of a grain size: the lowest-numbered list that can give one (R85), its lowest free frame (DESIGN CHOICE: the spec names
no order within a list); POOL_EMPTY is counted. -/
def takeFrame (c : Chip) (grain req : Nat) (u : FrameUse) : Option Nat × Chip :=
  match (upFrom 0 4).find? fun i => (listRec c i).2.1 != 0 && (listRec c i).2.2 == grain && listGives c i req with
  | some i =>
    let k := i * 2 ^ 28 + lowestGap (listUsed c i) 0
    (some k, sweepCheck { c with geo := { c.geo with frames := tset c.geo.frames k u } } i)
  | none => (none, stat c 0x7035 8 1)

/-- Stop a list's sweep when its free count has reached the high watermark (R93). -/
def sweepStop (c : Chip) (i : Nat) : Chip :=
  if obj c 0x3500 0xA ≤ listFree c i then { c with geo := { c.geo with sweeps := tmod c.geo.sweeps i fun s => { s with on := false } } } else c

/-- A frame returns to the list of the die that holds it (R104); the other die's goes back over the bridge. -/
def freeFrame (c : Chip) (k : Nat) : Chip :=
  let c := { c with geo := { c.geo with frames := tdel c.geo.frames k } }
  if k < 2 ^ 30 then sweepStop c (k / 2 ^ 28) else emit c (.bridge 20 (leBytes 4 (k - 2 ^ 30)))

/-- Change who holds a frame. -/
def useFrame (c : Chip) (k : Nat) (u : FrameUse) : Chip := { c with geo := { c.geo with frames := tset c.geo.frames k u } }

/-! Resolving (R89, R90). -/

/-- The Geode's answer to a resolve (R89). -/
inductive GeoAns where
  | hbm (addr : Nat)
  | far (addr : Nat) (sealed : Bool)
  | hold
  | fault
  deriving DecidableEq, Repr, Inhabited

/-- The port of a far home (R59, R84). -/
def farPort (s : Seg) : HPort := if s.cls = 4 then .b else portOf s.portB

/-- The route of a far home (R69). -/
def farRoute (s : Seg) : Nat := if s.cls = 4 then 4 else if s.portB then 4 else 3

/-- Are queues of a home port HOST_LOST (R89, R196)? -/
def portLost (c : Chip) (p : HPort) : Bool := c.bel.queues.any fun x => x.2.state == 5 && homePort c x.1 == p

/-- Can the far home's port carry a read (R89)? A POOL home needs Port B in the pool role; IDE required withholds requests (R389). -/
def farCarries (c : Chip) (s : Seg) : Bool :=
  let p := farPort s
  canIssue c p && (s.cls != 4 || (getPort c p).pool) && !portLost c p
    && !(fld (obj c 0x6010 1) (portNo p) 1 == 1 && !bit c.sec.spdm.streams (5 * portNo p))

/-- Does this unit manage the grain (R103)? -/
def manages (c : Chip) (n : Nat) : Bool := c.mode != .doublet || n % 2 == unitNo c

/-- Entries of the promotion queue (R92). -/
def promoQueueSize : Nat := 4096

/-- Does the Geode queue promotions: not in ROUGH or BOOT (R102), not during a tenant end (R393)? -/
def promotes (c : Chip) : Bool := serving c && c.sec.ten.state != 3

/-- In DOUBLET, a state change of a grain goes to the other unit's facet cache and waits for its acknowledgement (R103). -/
def tellOther (c : Chip) (sp seg g : Nat) : Chip :=
  if c.mode == .doublet then
    emit { c with geo := { c.geo with acks := c.geo.acks ++ [(sp, seg, g)] } }
      (.bridge 4 (leBytes 24 (pack [(sp, 2), (seg, 1), (0, 5), (g, 8), (entryOf c sp seg g, 8)])))
  else c

/-- Change the state of a grain: its entry, here and in the other unit's facet cache (R88, R103). -/
def changeEntry (c : Chip) (sp seg n v : Nat) : Chip := tellOther (putEntry c sp seg n v) sp seg n

/-- Forward a threshold crossing or a write resolve to the managing unit as a promotion request (R103). -/
def forwardPromotion (c : Chip) (sp seg n : Nat) (head : Bool) : Chip :=
  emit c (.bridge 3 (leBytes 16 (pack [(sp, 2), (seg, 1), (b2n head, 1), (0, 4), (n, 8)])))

/-- Queue a promotion at the head (a write resolve) or the tail (a threshold crossing) and enter PROMOTING; a full queue leaves the grain FAR,
and a crossing is counted (R90, R92). A grain that the other unit manages is requested over the bridge (R103). -/
def queuePromotion (c : Chip) (sp seg n : Nat) (head : Bool) : Chip :=
  if !promotes c then c
  else if !manages c n then forwardPromotion c sp seg n head
  else if c.geo.queue.length ≥ promoQueueSize then (if head then c else stat c 0x7035 3 1)
  else
    let c := changeEntry c sp seg n (setState (entryOf c sp seg n) true false)
    { c with geo := { c.geo with queue := if head then (sp, seg, n) :: c.geo.queue else c.geo.queue ++ [(sp, seg, n)] } }

/-- Move a queued promotion to the head (R90); the other unit's is requested over the bridge (R103). -/
def hastenPromotion (c : Chip) (sp seg n : Nat) : Chip :=
  if !manages c n then forwardPromotion c sp seg n true
  else if c.geo.queue.any (· == (sp, seg, n)) then
    { c with geo := { c.geo with queue := (sp, seg, n) :: c.geo.queue.filter (· != (sp, seg, n)) } }
  else c

/-- Count one access in the grain's TALLY, at the unit that manages it (R89, R103). -/
def countAccess (c : Chip) (sp seg n : Nat) : Chip :=
  if manages c n then countEntry c sp seg n
  else { c with geo := { c.geo with tallies := (sp, seg, n) :: c.geo.tallies } }

/-- Does a launch that pins `pin` (none: not listed) read the prior entry of a grain with PRIOR = 1: its pin is not the epoch of the newest
commit; an unlisted read takes the newest published epoch (R90, R165)? -/
def readsPrior (c : Chip) (t : Nat) (pin : Option Nat) : Bool :=
  let tb := getTable c t
  (pin.getD tb.epoch) != tb.newest

/-- The address of an entry's current copy in HBM, on the die that DIE names. -/
def entryHbm (c : Chip) (s : Seg) (v off : Nat) : GeoAns := .hbm (frameAddr c (eFrame c v) + off % grainBytes s)

/-- The far answer of a segment for an offset. -/
def farAns (c : Chip) (s : Seg) (off : Nat) (sealed : Bool) : GeoAns :=
  if farCarries c s then .far (s.target + off) sealed else .fault

/-- Answer from the prior entry (R90): its frame as HBM, or its far address as FAR. -/
def priorAns (c : Chip) (s : Seg) (seg n off : Nat) : GeoAns :=
  match (getTable c s.tableId).prior.find? fun g => g.seg == seg && g.grain == n with
  | some g => if eRes g.old then entryHbm c s g.old off else farAns c s off (eSealed g.old)
  | none => farAns c s off false

/-- A write to an EVICTING grain cancels its part of a running flush (R90, R101). -/
def flushForget (c : Chip) (sp seg n : Nat) : Chip :=
  let c := { c with geo := { c.geo with flushing := c.geo.flushing.filter (· != (sp, seg, n)) } }
  if c.geo.flush.space = sp && c.geo.flush.seg = seg then
    let fl := { c.geo.flush with left := c.geo.flush.left.filter (· != n) }
    { c with geo := { c.geo with flush := fl } }
  else c

/-- Close a flush whose last grain has completed, failed or been cancelled (R101). -/
def flushCheck (c : Chip) : Chip :=
  if c.geo.flush.state = 1 && c.geo.flush.left.isEmpty then
    let fl := { c.geo.flush with state := 2 }
    { c with geo := { c.geo with flush := fl } }
  else c

/-- A write resolve to an EVICTING grain (R90): the eviction or flush is cancelled, its unissued strokes are dropped, and the grain is
RESIDENT and DIRTY. -/
def cancelWriteBack (c : Chip) (sp seg n : Nat) : Chip :=
  let c := changeEntry c sp seg n (setBit (setState (entryOf c sp seg n) false true) 34 true)
  let c := abortOwner c (.writeBack sp seg n)
  flushCheck (flushForget c sp seg n)

/-- geode_resolve (R89, R90): grain state, side, pinned epoch. Every answer counts one access first, so that a read that brings TALLY to T
promotes (the worked example of ch. 4). -/
def geodeResolve (c : Chip) (sp seg off : Nat) (s : Seg) (write : Bool) (pin : Option Nat) : GeoAns × Chip :=
  let n := off / grainBytes s
  let c := countAccess c sp seg n
  let v := entryOf c sp seg n
  let held := fun (a : GeoAns) (c : Chip) =>
    match a with
    | .hold | .fault => (a, stat c 0x7035 0xA 1)
    | .far _ _ => (a, stat c 0x7035 1 1)
    | .hbm _ => (a, c)
  if isFar v then
    if write then
      if eFresh v then held .hold c else held .hold (queuePromotion c sp seg n true)
    else if obj c 0x3500 6 ≤ eTally v && !eFresh v then held (farAns c s off (eSealed v)) (queuePromotion c sp seg n false)
    else held (farAns c s off (eSealed v)) c
  else if isPromoting v then
    if write then held .hold (hastenPromotion c sp seg n) else held (farAns c s off (eSealed v)) c
  else if write then
    if !manages c n then held (entryHbm c s v off) (forwardPromotion c sp seg n true)
    else if isEvicting v then held (entryHbm c s v off) (cancelWriteBack c sp seg n)
    else held (entryHbm c s v off) (putEntry c sp seg n (setBit v 34 true))
  else if ePrior v && readsPrior c s.tableId pin then held (priorAns c s seg n off) c
  else held (entryHbm c s v off) c

/-! Withdrawing a Tiered segment (R90, R102, R81). -/

/-- Does a frame hold a grain of the segment, or return from a copy of it? -/
def frameOfSeg (sp seg : Nat) (u : FrameUse) : Bool :=
  match u with
  | .grain a b _ => a == sp && b == seg
  | _ => false

/-- Is an owner a promotion or a write-back of the segment? -/
def copyOfSeg (sp seg : Nat) (o : Owner) : Bool :=
  match o with
  | .promote a b _ => a == sp && b == seg
  | .writeBack a b _ => a == sp && b == seg
  | _ => false

/-- A Tiered segment is withdrawn (R90): queued promotions are dropped, copies and write-backs abort at their next stroke boundary, the
map's run and its frames are kept until the withdrawal completes (R81). Answers the runs and frames to release then. -/
def withdrawTiered (c : Chip) (sp seg : Nat) : Chip × List Nat × List Nat :=
  let frames := (c.geo.frames.filter fun x => frameOfSeg sp seg x.2).map (·.1)
  let runs := ((tget c.geo.maps (mapKey sp seg)).map fun m => [m.base]).getD []
  let g := c.geo
  let queue := g.queue.filter fun x => !(x.1 == sp && x.2.1 == seg)
  let held := g.frames.map fun x => if frameOfSeg sp seg x.2 then (x.1, FrameUse.quarantine) else x
  let fl := if g.flush.space = sp && g.flush.seg = seg then { g.flush with left := [] } else g.flush
  let mine := fun (x : Nat × Nat × Nat) => x.1 == sp && x.2.1 == seg
  let c := { c with geo := { g with
    copies := g.copies.filter fun x => !mine x, flushing := g.flushing.filter fun x => !mine x, acks := g.acks.filter fun x => !mine x
    queue := queue, paid := g.paid.filter fun x => !mine x, maps := tdel g.maps (mapKey sp seg)
    hbmTally := g.hbmTally.filter fun x => x.1 / 2 ^ 42 != mapKey sp seg, frames := held, flush := fl } }
  let c := (c.xf.sds.filter fun x => copyOfSeg sp seg x.2.owner).foldl (fun c x => abortOwner c x.2.owner) c
  (flushCheck c, runs, frames)

end Sys2Proof.Machine
end

