-- ==== Sys2Proof/Machine/LapOps.lean ====
section
/-! DEFINITION. Lapidary's tables (R154, R155), the end of a manifest without commit (R163, R170), and what a withdrawn segment does to its
table (R171). -/

namespace Sys2Proof.Machine

/-! Table definitions (R155). -/

/-- The definition of table `t`. -/
def tabDef (c : Chip) (t : Nat) : Nat := obj c (0x3800 + t) 1
/-- SPACE of a table. -/
def tabSpace (c : Chip) (t : Nat) : Nat := fld (tabDef c t) 0 2
/-- ROW_SEG of a table. -/
def tabRowSeg (c : Chip) (t : Nat) : Nat := fld (tabDef c t) 2 1
/-- ESC_SEG of a table; 0xFF for none. -/
def tabEscSeg (c : Chip) (t : Nat) : Nat := fld (tabDef c t) 3 1
/-- CODE_FMT of a table. -/
def tabFmt (c : Chip) (t : Nat) : Nat := fld (tabDef c t) 4 1
/-- VALUES of a table. -/
def tabValues (c : Chip) (t : Nat) : Nat := fld (tabDef c t) 6 2
/-- ROW_BYTES of a table. -/
def tabRowBytes (c : Chip) (t : Nat) : Nat := fld (tabDef c t) 8 4
/-- CLIP of a table, as FP32 bits. -/
def tabClip (c : Chip) (t : Nat) : Nat := fld (tabDef c t) 12 4
/-- ROW_SAT_LIMIT of a table. -/
def tabSatLim (c : Chip) (t : Nat) : Nat := fld (tabDef c t) 16 2
/-- ROW_UNF_LIMIT of a table. -/
def tabUnfLim (c : Chip) (t : Nat) : Nat := fld (tabDef c t) 18 2
/-- ESC_SLOTS of a table. -/
def tabEscSlots (c : Chip) (t : Nat) : Nat := fld (tabDef c t) 20 4
/-- EB, the escape row size (R157): the smallest power of two that is at least 8 + 2V. -/
def escBytes (v : Nat) : Nat := ((upFrom 3 15).map fun k => 2 ^ k).find? (fun s => 8 + 2 * v ≤ s) |>.getD 131072

/-- Is a segment one of the table's, Tiered, carrying its TABLE_ID (R154)? -/
def carriesTable (c : Chip) (t n : Nat) : Bool :=
  let s := getSeg (getSpace c (tabSpace c t)) n
  s.kind == 3 && s.tableId == t

/-- A DEFINED table whose segments are installed becomes SERVING: epoch 0, no older epoch, L zero (R154). -/
def tableServe (c : Chip) (t : Nat) : Chip :=
  if t != 0 && (getTable c t).state == 1 && carriesTable c t (tabRowSeg c t)
      && (tabEscSeg c t == 0xFF || carriesTable c t (tabEscSeg c t)) then
    let c := modTable c t fun x => { x with
      state := 2, epoch := 0, newest := 0, older := 0, pins0 := 0, pins1 := 0, lineage := zeros 48, prior := [], relLeft := [] }
    mirror c .table t none
  else c

/-! Fresh frames and the end of a manifest. -/

/-- FRESH of a grain's entry. -/
def setFresh (c : Chip) (sp seg n : Nat) (b : Bool) : Chip := putEntry c sp seg n (setBit (entryOf c sp seg n) 36 b)

/-- The strokes of a manifest that write a frame are aborted; the frame returns to its list at once, or when they have ended (R163). -/
def dropFrame (c : Chip) (frame : Nat) : Chip :=
  let ids := (c.lap.items.filter fun x => x.2.frame == frame).map (·.1)
  let c := ids.foldl (fun c i => abortOwner c (.lap i)) { c with lap := { c.lap with items := c.lap.items.filter fun x => x.2.frame != frame } }
  let live := ids.filter fun i => !(sdsOf c (.lap i)).isEmpty
  if live.isEmpty then freeFrame c frame else { c with lap := { c.lap with dying := (frame, live) :: c.lap.dying } }

/-- Refresh abort of one open grain (R163): FRESH clears and its fresh frame returns to its list once no stroke writes it. -/
def abortGrain (c : Chip) (t : Nat) (g : OpenGrain) : Chip :=
  dropFrame (tellOther (setFresh c (tabSpace c t) g.seg g.grain false) (tabSpace c t) g.seg g.grain) g.frame

/-- Replace Apply status. -/
def setApply (c : Chip) (f : ApplyStat → ApplyStat) : Chip := { c with lap := { c.lap with stat := f c.lap.stat } }

/-- Replace the manifest job. -/
def setJob (c : Chip) (j : Option LapJob) : Chip := { c with lap := { c.lap with job := j } }

/-- The manifest's open table and working-pool buffers return (R170). -/
def releaseJob (c : Chip) (j : LapJob) (keepTable : Bool) : Chip :=
  let c := if keepTable || j.run.2 = 0 then c else spFree c j.run.1
  (j.bufs ++ j.staging).foldl (fun c b => wpRelease c b.1) c

/-- Ticks that a commit has waited for an older epoch (R175), counted when the wait ends, however it ends. -/
def countWait (c : Chip) (t : Nat) : Chip :=
  match c.lap.job with
  | some j => if j.post.table = t && c.lap.stat.state = 3 && (getTable c t).older != 0 then stat c 0x7038 7 (now c - j.waitFrom) else c
  | none => c

/-- MANIFEST_FAIL (R170): refresh abort of every open grain that has not committed, the open table and buffers return, apply status reads
FAILED, slots taken return to the bitmap and slots marked to be freed stay taken (R163). -/
def manifestFail (c : Chip) (reason : Nat) : Chip :=
  match c.lap.job with
  | none => c
  | some j =>
    let t := j.post.table
    let open_ := if c.lap.stat.state = 4 then j.left else j.opened
    let c := open_.foldl (fun c g => abortGrain c t g) (countWait c t)
    let c := modTable c t fun x => { x with slots := x.slots.filter fun n => !j.taken.contains n }
    let c := setJob (releaseJob c j false) none
    let c := { c with lap := { c.lap with holding := false } }
    stat (setApply c fun a => { a with state := 6, reason := reason, tick := now c }) 0x7038 2 1

/-! A withdrawn segment (R171). -/

/-- Is a frame a fresh or prior frame of the table? -/
def frameOfTable (t : Nat) (u : FrameUse) : Bool :=
  match u with
  | .fresh a => a == t
  | .prior a => a == t
  | _ => false

/-- PRIOR of a grain's entry clears; the segment may be withdrawn already. -/
def clearPrior (c : Chip) (sp : Nat) (g : OpenGrain) : Chip :=
  putEntry c sp g.seg g.grain (setBit (entryOf c sp g.seg g.grain) 37 false)

/-- A segment of table `t` is withdrawn (R171): its manifest ends with REASON 8, a release stops, fresh and prior frames are kept until the
withdrawal completes, the table returns to DEFINED and its pins are void. Answers the frames to release then. -/
def withdrawTable (c : Chip) (t : Nat) : Chip × List Nat :=
  if t = 0 || (getTable c t).state != 2 then (c, [])
  else
    let frames := (c.geo.frames.filter fun x => frameOfTable t x.2).map (·.1)
    let sp := tabSpace c t
    let mine := (c.lap.job.map fun j => j.post.table == t).getD false
    let swept := if mine && c.lap.stat.state = 4 then ((c.lap.job.map fun j => j.opened).getD []) else []
    let c := if mine then manifestFail c 8 else c
    let x := getTable c t
    let c := (swept ++ x.prior).foldl (fun c g => clearPrior c sp g) c
    let c := if x.priorRun.2 = 0 then c else spFree c x.priorRun.1
    let c := { c with geo := { c.geo with frames := frames.foldl (fun fs k => tset fs k FrameUse.quarantine) c.geo.frames } }
    let c := setTable c t { x with
      state := 1, older := 0, pins0 := 0, pins1 := 0, prior := [], priorRun := (0, 0), relLeft := [], alerted := false }
    let ls := c.pat.launches.map fun l => (l.1, { l.2 with pins := l.2.pins.filter fun p => p.1 != t })
    (mirror { c with pat := { c.pat with launches := ls } } .table t none, frames)

end Sys2Proof.Machine
end

