-- ==== Sys2Proof/Machine/Bumps.lean ====
section
/-! DEFINITION. Bumps (R80): requesting one, and its effect on the mapping, the generation and the set descriptors. What follows a completed
withdrawal stands with the parts that asked for it. -/

namespace Sys2Proof.Machine

/-- Is a bump one that software asked for (R55, R80)? -/
def bySoftware (b : BumpBy) : Bool := match b with | .software => true | _ => false

/-- Does a bump serve a software withdrawal? -/
def Bump.soft (b : Bump) : Bool := b.bys.any bySoftware

/-- A generation number modulo 2^32 (R82). -/
def genNext (g : Nat) : Nat := (g + 1) % 2 ^ 32

/-- How far a generation lies behind the current one, modulo 2^32 (R82). -/
def genAge (cur g : Nat) : Nat := (cur + 2 ^ 32 - g % 2 ^ 32) % 2 ^ 32

/-- Change the bump of an id. -/
def modBump (c : Chip) (i : Nat) (f : Bump → Bump) : Chip := { c with sp := { c.sp with bumps := lmod c.sp.bumps (·.id == i) f } }

/-- The bump of an id. -/
def getBump (c : Chip) (i : Nat) : Option Bump := c.sp.bumps.find? (·.id == i)

/-! What a withdrawn or installed segment means. -/

/-- A segment's memory and its table give way (R81, R90, R171): answers the structure-pool runs and the frames to release when the withdrawal
completes. -/
def withdrawSeg (c : Chip) (sp n : Nat) : Chip × List Nat × List Nat :=
  let s := getSeg (getSpace c sp) n
  if s.kind = 3 then
    let w := withdrawTable c s.tableId
    let r := withdrawTiered w.1 sp n
    (r.1, r.2.1, r.2.2 ++ w.2)
  else if s.kind = 2 then
    let runs := ((tget (getSpace c sp).tabs n).map fun t => [t.base]).getD []
    (modSpace c sp fun x => { x with tabs := tdel x.tabs n }, runs, [])
  else (c, [], [])

/-- The key under which a Space holds a facet table that an accepted write waits to install. -/
def stagedTab (n : Nat) : Nat := 16 + n

/-- An accepted Faceted write takes the READY table (R64); the load status is IDLE again (DESIGN CHOICE). -/
def acceptTab (c : Chip) (sp n : Nat) : Chip :=
  match c.sp.load.ready with
  | some r =>
    let c := modSpace c sp fun x => { x with tabs := tset x.tabs (stagedTab n) r.tab }
    { c with sp := { c.sp with load := { c.sp.load with ready := none, state := 0 } } }
  | none => c

/-- The table of an accepted Faceted write becomes the installed table of its segment (R64). -/
def installTab (c : Chip) (sp n : Nat) : Chip :=
  modSpace c sp fun x => match tget x.tabs (stagedTab n) with
    | some t => { x with tabs := tset (tdel x.tabs (stagedTab n)) n t }
    | none => x

/-- The residency map of a Tiered segment: zero entries in the run that its build took (R88). -/
def installMap (c : Chip) (sp n : Nat) (s : Seg) : Chip :=
  { c with geo := { c.geo with maps := tset c.geo.maps (mapKey sp n) ⟨s.tableBase, roundUp (8 * grainCount s) 0x200000, []⟩ } }

/-- Write a segment of a Space. -/
def putSeg (c : Chip) (sp n : Nat) (s : Seg) : Chip := modSpace c sp fun x => { x with segs := tput x.segs Seg.reset n s }

/-- A segment takes effect in generation `g` (R80 step 2, R154). -/
def installSeg (c : Chip) (sp n g : Nat) (s : Seg) : Chip :=
  let c := if s.kind = 2 then installTab c sp n else if s.kind = 3 then installMap c sp n s else c
  let base := if s.kind = 2 then ((tget (getSpace c sp).tabs n).map fun t => t.base).getD 0 else s.tableBase
  tableServe (putSeg c sp n { s with effGen := g, tableBase := base }) (if s.kind = 3 then s.tableId else 0)

/-- Make a mapping change in generation `g`: answers the runs and frames to release later (R81). -/
def applyChange (c : Chip) (sp g : Nat) (m : MapChange) : Chip × List Nat × List Nat :=
  match m with
  | .none => (c, [], [])
  | .seg n s =>
    let w := withdrawSeg c sp n
    (installSeg w.1 sp n g s, w.2)
  | .clear =>
    (upFrom 0 16).foldl (fun r n =>
      let w := withdrawSeg r.1 sp n
      let s := getSeg (getSpace w.1 sp) n
      let c := if s.kind = 0 then w.1 else putSeg w.1 sp n { Seg.reset with effGen := g }
      (c, r.2.1 ++ w.2.1, r.2.2 ++ w.2.2)) (c, [], [])

/-! Step 3: retranslation. -/

/-- A node leaves its channel and waits for the binder again (R107). -/
def leaveChan (c : Chip) (o : Owner) : Chip :=
  match o with
  | .node q e n => modNode (unbind c o) q e n fun x => { x with st := if x.st == .bound then .ready else x.st }
  | _ => unbind c o

/-- Mark a node whose unissued remainder is to be retranslated (R80 step 3); it is bound again when that is complete (R107). -/
def markRedo (c : Chip) (o : Owner) : Chip :=
  match o with
  | .node q e n => stat (modNode (leaveChan c o) q e n fun x => { x with redo := true }) 0x7034 4 1
  | _ => c

/-- Cut one set descriptor of a node at its next stroke boundary and queue its remainder for retranslation (R80 steps 1 and 3). -/
def recutSd (c : Chip) (i : Nat) : Chip :=
  match getSd c i with
  | some sd =>
    if (ownerNode sd.owner).isSome && sd.next < sd.hi then truncateSd (markRedo c sd.owner) i else c
  | none => c

/-- Retranslate the unissued set descriptors of a Space's generations that a test names. -/
def recutGens (c : Chip) (sp : Nat) (ok : Nat → Bool) : Chip :=
  ((c.xf.sds.filter fun x => x.2.space == sp && ok x.2.gen).map (·.1)).foldl recutSd c

/-- The nodes of a Space being cut now in the generations that a test names. -/
def cuttingIn (c : Chip) (sp : Nat) (ok : Nat → Bool) : List (Nat × Nat × Nat) :=
  c.pat.launches.flatMap fun l =>
    if l.2.space == sp then
      (l.2.nodes.filter fun n => n.2.cutting && ((n.2.sds.getLast?.bind fun i => getSd c i).map fun sd => ok sd.gen).getD true).map
        fun n => (l.2.q, l.2.e, n.1)
    else []

/-- Sides being cut are restarted in the current generation (R80 steps 1 and 3). -/
def restartCuts (c : Chip) (sp : Nat) (ok : Nat → Bool) : Chip := (cuttingIn c sp ok).foldl (fun c x => dropCut c x.1 x.2.1 x.2.2) c

/-- Retranslate what a Space has not issued in the generations that a test names: set descriptors, and those being cut. -/
def retranslate (c : Chip) (sp : Nat) (ok : Nat → Bool) : Chip := recutGens (restartCuts c sp ok) sp ok

/-- Step 1 of R80 for the Space's waiting bumps: what has not issued in generation g − 3 is retranslated in g. -/
def clearOldest (c : Chip) (sp : Nat) : Chip :=
  if c.sp.bumps.any fun b => b.space == sp && b.phase == BumpPhase.waiting then
    retranslate c sp fun g => genAge (getSpace c sp).gen g == 3
  else c

/-! The bump. -/

/-- Steps 2 and 3 of R80 in generation `g'`: the mapping change, the status of a software withdrawal, what a hard bump retranslates. -/
def takeEffect (c : Chip) (b : Bump) (g' : Nat) : Chip :=
  let w := applyChange c b.space g' b.change
  let back := b.bys.contains .remirror
  let c := modSpace w.1 b.space fun x => { x with
    state := if back && x.state = 4 then 2 else x.state, gen := g', wrote := if x.gen = g' then x.wrote else wroteTurn g' x.wrote,
    wStat := if b.soft then 2 else x.wStat, wGen := if b.soft then g' else x.wGen }
  let c := if b.hard then retranslate c b.space fun _ => true else c
  modBump c b.id fun x => { x with
    phase := .draining, gen := g', oldRuns := x.oldRuns ++ w.2.1.map (fun r => (r, 0)), oldFrames := x.oldFrames ++ w.2.2 }

/-- A bump takes effect (R80); a later one that waits begins step 1 again. -/
def applyBump (c : Chip) (i : Nat) : Chip :=
  match getBump c i with
  | none => c
  | some b => clearOldest (takeEffect c b (genNext (getSpace c b.space).gen)) b.space

/-- Must a bump wait at step 1: the counter that generation g + 1 reuses is not zero, or an earlier bump of the Space waits? -/
def bumpBlocked (c : Chip) (sp i : Nat) : Bool :=
  let s := getSpace c sp
  drainOf s (genNext s.gen) != 0 || c.sp.bumps.any fun b => b.space == sp && b.phase == .waiting && b.id < i

/-- Was a bump requested now, with nothing counted in its generation since it took effect: is a request now one of the same cycle
(R82; DESIGN CHOICE, log 111: the model's cycle is the tick, and a bump that translations already count after is not shared)? -/
def sameCycle (c : Chip) (b : Bump) : Bool :=
  b.since == now c && (b.phase == BumpPhase.waiting
    || (b.phase == BumpPhase.draining && b.gen == (getSpace c b.space).gen && drainOf (getSpace c b.space) b.gen == 0))

/-- The bump that a request shares (R78, R82): an ATS invalidation a waiting hard bump; a drain mark and a hard bump of one cycle each
other's. -/
def shareBump (c : Chip) (sp : Nat) (hard : Bool) (by_ : BumpBy) : Option Bump :=
  let ats := match by_ with | .ats _ _ => true | _ => false
  match c.sp.bumps.find? fun (b : Bump) => ats && b.space == sp && b.hard && b.phase == BumpPhase.waiting with
  | some b => some b
  | none => c.sp.bumps.find? fun (b : Bump) => b.space == sp && b.hard != hard && sameCycle c b

/-- A request joins a bump (R82): a hard bump that joins a drain mark makes it hard, with its change, now or when it takes effect. -/
def joinBump (c : Chip) (b : Bump) (hard : Bool) (by_ : BumpBy) (m : MapChange) : Chip :=
  let b' : Bump := { b with bys := b.bys ++ [by_], hard := b.hard || hard, change := if hard && !b.hard then m else b.change }
  let c := modBump c b.id fun _ => b'
  if b.phase = .waiting then (if bySoftware by_ then modSpace c b.space fun x => { x with wStat := 1 } else c)
  else if hard && !b.hard then takeEffect c b' b.gen
  else c

/-- Do the bumps of this unit run on unit 0: unit 1 in DOUBLET (R288)? -/
def followsLead (c : Chip) : Bool := c.mode == .doublet && c.unit1

/-- A number that no bump has: the next one. -/
def freshBump (c : Chip) : Nat := c.sp.bumps.foldl (fun m b => max m (b.id + 1)) c.sp.nextBump

/-- A bump of its own (R80): it takes effect at once, or waits at step 1 while what has not issued in g − 3 is retranslated. Unit 1 in DOUBLET
asks unit 0 for it and waits for the change (R288). -/
def newBump (c : Chip) (sp : Nat) (hard : Bool) (by_ : BumpBy) (m : MapChange) : Chip :=
  let i := freshBump c
  let b : Bump := ⟨i, sp, hard, [by_], m, .waiting, 0, 0, now c, false, [], []⟩
  let c := { c with sp := { c.sp with bumps := c.sp.bumps ++ [b], nextBump := i + 1 } }
  if followsLead c then emit c (.bridge 12 (leBytes 3 (pack [(sp, 2), (b2n hard, 1)])))
  else if bumpBlocked c sp i then
    clearOldest (stat (if bySoftware by_ then modSpace c sp fun x => { x with wStat := 1 } else c) 0x7034 5 1) sp
  else if bySoftware by_ then applyBump c i else mirror (applyBump c i) .space sp none

/-- Request a bump (R80): one that stands for it (R78, R82), or its own. -/
def requestBump (c : Chip) (sp : Nat) (hard : Bool) (by_ : BumpBy) (m : MapChange) : Chip :=
  match shareBump c sp hard by_ with
  | some b =>
    let c' := joinBump c b hard by_ m
    if bySoftware by_ || b.phase = .waiting || followsLead c then c' else mirror c' .space sp none
  | none => newBump c sp hard by_ m

/-- A drain mark on a Space (R80). -/
def drainMark (c : Chip) (sp : Nat) (by_ : BumpBy) : Chip := requestBump c sp false by_ .none

/-- Is a software withdrawal running on the Space: WAITING or DRAINING (R56, R82)? -/
def withdrawing (c : Chip) (sp : Nat) : Bool := (getSpace c sp).wStat == 1 || (getSpace c sp).wStat == 2

end Sys2Proof.Machine
end

