-- ==== Sys2Proof/Machine/Convert.lean ====
section
/-! DEFINITION. The eight number formats and the conversion of one stroke (R136 to R149): decode exactly, multiply exactly, round once,
count, and apply the policy. -/

namespace Sys2Proof.Machine

/-- A decoded number: NaN or infinity of a sign, or a finite value (-1)^neg × num / den with den ≠ 0. -/
inductive Num where
  | nan (neg : Bool)
  | inf (neg : Bool)
  | fin (neg : Bool) (num den : Nat)
  deriving DecidableEq, Repr, Inhabited

/-- SAT, UNF and NAN of one run of a stroke (R141). -/
structure ConvCount where
  sat : Nat
  unf : Nat
  nan : Nat
  deriving DecidableEq, Repr, Inhabited

/-- Width in bits of a format (R136). -/
def fmtBits (f : Nat) : Nat :=
  match f with
  | 0 => 32
  | 1 => 16
  | 2 => 16
  | 3 => 8
  | 4 => 8
  | 5 => 8
  | _ => 4

/-- Is the format an integer format (R136)? -/
def fmtInt (f : Nat) : Bool := f == 5 || f == 6

/-- Exponent bits of a floating format (R136). -/
def fmtExp (f : Nat) : Nat :=
  match f with
  | 0 => 8
  | 1 => 8
  | 2 => 5
  | 3 => 4
  | 4 => 5
  | _ => 2

/-- Mantissa bits of a floating format (R136). -/
def fmtMan (f : Nat) : Nat :=
  match f with
  | 0 => 23
  | 1 => 7
  | 2 => 10
  | 3 => 3
  | 4 => 2
  | _ => 1

/-- Exponent bias of a floating format (R136). -/
def fmtBias (f : Nat) : Nat :=
  match f with
  | 0 => 127
  | 1 => 127
  | 2 => 15
  | 3 => 7
  | 4 => 15
  | _ => 1

/-- The largest finite code of a floating format, positive (R136). -/
def fmtMax (f : Nat) : Nat :=
  match f with
  | 0 => 0x7F7FFFFF
  | 1 => 0x7F7F
  | 2 => 0x7BFF
  | 3 => 0x7E
  | 4 => 0x7B
  | _ => 0x7

/-- The positive canonical NaN of a floating format; FP4-E2M1 has none and takes 0 (R136, R139). -/
def fmtNan (f : Nat) : Nat :=
  match f with
  | 0 => 0x7FC00000
  | 1 => 0x7FC0
  | 2 => 0x7E00
  | 3 => 0x7F
  | 4 => 0x7E
  | _ => 0

/-- Does the format hold infinities (R136)? -/
def fmtHasInf (f : Nat) : Bool := f == 0 || f == 1 || f == 2 || f == 4

/-- The value (-1)^neg × m × 2^(e - d). -/
def numScaled (neg : Bool) (m e d : Nat) : Num :=
  if e ≥ d then .fin neg (m * 2 ^ (e - d)) 1 else .fin neg m (2 ^ (d - e))

/-- Decode a code exactly (R138 step 1): subnormals keep their value. -/
def decodeNum (f code : Nat) : Num :=
  if fmtInt f then
    let v := sext (fmtBits f) code
    .fin (v < 0) v.natAbs 1
  else
    let mb := fmtMan f
    let neg := bit code (fmtBits f - 1)
    let ex := bits code mb (fmtExp f)
    let man := bits code 0 mb
    let top := ex == 2 ^ fmtExp f - 1
    if top && fmtHasInf f then (if man = 0 then .inf neg else .nan neg)
    else if top && f == 3 && man == 7 then .nan neg
    else if ex = 0 then numScaled neg man 1 (fmtBias f + mb)
    else numScaled neg (2 ^ mb + man) ex (fmtBias f + mb)

/-- The exact product of a value and its scale (R138 step 2), with the sign rule of R139 for NaN. -/
def mulNum (x s : Num) : Num :=
  match x, s with
  | .nan n, _ => .nan n
  | _, .nan n => .nan n
  | .inf a, .inf b => .inf (a != b)
  | .inf a, .fin b n _ => if n = 0 then .nan false else .inf (a != b)
  | .fin a n _, .inf b => if n = 0 then .nan false else .inf (a != b)
  | .fin a n d, .fin b m e => .fin (a != b) (n * m) (d * e)

/-- num / den rounded to the nearest integer, half to even. -/
def roundHalfEven (num den : Nat) : Nat :=
  let q := num / den
  let r := num % den
  if 2 * r > den || (2 * r == den && q % 2 == 1) then q + 1 else q

/-- The exponent k with 2^k ≤ num / den < 2^(k+1), for num and den not 0. -/
def floorLog (num den : Nat) : Int :=
  let l : Int := (Nat.log2 num : Int) - (Nat.log2 den : Int)
  let ge : Bool := if l ≥ 0 then num ≥ den * 2 ^ l.toNat else num * 2 ^ (-l).toNat ≥ den
  if ge then l else l - 1

/-- The magnitude code of num / den in a floating format of unbounded range, rounded once, half to even (R138 step 3, R140). -/
def roundFloat (f num den : Nat) : Nat :=
  if num = 0 then 0 else
  let mb := fmtMan f
  let qmin : Int := 1 - (fmtBias f : Int) - (mb : Int)
  let q : Int := max (floorLog num den - (mb : Int)) qmin
  let r := if q ≥ 0 then roundHalfEven num (den * 2 ^ q.toNat) else roundHalfEven (num * 2 ^ (-q).toNat) den
  (q - qmin).toNat * 2 ^ mb + r

/-- A magnitude code with its sign bit. -/
def signed (f : Nat) (neg : Bool) (mag : Nat) : Nat := mag + b2n neg * 2 ^ (fmtBits f - 1)

/-- Largest or lowest integer code (R140). -/
def intLimit (f : Nat) (neg : Bool) : Nat := if neg then 2 ^ (fmtBits f - 1) else 2 ^ (fmtBits f - 1) - 1

/-- Encode a product in the destination format (R138 to R141): the code, and what it counts. `ovf` is OOR = OVERFLOW. -/
def encodeNum (f : Nat) (ovf : Bool) (p : Num) : Nat × ConvCount :=
  match p with
  | .nan n => (if fmtInt f then 0 else if f == 7 then 0 else signed f n (fmtNan f), ⟨0, 0, 1⟩)
  | .inf n =>
    if fmtInt f then (intLimit f n, ⟨1, 0, 0⟩)
    else if ovf then (signed f n (fmtMax f + 1), ⟨0, 0, 0⟩)
    else (signed f n (fmtMax f), ⟨1, 0, 0⟩)
  | .fin n num den =>
    if fmtInt f then
      let r := roundHalfEven num den
      let lim := if n then 2 ^ (fmtBits f - 1) else 2 ^ (fmtBits f - 1) - 1
      if r > lim then (intLimit f n, ⟨1, 0, 0⟩)
      else (toTwos (fmtBits f) (if n then -(r : Int) else r), ⟨0, b2n (r == 0 && num != 0), 0⟩)
    else
      let r := roundFloat f num den
      if r > fmtMax f then (signed f n (if ovf then fmtMax f + 1 else fmtMax f), ⟨1, 0, 0⟩)
      else (signed f n r, ⟨0, b2n (r == 0 && num != 0), 0⟩)

/-- Convert one value with one FP32 scale (R138). -/
def convertOne (sf df : Nat) (ovf : Bool) (scale code : Nat) : Nat × ConvCount :=
  encodeNum df ovf (mulNum (decodeNum sf code) (decodeNum 0 scale))

/-- The codes packed in a byte string (R137): little-endian, two 4-bit values per byte, the first in the low half. -/
def unpackCodes (f : Nat) (bs : Bytes) : List Nat :=
  match f with
  | 0 => unpack4 bs
  | 1 => unpack2 bs
  | 2 => unpack2 bs
  | 3 => bs.map BitVec.toNat
  | 4 => bs.map BitVec.toNat
  | 5 => bs.map BitVec.toNat
  | _ => unpackH bs
where
  unpack4 : Bytes → List Nat
    | a :: b :: c :: d :: r => leNat [a, b, c, d] :: unpack4 r
    | _ => []
  unpack2 : Bytes → List Nat
    | a :: b :: r => leNat [a, b] :: unpack2 r
    | _ => []
  unpackH : Bytes → List Nat
    | a :: r => a.toNat % 16 :: a.toNat / 16 :: unpackH r
    | [] => []

/-- Pack codes into bytes (R137). -/
def packCodes (f : Nat) (cs : List Nat) : Bytes :=
  if fmtBits f = 4 then packH cs else cs.flatMap (leBytes (fmtBits f / 8))
where
  packH : List Nat → Bytes
    | a :: b :: r => BitVec.ofNat 8 (a % 16 + 16 * (b % 16)) :: packH r
    | [a] => [BitVec.ofNat 8 (a % 16)]
    | [] => []

/-- One run of a stroke's values, each with its scale: the codes and the counters, which start at 0 (R141). -/
def convertRun (sf df : Nat) (ovf : Bool) : List (Nat × Nat) → List Nat × ConvCount
  | [] => ([], ⟨0, 0, 0⟩)
  | (x, s) :: r =>
    let (c, k) := convertOne sf df ovf s x
    let (cs, t) := convertRun sf df ovf r
    (c :: cs, ⟨k.sat + t.sat, k.unf + t.unf, k.nan + t.nan⟩)

/-- The larger of two magnitudes num / den. -/
def maxMag (a b : Nat × Nat) : Nat × Nat := if a.1 * b.2 < b.1 * a.2 then b else a

/-- The largest magnitude among the finite decoded source values (R149). -/
def largestMag (sf : Nat) (xs : List Nat) : Nat × Nat :=
  xs.foldl (fun m x => match decodeNum sf x with | .fin _ n d => maxMag m (n, d) | _ => m) (0, 1)

/-- The largest finite magnitude of a destination (R136), as a whole number or a fraction. -/
def fmtLargest (f : Nat) : Nat × Nat :=
  if fmtInt f then (2 ^ (fmtBits f - 1) - 1, 1)
  else match decodeNum f (fmtMax f) with
    | .fin _ n d => (n, d)
    | _ => (0, 1)

/-- The new scale s' = Q × 2^-H / m, rounded once to FP32, half to even; beyond the FP32 range 0x7F7F_FFFF (R149). -/
def rescaleTo (df h : Nat) (m : Nat × Nat) : Nat :=
  let q := fmtLargest df
  min (roundFloat 0 (q.1 * m.2) (q.2 * 2 ^ h * m.1)) 0x7F7FFFFF

/-- How the policy left a stroke. -/
inductive Redo where
  | none
  | wide
  | rescaled
  deriving DecidableEq, Repr, Inhabited

/-- What one stroke's conversion gives: the bytes to write, the counters recorded, whether it tripped, its redo, its scale for the
conversion result (0 for BY_I1, R151), and the values converted with redos included (0x7037.01). -/
structure ConvResult where
  data : Bytes
  cnt : ConvCount
  trip : Bool
  redo : Redo
  scale : Nat
  vals : Nat
  deriving DecidableEq, Repr, Inhabited

/-- Convert a stroke under its policy (R146 to R149). `vals` pairs each source code with the scale read at issue; `sel` is SCALE_SEL,
`policy` POLICY, `satLim`, `unfLim` and `head` the policy set, `issued` the scale of UNIFORM. -/
def convertStroke (sf df : Nat) (ovf : Bool) (sel policy satLim unfLim head issued : Nat) (vals : List (Nat × Nat)) : ConvResult :=
  let (cs, k) := convertRun sf df ovf vals
  let trip := k.sat > satLim || k.unf > unfLim
  let shown := if sel = 2 then 0 else issued
  let first : ConvResult := ⟨packCodes df cs, k, trip, .none, shown, vals.length⟩
  if !trip then first
  else if policy = 1 then
    let (ws, kw) := convertRun sf 1 ovf vals
    ⟨packCodes 1 ws, kw, true, .wide, shown, 2 * vals.length⟩
  else if policy = 2 then
    let m := largestMag sf (vals.map (·.1))
    if m.1 = 0 then first
    else
      let s := rescaleTo df head m
      let (rs, kr) := convertRun sf df ovf (vals.map fun v => (v.1, s))
      ⟨packCodes df rs, kr, true, .rescaled, s, 2 * vals.length⟩
  else first

/-- Is scale `a` smaller in magnitude than `b` (R149)? NaN scales are left out by the caller. -/
def scaleLess (a b : Nat) : Bool := a % 2 ^ 31 < b % 2 ^ 31

/-- Is an FP32 code a NaN? -/
def isNan32 (a : Nat) : Bool := a % 2 ^ 31 > 0x7F800000

/-- The smallest scale that any stroke used, the lower stroke number first among equals (R149). -/
def smallestScale (ss : List Nat) : Option Nat :=
  ss.foldl (fun m s => if isNan32 s then m else match m with | none => some s | some t => if scaleLess s t then some s else some t) none

end Sys2Proof.Machine
end

