-- ==== Sys2Proof/Machine/Shuffle.lean ====
section
/-! DEFINITION. Interleave, de-interleave and the bit-plane transpose of one stroke (R115, R116). -/

namespace Sys2Proof.Machine

/-- Byte `i` of a byte string, 0 past its end. -/
def byteAt (bs : Bytes) (i : Nat) : Byte := bs.getD i 0

/-- INTERLEAVE of W lanes in units of u bytes: output[(k W + j) u + m] = input[j L + k u + m] (R115). -/
def interleave (ways u : Nat) (bs : Bytes) : Bytes :=
  let l := bs.length / ways
  (upFrom 0 bs.length).map fun o =>
    let m := o % u
    let j := o / u % ways
    let k := o / u / ways
    byteAt bs (j * l + k * u + m)

/-- DEINTERLEAVE, the exact inverse (R115). -/
def deinterleave (ways u : Nat) (bs : Bytes) : Bytes :=
  let l := bs.length / ways
  (upFrom 0 bs.length).map fun i =>
    let j := i / l
    let k := i % l / u
    let m := i % l % u
    byteAt bs ((k * ways + j) * u + m)

/-- Bit `q` of a byte string (R116). -/
def bitAt (bs : Bytes) (q : Nat) : Bool := (byteAt bs (q / 8)).getLsbD (q % 8)

/-- The byte whose bit `i` is `f i`. -/
def byteOfBits (f : Nat → Bool) : Byte :=
  BitVec.ofNat 8 (b2n (f 0) + 2 * b2n (f 1) + 4 * b2n (f 2) + 8 * b2n (f 3) + 16 * b2n (f 4) + 32 * b2n (f 5) + 64 * b2n (f 6)
    + 128 * b2n (f 7))

/-- PLANES of one stroke: in each block of 64 b bytes, bit i of plane p is bit p of code i (R116). -/
def planes (b : Nat) (bs : Bytes) : Bytes :=
  (upFrom 0 bs.length).map fun o =>
    let blk := o / (64 * b)
    let p := o % (64 * b) / 64
    let base := o % 64 * 8
    byteOfBits fun t => bitAt bs (blk * 512 * b + (base + t) * b + p)

/-- UNPLANES, the exact inverse (R116). -/
def unplanes (b : Nat) (bs : Bytes) : Bytes :=
  (upFrom 0 bs.length).map fun o =>
    let blk := o / (64 * b)
    let base := o % (64 * b) * 8
    byteOfBits fun t =>
      let q := base + t
      bitAt bs (blk * 512 * b + q % b * 512 + q / b)

/-- The shuffle that acts on source-format data: DEINTERLEAVE or UNPLANES (R114 stage 3). -/
def shuffleSrc (kind ways u b : Nat) (bs : Bytes) : Bytes :=
  if kind = 2 then deinterleave ways u bs else if kind = 4 then unplanes b bs else bs

/-- The shuffle that acts on destination-format data: INTERLEAVE or PLANES (R114 stage 5). -/
def shuffleDst (kind ways u b : Nat) (bs : Bytes) : Bytes :=
  if kind = 1 then interleave ways u bs else if kind = 3 then planes b bs else bs

end Sys2Proof.Machine
end

