-- ==== Sys2Proof/Machine/Move.lean ====
section
/-! DEFINITION. The transfer descriptor (R108 to R113, R142, R143): its fields, its check, its elements and its strokes. -/

namespace Sys2Proof.Machine

/-! Header fields (R108). -/

/-- OP: 1 TRANSFER, 2 GATHER, 3 SCATTER. -/
def dOp (b : Nat) : Nat := bits b 0 2
/-- SRC_KIND: 0 MEMORY, 1 ZERO, 2 PATTERN. -/
def dSrcKind (b : Nat) : Nat := bits b 8 2
/-- SHUFFLE. -/
def dShuffle (b : Nat) : Nat := bits b 16 4
/-- W, the interleave ways. -/
def dWays (b : Nat) : Nat := 2 ^ (1 + bits b 24 2)
/-- b, the bit-plane code width. -/
def dCodeBits (b : Nat) : Nat := 2 ^ bits b 26 2
/-- u, the interleave unit. -/
def dUnit (b : Nat) : Nat := 2 ^ bits b 28 2
/-- SRC_FMT. -/
def dSrcFmt (b : Nat) : Nat := bits b 32 4
/-- DST_FMT. -/
def dDstFmt (b : Nat) : Nat := bits b 36 4
/-- HALF_MARK. -/
def dHalf (b : Nat) : Bool := bit b 42
/-- FULL_MARK. -/
def dFull (b : Nat) : Bool := bit b 43
/-- FENCE. -/
def dFence (b : Nat) : Bool := bit b 44
/-- NO_RO. -/
def dNoRo (b : Nat) : Bool := bit b 45
/-- PACE: 0 IMMEDIATE, 1 AT_TICK, 2 PERIOD, 3 AFTER_CHANNEL. -/
def dPace (b : Nat) : Nat := bits b 48 4
/-- PACE_CHANNEL. -/
def dPaceCh (b : Nat) : Nat := bits b 52 6
/-- PACE_TICK. -/
def dPaceTick (b : Nat) : Nat := bits b 192 64
/-- INDEX_WIDTH in bytes. -/
def dIdxBytes (b : Nat) : Nat := if bits b 96 2 = 0 then 4 else 8
/-- INDEX_COUNT. -/
def dIdxCount (b : Nat) : Nat := bits b 104 24
/-- INDEX_LIST. -/
def dIdxList (b : Nat) : Nat := bits b 128 56

/-! CONV (R142), bits [95:64]. -/

/-- OOR = OVERFLOW. -/
def dOvf (b : Nat) : Bool := bit b 64
/-- SCALE_SEL. -/
def dScaleSel (b : Nat) : Nat := bits b 68 2
/-- POLICY: 0 FLAG, 1 WIDE, 2 RESCALE. -/
def dPolicy (b : Nat) : Nat := bits b 70 2
/-- SCALE_INDEX. -/
def dScaleIdx (b : Nat) : Nat := bits b 72 10
/-- BANK. -/
def dBank (b : Nat) : Nat := bits b 82 6
/-- PSET. -/
def dPset (b : Nat) : Nat := bits b 88 4
/-- CARRY. -/
def dCarry (b : Nat) : Bool := bit b 95
/-- Does the node convert (R108)? -/
def dConverts (b : Nat) : Bool := dSrcFmt b != dDstFmt b

/-! Sides (R109). -/

/-- First bit of a side. -/
def sideOff (s : Side) : Nat := match s with | .src => 256 | .dst => 640
/-- BASE. -/
def sBase (b : Nat) (s : Side) : Nat := bits b (sideOff s) 56
/-- LEN0; 0 means 2^24. -/
def sLen0 (b : Nat) (s : Side) : Nat := let v := bits b (sideOff s + 96) 24; if v = 0 then 2 ^ 24 else v
/-- FIXED. -/
def sFixed (b : Nat) (s : Side) : Nat := bits b (sideOff s + 120) 4
/-- Count of dimension n, 1 to 3. -/
def sCount (b : Nat) (s : Side) (n : Nat) : Nat := bits b (sideOff s + 128 + 16 * n) 16 + 1
/-- Stride of dimension n, 1 to 3. -/
def sStride (b : Nat) (s : Side) (n : Nat) : Nat := bits b (sideOff s + 144 + 48 * n) 48
/-- The side of the indexed rows (R110). -/
def indexedSide (b : Nat) (s : Side) : Bool := (dOp b == 2 && s == .src) || (dOp b == 3 && s == .dst)
/-- Does dimension 0 of a side not advance? -/
def sFixed0 (b : Nat) (s : Side) : Bool := bit (sFixed b s) 0

/-! Widths and sizes (R110, R113, R137, R143). -/

/-- Bits per value on a side; a node that does not convert moves bytes. A WIDE destination is sized at 16 bits. -/
def sideWidth (b : Nat) (s : Side) : Nat :=
  if !dConverts b then 8 else match s with
  | .src => fmtBits (dSrcFmt b)
  | .dst => if dPolicy b = 1 then 16 else fmtBits (dDstFmt b)

/-- Bits per value on the wider side. -/
def wideWidth (b : Nat) : Nat := max (sideWidth b .src) (sideWidth b .dst)

/-- Bytes of a contiguous move that the unit makes itself (R92, R232, R243); 0 for a descriptor that software wrote. It is held above the
128 bytes of the descriptor. -/
def contigLen (b : Nat) : Nat := bits b 1024 41

/-- Bytes of a side's stream by its own fields. -/
def ownBytes (b : Nat) (s : Side) : Nat :=
  if contigLen b != 0 then contigLen b
  else if indexedSide b s then dIdxCount b * sLen0 b s else sLen0 b s * sCount b s 1 * sCount b s 2 * sCount b s 3

/-- Bytes of a side's stream; a ZERO or PATTERN source is as long as its destination (R117). -/
def sideBytes (b : Nat) (s : Side) : Nat := if s = .src && dSrcKind b != 0 then ownBytes b .dst else ownBytes b s

/-- B: bytes of the wider side. -/
def wideBytes (b : Nat) : Nat :=
  if sideWidth b .src ≥ sideWidth b .dst then sideBytes b .src else sideBytes b .dst

/-- The side whose rows an index list names. -/
def rowSide (b : Nat) : Side := if dOp b = 3 then .dst else .src

/-- Bytes of one row on the wider side (R110). -/
def rowWide (b : Nat) : Nat := sLen0 b (rowSide b) * wideWidth b / sideWidth b (rowSide b)

/-- Rows per stroke (R113). -/
def rowsPerStroke (b : Nat) : Nat := max 1 (min 256 (65536 / rowWide b))

/-- Wider-side bytes of a full stroke. -/
def strokeUnit (b : Nat) : Nat := if dOp b = 1 then 65536 else rowsPerStroke b * rowWide b

/-- Strokes of the node. -/
def strokeCount (b : Nat) : Nat := (wideBytes b + strokeUnit b - 1) / strokeUnit b

/-- Stroke `k` of a side: first byte and length in the side's stream. -/
def strokeSpan (b : Nat) (s : Side) (k : Nat) : Nat × Nat :=
  let lo := min (wideBytes b) (k * strokeUnit b)
  let hi := min (wideBytes b) ((k + 1) * strokeUnit b)
  (lo * sideWidth b s / wideWidth b, (hi - lo) * sideWidth b s / wideWidth b)

/-- The stroke of the half mark: the one that holds byte ⌈B / 2⌉ − 1 (R120). -/
def halfStroke (b : Nat) : Nat := ((wideBytes b + 1) / 2 - 1) / strokeUnit b

/-! The check (R108, R110, R143). -/

/-- Are the encodings of R108 and R136 defined, and the period in range? -/
def descCodesOk (b : Nat) : Bool :=
  dOp b != 0 && dSrcKind b ≤ 2 && dShuffle b ≤ 4 && bits b 24 2 ≤ 2 && dSrcFmt b ≤ 7 && dDstFmt b ≤ 7 && dPace b ≤ 3
    && bits b 96 2 ≤ 1 && (dPace b != 2 || (100 ≤ dPaceTick b && dPaceTick b ≤ 2 ^ 40))

/-- The strides, counts and FIXED of a side are 0 but for those that a test keeps. -/
def sideZero (b : Nat) (s : Side) (stride1 : Bool) : Bool :=
  sFixed b s == 0 && sCount b s 1 == 1 && sCount b s 2 == 1 && sCount b s 3 == 1 && sStride b s 2 == 0 && sStride b s 3 == 0
    && (stride1 || sStride b s 1 == 0)

/-- The indexed side (R110). -/
def indexedOk (b : Nat) : Bool :=
  let s := rowSide b
  1 ≤ dIdxCount b && sideZero b s true && 1 ≤ sStride b s 1 && bits b (sideOff s + 96) 24 != 0 && sLen0 b s ≤ 65535
    && rowWide b ≤ 65536

/-- The FIXED dimensions of a side (R110). -/
def fixedOk (b : Nat) (s : Side) : Bool :=
  ([1, 2, 3].all fun n => !bit (sFixed b s) n || sStride b s n == 0)
    && (!sFixed0 b s || (sLen0 b s % 64 == 0 && sBase b s % 64 == 0 && [1, 2, 3].all fun n => sStride b s n % 64 == 0))

/-- ZERO and PATTERN sources (R110): used only with a plain TRANSFER, every source field but the pattern 0. -/
def plainSourceOk (b : Nat) : Bool :=
  dSrcKind b == 0
    || (dOp b == 1 && !dConverts b && dShuffle b == 0 && sideZero b .src false && bits b (256 + 96) 24 == 0
        && (dSrcKind b == 2 || bits b 256 64 == 0))

/-- Both sides hold the same whole number of values, at most 2^40 bytes on the wider side (R110). -/
def valuesOk (b : Nat) : Bool :=
  sideBytes b .src * sideWidth b .dst == sideBytes b .dst * sideWidth b .src
    && sideBytes b .src * 8 % sideWidth b .src == 0 && wideBytes b ≤ 2 ^ 40 && 1 ≤ wideBytes b

/-- The shuffle's block on the side it acts on (R110): the source for DEINTERLEAVE and UNPLANES, the destination otherwise. -/
def shuffleOk (b : Nat) : Bool :=
  let k := dShuffle b
  if k = 0 then true
  else
    let n := if k = 2 || k = 4 then sideBytes b .src else sideBytes b .dst
    if k ≤ 2 then n % (dWays b * dUnit b) == 0 else n % (64 * dCodeBits b) == 0

/-- R143, which applies to a node that converts. -/
def convOk (b : Nat) : Bool :=
  !dConverts b
    || (dPolicy b ≤ 2 && dScaleSel b ≤ 2 && (!dOvf b || fmtHasInf (dDstFmt b)) && (!dCarry b || dPolicy b == 2)
        && (dPolicy b != 2 || dScaleSel b == 1)
        && (dPolicy b != 1 || (fmtBits (dDstFmt b) ≤ 8 && dShuffle b != 1 && dShuffle b != 3 && !sFixed0 b .dst))
        && (dPolicy b == 0 || strokeCount b ≤ 16))

/-- Is a descriptor valid (R108, R110, R143)? -/
def descOk (b : Nat) : Bool :=
  descCodesOk b
    && (if dOp b = 1 then dIdxCount b == 0 && dIdxList b == 0 else indexedOk b)
    && fixedOk b .src && fixedOk b .dst && plainSourceOk b && valuesOk b && shuffleOk b && convOk b && strokeCount b ≤ 2 ^ 24

/-- Are the reserved fields of one side 0 (R109)? -/
def sideReservedOk (b : Nat) (s : Side) : Bool :=
  let o := sideOff s
  bits b (o + 336) 48 == 0 && bits b (o + 124) 20 == 0 && bits b (o + 64) 32 == 0
    && (bits b (o + 56) 8 == 0 || (s == .src && dSrcKind b == 2))

/-- Are the reserved fields of a descriptor 0 (R108, R109, R142)? -/
def descReservedOk (b : Nat) : Bool :=
  bits b 184 8 == 0 && bits b 98 6 == 0 && bits b 58 6 == 0 && bits b 46 2 == 0 && bits b 40 2 == 0 && bits b 30 2 == 0
    && bits b 20 4 == 0 && bits b 10 6 == 0 && bits b 2 6 == 0 && bits b 92 3 == 0 && bits b 65 3 == 0
    && sideReservedOk b .src && sideReservedOk b .dst

/-! Elements (R111). -/

/-- Bytes of one full element as it is translated: a FIXED dimension 0 travels as beats of 64 bytes, a contiguous move as 64 KiB pieces. -/
def elemUnit (b : Nat) (s : Side) : Nat :=
  if contigLen b != 0 then 65536 else if sFixed0 b s && !indexedSide b s then 64 else sLen0 b s

/-- Elements of a side. -/
def elemCount (b : Nat) (s : Side) : Nat := (sideBytes b s + elemUnit b s - 1) / elemUnit b s

/-- Bytes of element `e` of a side. -/
def elemLen (b : Nat) (s : Side) (e : Nat) : Nat := min (elemUnit b s) (sideBytes b s - e * elemUnit b s)

/-- Start of the element of a walked side that holds number `e` (i3 outermost, then i2, then i1). -/
def walkStart (b : Nat) (s : Side) (e : Nat) : Nat :=
  let adv := fun (n i : Nat) => if bit (sFixed b s) n then 0 else i * sStride b s n
  sBase b s + adv 1 (e % sCount b s 1) + adv 2 (e / sCount b s 1 % sCount b s 2) + adv 3 (e / sCount b s 1 / sCount b s 2)

/-- Start of element `e` of a side; `idx` is the index list of an indexed side. -/
def elemStart (b : Nat) (s : Side) (idx : List Nat) (e : Nat) : Nat :=
  if contigLen b != 0 then sBase b s + e * 65536
  else if indexedSide b s then sBase b s + idx.getD e 0 * sStride b s 1
  else if sFixed0 b s then walkStart b s (e / (sLen0 b s / 64))
  else walkStart b s e

/-- The dimension-1 index of the source element that holds byte `o` of the source stream, or the row number (R142, BY_I1). -/
def dim1At (b o : Nat) : Nat :=
  let e := o / sLen0 b .src
  if indexedSide b .src then e else e % sCount b .src 1

/-- FORM of a side's region: ROW for the source of a gather and the destination of a scatter (R68). -/
def sideForm (b : Nat) (s : Side) : Nat := if indexedSide b s then 1 else 2

/-! Descriptors the unit makes itself. -/

/-- A contiguous move of `n` bytes, without conversion: SRC_KIND, pattern or source base, destination base. -/
def contigBody (kind src dst n : Nat) : Nat :=
  1 + kind % 4 * 2 ^ 8 + src % 2 ^ 64 * 2 ^ 256 + dst % 2 ^ 56 * 2 ^ 640 + n % 2 ^ 41 * 2 ^ 1024

end Sys2Proof.Machine
end

