-- ==== Sys2Proof/Machine/Image.lean ====
section
/-! DEFINITION. The Pattern image (R201 to R206, R219): its parts, its registration check (R216), and relocation (R220, R221). -/

namespace Sys2Proof.Machine

/-! Parts (R201, R202). -/

/-- NODES. -/
def imgNodes (i : Bytes) : Nat := bfld i 4 2
/-- RELOCS. -/
def imgRelocs (i : Bytes) : Nat := bfld i 6 2
/-- EDGES. -/
def imgEdges (i : Bytes) : Nat := bfld i 8 4
/-- PACKAGE. -/
def imgPackage (i : Bytes) : Nat := bfld i 12 4
/-- LIGHT. -/
def imgLight (i : Bytes) : Nat := bfld i 16 2
/-- TABLE_COUNT. -/
def imgTableCount (i : Bytes) : Nat := bfld i 18 1
/-- IS_LIGHT. -/
def imgIsLight (i : Bytes) : Bool := bit (bfld i 19 1) 0
/-- TABLES, the first TABLE_COUNT of them. -/
def imgTables (i : Bytes) : List Nat := (upFrom 0 (min 8 (imgTableCount i))).map fun k => bfld i (20 + k) 1
/-- SCRATCH_BYTES. -/
def imgScratch (i : Bytes) : Nat := bfld i 28 4
/-- MIN_HANDLES. -/
def imgMinHandles (i : Bytes) : Nat := bfld i 32 2
/-- PATCH_MIN. -/
def imgPatchMin (i : Bytes) : Nat := bfld i 34 2

/-- KIND of a node header (R203). -/
def hKind (h : Nat) : Nat := bits h 0 4
/-- SWITCH. -/
def hSwitch (h : Nat) : Bool := bit h 8
/-- JOIN. -/
def hJoin (h : Nat) : Bool := bit h 9
/-- SCRATCH_SRC. -/
def hScrSrc (h : Nat) : Bool := bit h 10
/-- SCRATCH_DST. -/
def hScrDst (h : Nat) : Bool := bit h 11
/-- NODE. -/
def hNode (h : Nat) : Nat := bits h 64 12
/-- IN_EDGES. -/
def hInEdges (h : Nat) : Nat := bits h 96 16
/-- LIVE_LINES. -/
def hLive (h : Nat) : Nat := bits h 112 16
/-- Is a kind a move node: TRANSFER, GATHER or SCATTER? -/
def kindMove (k : Nat) : Bool := 2 ≤ k && k ≤ 4
/-- Body size of a kind (R201). -/
def kindBody (k : Nat) : Nat := if k ≤ 4 then 128 else 32

/-- The node records from offset `o`: header, body and the offset after; stops at an invalid KIND (R216). -/
def walkNodes (i : Bytes) (o : Nat) : Nat → List (Nat × Nat) × Nat
  | 0 => ([], o)
  | n + 1 =>
    let h := bfld i o 16
    let k := hKind h
    if i.length < o + 16 || k = 0 || k > 9 then ([], o)
    else
      let r := walkNodes i (o + 16 + kindBody k) n
      ((h, bfld i (o + 16) (kindBody k)) :: r.1, r.2)

/-- The node records of an image: header and body. -/
def imgNodeList (i : Bytes) : List (Nat × Nat) := (walkNodes i 64 (imgNodes i)).1

/-- Offset of the edge records. -/
def imgEdgeOff (i : Bytes) : Nat := (walkNodes i 64 (imgNodes i)).2

/-- `n` records of 8 bytes from offset `o`. -/
def recs8 (i : Bytes) (o : Nat) : Nat → List Nat
  | 0 => []
  | n + 1 => bfld i o 8 :: recs8 i (o + 8) n

/-- The edge records. -/
def imgEdgeList (i : Bytes) : List Nat := recs8 i (imgEdgeOff i) (imgEdges i)

/-- The relocation records. -/
def imgRelocList (i : Bytes) : List Nat := recs8 i (imgEdgeOff i + 8 * imgEdges i) (imgRelocs i)

/-- SAVE_LINES of a Pattern: the largest LIVE_LINES of its switch points (R238). -/
def imgSaveLines (i : Bytes) : Nat := (imgNodeList i).foldl (fun m n => if hSwitch n.1 then max m (hLive n.1) else m) 0

/-! Edges (R206) and relocation records (R219). -/

/-- FROM of an edge. -/
def edFrom (e : Nat) : Nat := bits e 0 12
/-- TO of an edge. -/
def edTo (e : Nat) : Nat := bits e 16 12
/-- KIND of an edge: 0 COMPLETE, 1 HALF, 2 FULL, 3 THEN, 4 ELSE, 5 PRIOR. -/
def edKind (e : Nat) : Nat := bits e 28 3
/-- CUT of an edge. -/
def edCut (e : Nat) : Bool := bit e 31
/-- DIST of an edge. -/
def edDist (e : Nat) : Nat := bits e 40 8

/-- NODE of a relocation record. -/
def rlNode (r : Nat) : Nat := bits r 0 12
/-- KIND of a relocation record: 0 HANDLE, 1 PATCH64, 2 PATCH32. -/
def rlKind (r : Nat) : Nat := bits r 28 4
/-- OFFSET of a relocation record. -/
def rlOff (r : Nat) : Nat := bits r 32 8
/-- SOURCE of a relocation record. -/
def rlSrc (r : Nat) : Nat := bits r 48 16
/-- Bytes that a relocation record writes. -/
def rlWidth (r : Nat) : Nat := if rlKind r = 2 then 4 else 8

/-! Loops. -/

/-- FIRST and LAST of a Loop body. -/
def loopRange (b : Nat) : Nat × Nat := (fld b 0 2, fld b 2 2)

/-- The Loop nodes with their ranges. -/
def loopsOf (ns : List (Nat × Nat)) : List (Nat × Nat × Nat) :=
  (ns.zipIdx.filter fun x => hKind x.1.1 == 6).map fun x => (x.2, loopRange x.1.2)

/-- Is a node in the body range? -/
def inRange (n : Nat) (r : Nat × Nat) : Bool := r.1 ≤ n && n ≤ r.2

/-! The checks of R216: each answers the first failing node or item. -/

/-- The first element of a numbered list that fails a test. -/
def firstBad {α : Type} (l : List α) (bad : Nat → α → Bool) : Option Nat := (l.zipIdx.find? fun x => bad x.2 x.1).map (·.2)

/-- REASON 2, the header. -/
def headerBad (i : Bytes) : Bool :=
  imgNodes i < 1 || imgNodes i > 4096 || imgEdges i > 16384 || imgRelocs i > 16384 || imgTableCount i > 8
    || imgScratch i > 1048576 || imgMinHandles i > 256 || imgPatchMin i > 4096 || imgPatchMin i % 8 != 0
    || (upFrom 0 8).any (fun k => imgTableCount i ≤ k && bfld i (20 + k) 1 != 0)
    || bfld i 19 1 / 2 != 0 || bfld i 36 28 != 0

/-- A control-node body whose reserved bytes or fields break R205. -/
def controlBad (pm k b : Nat) : Bool :=
  if k = 5 then
    let c := fld b 0 1
    c = 0 || c > 5 || ((c = 2 || c = 3) && fld b 1 1 > 3) || (c = 3 && (fld b 4 2 % 8 != 0 || fld b 4 2 + 8 > pm))
      || fld b 6 2 != 0 || fld b 16 16 != 0
  else if k = 6 then fld b 9 23 != 0
  else if k = 7 then fld b 8 1 > 1 || fld b 9 23 != 0
  else if k = 8 then fld b 0 1 > 1 || fld b 1 31 != 0
  else if k = 9 then fld b 10 22 != 0
  else false

/-- REASON 3, one node: `ins` counts the edges that name it as TO. -/
def nodeBad (pm n ins : Nat) (h b : Nat) : Bool :=
  let k := hKind h
  hNode h != n || hInEdges h != ins || (!kindMove k && (hScrSrc h || hScrDst h)) || hLive h > 16376
    || (!hSwitch h && hLive h != 0) || bits h 76 20 != 0 || bits h 12 52 != 0 || bits h 4 4 != 0
    || (k == 1 && (fld b 9 1 / 2 != 0 || fld b 12 20 != 0)) || controlBad pm k b

/-- REASON 4, one node. -/
def descBad (h b : Nat) : Bool := kindMove (hKind h) && (dOp b != hKind h - 1 || !descOk b || !descReservedOk b)

/-- REASON 5, one edge. -/
def edgeBad (ns : List (Nat × Nat)) (e : Nat) : Bool :=
  let k := edKind e
  let f := ns.getD (edFrom e) (0, 0)
  let t := ns.getD (edTo e) (0, 0)
  edTo e ≥ ns.length || k > 5 || (k != 5 && edFrom e ≥ edTo e) || ((k == 3 || k == 4) && hKind f.1 != 5)
    || (k == 1 && !(kindMove (hKind f.1) && dHalf f.2)) || (k == 2 && !(kindMove (hKind f.1) && dFull f.2))
    || (edCut e && !kindMove (hKind t.1)) || (if k = 5 then edDist e < 1 || edDist e > 64 else edDist e != 0)
    || bits e 48 16 != 0 || bits e 32 8 != 0 || bits e 12 4 != 0

/-- Is there an edge of one of the kinds between two nodes? -/
def hasEdge (es : List Nat) (f t : Nat) (ks : List Nat) : Bool :=
  es.any fun e => edFrom e == f && edTo e == t && ks.contains (edKind e)

/-- REASON 5, one node's ARG_NODE or CONV_NODE. -/
def argBad (ns : List (Nat × Nat)) (es : List Nat) (n h b : Nat) : Bool :=
  let conv := fun (a : Nat) => let x := ns.getD a (0, 0); kindMove (hKind x.1) && dConverts x.2
  if hKind h = 5 then
    let a := fld b 2 2
    if fld b 0 1 = 1 then !conv a || !hasEdge es a n [0]
    else if fld b 0 1 = 2 then hKind (ns.getD a (0, 0)).1 != 1 || !hasEdge es a n [0]
    else false
  else if hKind h = 1 && bit (fld b 9 1) 0 then
    let a := fld b 10 2
    !conv a || !hasEdge es a n [0, 2]
  else false

/-- REASON 6, one Loop node. -/
def loopBad (pm len : Nat) (loops : List (Nat × Nat × Nat)) (es : List Nat) (n b : Nat) : Bool :=
  let r := loopRange b
  r.1 ≤ n || r.2 < r.1 || r.2 ≥ len
    || es.any (fun e => edKind e != 5 && inRange (edFrom e) r != inRange (edTo e) r)
    || loops.any (fun l => inRange l.1 r && l.2.2 > r.2)
    || loops.any (fun l => l.1 != n && !inRange l.1 r && !inRange n l.2 && l.2.1 ≤ r.2 && r.1 ≤ l.2.2)
    || (loops.filter fun l => inRange n l.2).length ≥ 4
    || (fld b 8 1 != 0xFF && (fld b 8 1 % 4 != 0 || fld b 8 1 > 92))
    || (fld b 6 2 != 0xFFFF && (fld b 6 2 % 8 != 0 || fld b 6 2 + 8 > pm))

/-- REASON 7, one relocation record (R219). -/
def relocBad (i : Bytes) (ns : List (Nat × Nat)) (r : Nat) : Bool :=
  let x := ns.getD (rlNode r) (0, 0)
  let k := hKind x.1
  rlNode r ≥ ns.length || rlKind r > 2 || rlOff r % rlWidth r != 0 || rlOff r + rlWidth r > kindBody k
    || (rlKind r == 0 && !((k == 1 && (rlOff r == 0 || 32 ≤ rlOff r)) || (kindMove k && [16, 32, 80].contains (rlOff r))))
    || (if rlKind r = 0 then rlSrc r ≥ imgMinHandles i else rlSrc r + rlWidth r > imgPatchMin i)
    || bits r 40 8 != 0 || bits r 12 16 != 0

/-- REASON 9, one Run node: clusters 8 to 15 exist in DOUBLET only. -/
def clusterBad (doublet : Bool) (h b : Nat) : Bool :=
  hKind h == 1 && fld b 8 1 != 0xFF && fld b 8 1 ≥ (if doublet then 16 else 8)

/-- The registration check but for STORE (R216): (REASON, NODE, ITEM), REASON 0 when every check passes. -/
def checkImage (i : Bytes) (pkg : Nat) (doublet : Bool) : Nat × Nat × Nat :=
  let ns := imgNodeList i
  let es := imgEdgeList i
  let pm := imgPatchMin i
  let loops := loopsOf ns
  let ins := fun (n : Nat) => (es.filter fun e => edTo e == n).length
  if i.length < 64 || bfld i 0 4 != 0x4E544150 then (1, 0, 0)
  else if ns.length < imgNodes i && imgEdgeOff i + 16 ≤ i.length then (3, ns.length, 0)
  else if ns.length < imgNodes i || i.length != imgEdgeOff i + 8 * imgEdges i + 8 * imgRelocs i then (1, 0, 0)
  else if headerBad i then (2, 0, 0)
  else match firstBad ns fun n x => nodeBad pm n (ins n) x.1 x.2 with
  | some n => (3, n, 0)
  | none => match firstBad ns fun _ x => descBad x.1 x.2 with
  | some n => (4, n, 0)
  | none => match firstBad es fun _ e => edgeBad ns e with
  | some k => (5, edTo (es.getD k 0), k)
  | none => match firstBad ns fun n x => argBad ns es n x.1 x.2 with
  | some n => (5, n, 0)
  | none => match firstBad ns fun n x => hKind x.1 == 6 && loopBad pm ns.length loops es n x.2 with
  | some n => (6, n, 0)
  | none => match firstBad (imgRelocList i) fun _ r => relocBad i ns r with
  | some k => (7, rlNode ((imgRelocList i).getD k 0), k)
  | none =>
    if imgPackage i != pkg then (8, 0, 0)
    else match firstBad ns fun _ x => clusterBad doublet x.1 x.2 with
    | some n => (9, n, 0)
    | none => (0, 0, 0)

/-! Relocation (R220). -/

/-- The bodies after one record, and whether it was a HANDLE result that R220 refuses. -/
def applyReloc (patch : Bytes) (handles : List Nat) (inSeg : Nat → Bool) (ns : List (Nat × Nat)) (r : Nat) :
    List (Nat × Nat) × Bool :=
  let x := ns.getD (rlNode r) (0, 0)
  if rlKind r = 0 then
    let v := fld x.2 (rlOff r) 8 + handles.getD (rlSrc r) 0
    (ns.set (rlNode r) (x.1, setFld x.2 (rlOff r) 8 v), v ≥ 2 ^ 56 || !inSeg v)
  else (ns.set (rlNode r) (x.1, setFld x.2 (rlOff r) (rlWidth r) (bfld patch (rlSrc r) (rlWidth r))), false)

/-- All records in image order: the bodies, and whether a HANDLE result was refused. -/
def applyRelocs (patch : Bytes) (handles : List Nat) (inSeg : Nat → Bool) : List Nat → List (Nat × Nat) → List (Nat × Nat) × Bool
  | [], ns => (ns, false)
  | r :: rs, ns =>
    let a := applyReloc patch handles inSeg ns r
    let t := applyRelocs patch handles inSeg rs a.1
    (t.1, a.2 || t.2)

/-- Iterations of a Loop: COUNT, or the patch word that replaces it (R210). -/
def loopCount (patch : Bytes) (b : Nat) : Nat := if fld b 6 2 = 0xFFFF then fld b 4 2 else bfld patch (fld b 6 2) 8

/-- Relocate an image for a launch: the lowest cause of 3 to 6 that applies (0 for none), and the nodes (R220, R221). -/
def relocate (i patch : Bytes) (handles : List Nat) (inSeg : Nat → Bool) : Nat × List (Nat × Nat) :=
  let t := applyRelocs patch handles inSeg (imgRelocList i) (imgNodeList i)
  let cause :=
    if handles.any fun h => h ≥ 2 ^ 56 then 3
    else if t.2 then 4
    else if t.1.any fun x => kindMove (hKind x.1) && !descOk x.2 then 5
    else if t.1.any fun x => hKind x.1 == 6 && loopCount patch x.2 > 65535 then 6
    else 0
  (cause, t.1)

end Sys2Proof.Machine
end

