-- ==== Sys2Proof/Machine/Launch.lean ====
section
/-! DEFINITION. Running launches: translation faults (R73, R75), final statuses (R229), the edges, control nodes and loops of a graph (R206 to
R213, R230), the light variant (R213, R247, R248), and the staging of Run nodes (R223, R224). -/

namespace Sys2Proof.Machine

/-! Translation faults (R73, R75). -/

/-- "No final status yet". -/
def noFinal : Nat := 0xFF

/-- Record a fault in the Space's fault objects; a terminal one counts on Tocsin source 176 (R75). -/
def spaceFault (c : Chip) (sp cause dva node q seg : Nat) (terminal : Bool) : Chip :=
  let rec_ := pack [(cause, 1), (seg, 1), (0, 2), (if q = lapQ then 0 else globalQueue c q, 2), (node % 4096, 2), (dva % 2 ^ 56, 8), (now c, 8), (0, 8)]
  let c := modSpace c sp fun s => { s with lastFault := rec_, faultCount := min 0xFFFFFFFF (s.faultCount + 1) }
  if terminal then raiseEv c 176 sp 1 0 else c

/-! Pins and Pattern counts. -/

/-- Release one pin (R165). The older epoch's last pin starts its release with a drain mark (R168). -/
def releasePin (c : Chip) (p : Nat × Nat) : Chip :=
  let t := getTable c p.1
  if t.state != 2 then c
  else if p.2 = t.epoch then setTable c p.1 { t with pins0 := t.pins0 - 1 }
  else
    let c := setTable c p.1 { t with pins1 := t.pins1 - 1, older := if t.older = 1 && t.pins1 ≤ 1 then 2 else t.older }
    if t.older = 1 && t.pins1 ≤ 1 then drainMark c (tabSpace c p.1) (.table p.1) else c

/-- Pin the current epoch of a table that is SERVING (R165, R218). -/
def takePin (c : Chip) (t : Nat) : Chip × List (Nat × Nat) :=
  let x := getTable c t
  if t != 0 && x.state = 2 then (setTable c t { x with pins0 := (x.pins0 + 1) % 2 ^ 32 }, [(t, x.epoch)]) else (c, [])

/-- Granules of the store return; the Pattern holds no image (R215, R217). -/
def freePattern (c : Chip) (p : Nat) : Chip :=
  mirror (setPat c p Pattern.reset) .pattern p none

/-- One launch of a Pattern fewer; a RETIRING Pattern becomes FREE with its last launch (R217), on unit 1 in DOUBLET when
unit 0 says so (R287). -/
def patternLeave (c : Chip) (p : Nat) : Chip :=
  let x := getPat c p
  let c := setPat c p { x with running := x.running - 1 }
  if x.state = 4 && x.running ≤ 1 && !followsLead c then freePattern c p else c

/-- One launch of a Pattern more (R217). -/
def patternEnter (c : Chip) (p : Nat) : Chip := modPat c p fun x => { x with running := x.running + 1 }

/-! Ending a launch (R229). -/

/-- The launch of an owner. -/
def ownerLaunch (o : Owner) : Option (Nat × Nat) :=
  match o with
  | .node q e _ => some (q, e)
  | .save q e => some (q, e)
  | .restore q e => some (q, e)
  | _ => none

/-- Drop a launch's staged dispatch records. -/
def dropStaged (c : Chip) (ok : Staged2 → Bool) : Chip :=
  { c with pat := { c.pat with clusters := c.pat.clusters.map fun k => (k.1, { k.2 with staged := k.2.staged.filter fun r => !ok r }) } }

/-- An abort reaches a launch's Run nodes (R228): staged records go, running nodes receive ABORT. -/
def abortRuns (c : Chip) (q e : Nat) : Chip :=
  let c := dropStaged c fun r => r.q == q && r.e == e
  let lim := now c + obj c 0x44F0 6
  c.pat.clusters.foldl (fun c k =>
    k.2.cores.foldl (fun c r =>
      if r.2.q = q && r.2.e = e && !r.2.aborted then
        let c := modClu c k.1 fun x => { x with cores := tset x.cores r.1 { r.2 with aborted := true, abortAt := lim } }
        emit c (.abortRun k.1 r.1)
      else c) c) c

/-- The first terminal event of a launch sets its final status (R229): pins and Pattern counts are released, its nodes are aborted. -/
def setFinal (c : Chip) (q e status node : Nat) : Chip :=
  match getLaunch c q e with
  | none => c
  | some l =>
    if l.final != noFinal then c
    else
      let c := setLaunch c { l with final := status, endNode := node, endTick := now c, pins := [], switchAt := none }
      let c := l.pins.foldl releasePin c
      let c := l.nodes.foldl (fun c x => if kindMove x.2.kind then abortOwner c (.node q e x.1) else c) c
      let c := abortRuns (abortOwner (abortOwner c (.save q e)) (.restore q e)) q e
      if q = 0 then { c with pat := { c.pat with boot := none, bootArg := [], bootData := [] } }
      else if q = lapQ then c
      else
        let c := modSlot c l.slot fun s => { s with
          joins := s.joins.filter (· != (q, e)), victim := if s.victim = some (q, e) then none else s.victim }
        let c := if l.ctx = .none then c else patternLeave c l.pat
        let c := if l.ctx = .none || l.runPat = l.pat then c else patternLeave c l.runPat
        if status = 3 then stat c 0x7044 5 1 else c

/-- A terminal translation fault of a node (R73): recorded, and the launch ends with FAULT_UNRESOLVED. -/
def faultEnd (c : Chip) (q e n cause dva seg : Nat) : Chip :=
  match getLaunch c q e with
  | some l => setFinal (spaceFault c l.space cause dva n q seg true) q e 5 (n % 4096)
  | none => c

/-- Have all nodes of a launch stopped: no live set descriptor, no core running (R229)? -/
def stopped (c : Chip) (q e : Nat) : Bool :=
  c.xf.sds.all (fun x => ownerLaunch x.2.owner != some (q, e))
    && c.pat.clusters.all fun k => k.2.cores.all fun r => !(r.2.q == q && r.2.e == e)

/-- The blocks of a launch. -/
def blocksOf (l : Launch) : List Nat := ((l.scratch.map fun b => [b.1]).getD []) ++ ((l.save.map fun b => [b.1]).getD [])

/-- A launch that has ended and stopped gives its place and its blocks to the slot, where they take effect at the next boundary (R239,
R242). -/
def releaseEnded (c : Chip) : Chip :=
  c.pat.launches.foldl (fun c x =>
    let l := x.2
    if ofQueue l.q && l.final != noFinal && l.ctx != .ended && stopped c l.q l.e then
      let mine := ((getSlot c l.slot).places.filter fun p => p.2 == (l.q, l.e)).map (·.1)
      let c := setLaunch c { l with ctx := .ended, scratch := none, save := none }
      modSlot c l.slot fun s => { s with rel := s.rel ++ blocksOf l, relPlaces := s.relPlaces ++ mine }
    else c) c

/-! Nodes. -/

/-- A node at the start of its launch or of a loop iteration. -/
def nodeFresh (h b : Nat) : NodeRt :=
  { kind := hKind h, hdr := h, body := b, st := .waiting, cutting := false, srcDone := none, dstDone := none, srcEnd := 0, dstEnd := 0,
    sds := [], next := 0, done := [], waits := [], timeout := 0, out := false, paceOk := false, paceBase := 0, bindWait := false, t0 := 0, half := false,
    full := false, ports := 0, halfPorts := 0, covers := none, asked := false, restart := false, conv := ⟨[], 0, 0, 0, false, false, []⟩, value := 0, iter := 0, cluster := 0xFF, waitDva := 0, waitSeg := 0, redo := false }

/-- Number nodes from `base`. -/
def numberNodes (base : Nat) (ns : List (Nat × Nat)) : Tab NodeRt := ns.zipIdx.map fun x => (base + x.2, nodeFresh x.1.1 x.1.2)

/-- The edges of an image, their nodes numbered from `base`; the FROM of a PRIOR edge is a number of another launch. -/
def numberEdges (base : Nat) (es : List Nat) : List Edge :=
  es.map fun e => ⟨if edKind e = 5 then edFrom e else base + edFrom e, base + edTo e, edKind e, edCut e, edDist e, 0⟩

/-- Is a node resolved: completed or skipped? -/
def nodeEnded (x : NodeRt) : Bool := x.st == .complete || x.st == .skipped

/-- The base number of a node: 4,096 for the nodes of a light Pattern taken at a Checkpoint. -/
def nodeBase (n : Nat) : Nat := n / 4096 * 4096

/-- The body range of a Loop node of a launch. -/
def bodyRange (n : Nat) (x : NodeRt) : Nat × Nat := (nodeBase n + (loopRange x.body).1, nodeBase n + (loopRange x.body).2)

/-- The innermost Loop node whose body holds a node: the one with the highest number. -/
def innerLoop (l : Launch) (n : Nat) : Option (Nat × NodeRt) :=
  (l.nodes.filter fun x => x.2.kind == 6 && inRange n (bodyRange x.1 x.2)).getLast?

/-- May a node of a launch be judged now: it lies in no loop body, or its innermost loop is running? -/
def loopOpen (l : Launch) (n : Nat) : Bool :=
  match innerLoop l n with
  | none => true
  | some x => x.2.st == .running

/-- Resolve out-edges of a node: those of the named kinds take the result. -/
def resolveEdges (l : Launch) (n : Nat) (ks : List Nat) (r : Nat) : Launch :=
  { l with edges := l.edges.map fun e => if e.src = n && e.kind != 5 && ks.contains e.kind && e.res = 0 then { e with res := r } else e }

/-- Set the state of a node. -/
def setSt (l : Launch) (n : Nat) (s : NodeSt) : Launch := { l with nodes := tmod l.nodes n fun x => { x with st := s } }

/-- A Fence node stops waiting for a node that has completed, and notes the ports that it wrote (R212). -/
def fenceHeard (n ports : Nat) (x : NodeRt) : NodeRt :=
  match x.covers with
  | some ns => if ns.contains n then { x with covers := some (ns.filter (· != n)), ports := x.ports ||| ports } else x
  | none => x

/-- A node completes: its COMPLETE edges are satisfied; a SWITCH node marks a switch point; Fence nodes hear of it (R207, R212, R241). -/
def completeNode (c : Chip) (q e n : Nat) : Chip :=
  match (getLaunch c q e).bind fun l => (getNode l n).map fun x => (l, x) with
  | none => c
  | some (l, x) =>
    let l := resolveEdges (setSt l n .complete) n [0] 1
    let l := { l with nodes := l.nodes.map fun (y : Nat × NodeRt) => (y.1, fenceHeard n x.ports y.2) }
    let c := setLaunch c { l with switchAt := if hSwitch x.hdr then some n else l.switchAt }
    if q = lapQ then c else stat c 0x7040 3 1

/-- A node is skipped: its out-edges are skipped, what was cut or staged for it is discarded (R207, R223). -/
def skipNode (c : Chip) (q e n : Nat) : Chip :=
  match getLaunch c q e with
  | none => c
  | some l =>
    let l := resolveEdges (setSt l n .skipped) n [0, 1, 2, 3, 4] 2
    let c := abortOwner (setLaunch c l) (.node q e n)
    stat (dropStaged c fun r => r.q == q && r.e == e && r.n == n) 0x7040 4 1

/-- Skip the body of a loop (R210). -/
def skipRange (c : Chip) (q e : Nat) (r : Nat × Nat) : Chip :=
  match getLaunch c q e with
  | none => c
  | some l => (l.nodes.filter fun x => inRange x.1 r && !nodeEnded x.2).foldl (fun c x => skipNode c q e x.1) c

/-- A Loop node starts an iteration: every body node and every body edge starts afresh; that the nodes have ended once is kept for PRIOR edges,
and marks still to fire are those of an earlier iteration (R120, R151, R208, R210). -/
def startIteration (l : Launch) (n it : Nat) (r : Nat × Nat) : Launch :=
  { l with
    nodes := l.nodes.map fun x =>
      if x.1 = n then (x.1, { x.2 with st := .running, iter := it })
      else if inRange x.1 r then (x.1, nodeFresh x.2.hdr x.2.body) else x
    edges := l.edges.map fun e => if e.kind != 5 && inRange e.dst r then { e with res := 0 } else e
    past := l.past ++ (l.nodes.filter fun x => inRange x.1 r && !l.past.contains x.1).map (·.1)
    marks := l.marks.map fun m => if inRange m.n r then { m with old := true } else m }

/-! PRIOR edges (R208). -/

/-- Is a PRIOR edge of a launch satisfied now: its node has ended, in this iteration or an earlier one? -/
def priorMet (c : Chip) (l : Launch) (e : Edge) : Bool :=
  match getLaunch c l.q ((l.e + 2 ^ 32 - e.dist) % 2 ^ 32) with
  | none => true
  | some p =>
    p.final != noFinal || p.past.contains e.src ||
      (match getNode p e.src with
      | some x => nodeEnded x
      | none => false)

/-- Satisfy the PRIOR edges of node `n` that are met; answers whether one was. -/
def meetPriors (c : Chip) (l : Launch) (n : Nat) : Bool × Launch :=
  let met := fun (e : Edge) => e.kind == 5 && e.dst == n && e.res == 0 && priorMet c l e
  (l.edges.any met, { l with edges := l.edges.map fun e => if met e then { e with res := 1 } else e })

/-! The light variant (R213, R247, R248). -/

/-- PATTERN of an entry. -/
def enPattern (v : Nat) : Nat := bits v 64 10
/-- NO_LIGHT of an entry. -/
def enNoLight (v : Nat) : Bool := bit v 5
/-- DEADLINE of an entry. -/
def enDeadline (v : Nat) : Nat := bits v 384 64
/-- HANDLE_COUNT of an entry. -/
def enHandles (v : Nat) : Nat := bits v 80 9
/-- PATCH_BYTES of an entry. -/
def enPatch (v : Nat) : Nat := bits v 96 13

/-- Does an address lie in a segment of the Space that is not UNUSED (R220)? -/
def inSegment (c : Chip) (sp va : Nat) : Bool :=
  (getSpace c sp).segs.any fun s => s.2.kind != 0 && s.2.start ≤ va && va < s.2.start + s.2.len

/-- The light variant of a launch with its relocated nodes, when it meets the requirements of R213 that hold at admission, join and switch
alike. -/
def lightOf (c : Chip) (l : Launch) : Option (Nat × Bytes × List (Nat × Nat)) :=
  let img := (getPat c l.pat).image
  let p := imgLight img
  let x := getPat c p
  if imgIsLight img || p > 1023 || x.state != 2 then none
  else if imgPackage x.image != imgPackage img || imgMinHandles x.image > enHandles l.entry || imgPatchMin x.image > enPatch l.entry then none
  else
    let r := relocate x.image l.patch l.handles (inSegment c l.space)
    if r.1 = 0 then some (p, x.image, r.2) else none

/-- The light variant at a Checkpoint: its scratch fits the block held and LIGHT_ENTRY names a node outside every loop body (R213). -/
def lightAt (c : Chip) (l : Launch) (entry : Nat) : Option (Nat × Bytes × List (Nat × Nat)) :=
  match lightOf c l with
  | none => none
  | some r =>
    let room := (l.scratch.map (·.2)).getD 0
    if imgScratch r.2.1 ≤ room && entry < r.2.2.length && !(loopsOf r.2.2).any (fun x => inRange entry x.2) then some r else none

/-- Has the Deadline Monitor cause to switch at a Checkpoint (R248)? -/
def lateAt (c : Chip) (l : Launch) (b : Nat) : Bool :=
  let d := enDeadline l.entry
  d != 2 ^ 64 - 1 && 256 * (now c + obj c 0x4402 1) + fld b 0 8 * obj c 0x4402 5 > 256 * d && !enNoLight l.entry
    && !imgIsLight (getPat c l.pat).image && !l.light

/-- The light nodes that count as complete at a switch (R213): those below LIGHT_ENTRY, a Loop node together with its whole body. -/
def lightCounted (entry : Nat) (ns : List (Nat × Nat)) (n : Nat) : Bool :=
  n < entry || (loopsOf ns).any fun x => x.1 < entry && inRange n x.2

/-- Out-edges of the light nodes that count as complete at a switch (R213): satisfied, but an If node takes its THEN side. -/
def lightEdges (entry : Nat) (ns : List (Nat × Nat)) (es : List Edge) : List Edge :=
  es.map fun e =>
    if e.kind != 5 && lightCounted entry ns (e.src - 4096) then
      { e with res := if e.kind = 4 && hKind (ns.getD (e.src - 4096) (0, 0)).1 = 5 then 2 else 1 }
    else e

/-- Switch a launch to its light variant at a Checkpoint (R213): nodes never bound or dispatched are skipped without resolving their
edges, the light Pattern's nodes below LIGHT_ENTRY count as complete. A Pattern that names itself counts the launch once (R217). -/
def switchLight (c : Chip) (q e n : Nat) (entry : Nat) (v : Nat × Bytes × List (Nat × Nat)) : Chip :=
  match getLaunch c q e with
  | none => c
  | some l =>
    let drop := fun (x : Nat × NodeRt) => !nodeEnded x.2 && x.1 != n && !(x.2.st == .bound || x.2.next != 0 || (x.2.st == .running && x.2.kind == 1))
    let gone := (l.nodes.filter drop).map (·.1)
    let c := gone.foldl (fun c m => stat (abortOwner (setLaunch c (setSt ((getLaunch c q e).getD l) m .skipped)) (.node q e m)) 0x7040 4 1) c
    let c := dropStaged c fun r => r.q == q && r.e == e && gone.contains r.n
    let c := stat c 0x7044 4 1
    let c := if v.1 = l.pat then c else patternEnter c v.1
    modLaunch c q e fun l =>
      let new := (numberNodes 4096 v.2.2).map fun x => if lightCounted entry v.2.2 (x.1 - 4096) then (x.1, { x.2 with st := .complete }) else x
      { l with light := true, switched := true, runPat := v.1, nodes := l.nodes ++ new,
               edges := l.edges ++ lightEdges entry v.2.2 (numberEdges 4096 (imgEdgeList v.2.1)) }

/-! Control nodes (R209 to R213). -/

/-- Compare as CMP says: EQ, NE, LT, GE, unsigned (R205). -/
def cmpIs (m a b : Nat) : Bool := if m = 0 then a == b else if m = 1 then a != b else if m = 2 then a < b else b ≤ a

/-- The condition of an If node (R209). -/
def ifTrue (c : Chip) (l : Launch) (n b : Nat) : Bool :=
  let arg := getNode l (nodeBase n + fld b 2 2)
  let k := fld b 0 1
  if k = 1 then (arg.map fun x => !x.conv.trips.isEmpty).getD false
  else if k = 2 then cmpIs (fld b 1 1) ((arg.map fun x => x.value).getD 0) (fld b 8 8)
  else if k = 3 then cmpIs (fld b 1 1) (bfld l.patch (fld b 4 2) 8) (fld b 8 8)
  else if k = 4 then l.light
  else now c + fld b 8 8 ≥ enDeadline l.entry

/-- Is an If node's ARG_NODE skipped (R230)? -/
def argSkipped (l : Launch) (n b : Nat) : Bool :=
  (fld b 0 1 = 1 || fld b 0 1 = 2) && ((getNode l (nodeBase n + fld b 2 2)).map fun x => x.st == .skipped).getD false

/-- The move nodes of a launch that have issued a stroke and not yet completed (R212). -/
def fenceCovers (c : Chip) (l : Launch) : List Nat :=
  (l.nodes.filter fun x => kindMove x.2.kind && x.2.next != 0 && !(nodeEnded x.2 && strokesOf c (.node l.q l.e x.1) == 0)).map (·.1)

/-- What a node does when it becomes ready (R207, R209, R210, R212, R213). -/
def nodeReady (c : Chip) (l : Launch) (n : Nat) (x : NodeRt) : Chip :=
  if x.kind = 5 then
    if argSkipped l n x.body then skipNode c l.q l.e n
    else
      let t := ifTrue c l n x.body
      completeNode (setLaunch c (resolveEdges (resolveEdges l n [3] (if t then 1 else 2)) n [4] (if t then 2 else 1))) l.q l.e n
  else if x.kind = 6 then
    if loopCount l.patch x.body = 0 then completeNode (skipRange c l.q l.e (bodyRange n x)) l.q l.e n
    else setLaunch c (setSt l n .running)
  else if x.kind = 9 then
    match lightAt c l (fld x.body 8 2) with
    | some v => if lateAt c l x.body then switchLight (completeNode c l.q l.e n) l.q l.e n (fld x.body 8 2) v else completeNode c l.q l.e n
    | none => completeNode c l.q l.e n
  else if x.kind = 8 then
    setLaunch c { l with nodes := tmod l.nodes n fun y => { y with st := .ready, covers := some (fenceCovers c l) } }
  else setLaunch c (setSt l n .ready)

/-- The end of an iteration (R210): every body node has ended. -/
def loopStep (c : Chip) (l : Launch) (n : Nat) (x : NodeRt) : Option Chip :=
  let r := bodyRange n x
  if l.nodes.any fun y => inRange y.1 r && !nodeEnded y.2 then none
  else if x.iter + 1 < loopCount l.patch x.body then some (setLaunch c (startIteration l n (x.iter + 1) r))
  else some (completeNode c l.q l.e n)

/-- Judge a waiting node by its incoming edges (R207): none when nothing changes. -/
def judge (c : Chip) (l : Launch) (n : Nat) (x : NodeRt) : Option Chip :=
  let ins := l.edges.filter fun e => e.dst == n
  let sat := ins.any fun e => e.res == 1
  let skip := ins.any fun e => e.res == 2
  let open_ := ins.any fun e => e.res == 0
  let dead := if hJoin x.hdr then !open_ && skip && !sat else skip
  if dead then some (if x.kind = 6 then skipNode (skipRange c l.q l.e (bodyRange n x)) l.q l.e n else skipNode c l.q l.e n)
  else if open_ then none
  else some (nodeReady c l n x)

/-- Does the graph of a launch run: it has joined its slot (or is a Bootstrap command) and has no final status? -/
def runs (l : Launch) : Bool := l.final == noFinal && l.ctx != .joining && l.ctx != .ended

/-- One look at one node: none when nothing changes. -/
def visitNode (c : Chip) (q e n : Nat) : Option Chip :=
  match getLaunch c q e with
  | none => none
  | some l =>
    if !runs l then none
    else match getNode l n with
    | none => none
    | some x =>
      if x.st == .waiting && loopOpen l n then
        let m := meetPriors c l n
        match judge c m.2 n x with
        | some c' => some c'
        | none => if m.1 then some (setLaunch c m.2) else none
      else if x.st == .running && x.kind = 6 then loopStep c l n x
      else none

/-- A launch all of whose nodes have ended reaches DONE or DONE_LIGHT (R207); a DIGEST has its digest to write yet (R232). -/
def finishLaunch (c : Chip) (q e : Nat) : Option Chip :=
  match getLaunch c q e with
  | some l => if (q != 0 || (!l.nodes.isEmpty && c.pat.boot != some 6)) && runs l && l.nodes.all (fun x => nodeEnded x.2) then some (setFinal c q e (b2n l.light) 0xFFFF) else none
  | none => none

/-- One pass over every node of every launch: whether anything changed, and the result. -/
def graphPass (c : Chip) : Bool × Chip :=
  c.pat.launches.foldl (fun r x =>
    let keys := x.2.nodes.map (·.1)
    let r := keys.foldl (fun (r : Bool × Chip) n => match visitNode r.2 x.2.q x.2.e n with | some c' => (true, c') | none => r) r
    match finishLaunch r.2 x.2.q x.2.e with
    | some c' => (true, c')
    | none => r) (false, c)

/-- Passes until nothing changes. -/
def graphLoop : Nat → Chip → Chip
  | 0, c => c
  | f + 1, c => let r := graphPass c; if r.1 then graphLoop f r.2 else r.2

/-! Staging of Run nodes (R223, R224). -/

/-- The preload window of a launch: its lowest-numbered nodes that are not resolved (R223). -/
def window (c : Chip) (l : Launch) : List Nat :=
  ((l.nodes.filter fun x => !nodeEnded x.2).map (·.1)).take (obj c 0x44F0 5)

/-- The address word of a PROGRAM: a Fixed segment of class HBM or CLUSTER (R204, R225). -/
def progWord (c : Chip) (sp va : Nat) : Option Nat :=
  match (getSpace c sp).segs.find? fun s => s.2.kind == 1 && (s.2.cls == 1 || s.2.cls == 6) && s.2.start ≤ va && va < s.2.start + s.2.len with
  | some s =>
    let a := s.2.target + (va - s.2.start)
    let die := bits a 39 1
    let far := die != unitNo c
    if s.2.cls = 6 then some (a + 2 * 2 ^ 61)
    else if far && !bridgeUp c then none
    else some (a + (if far then 1 else 0) * 2 ^ 61)
  | none => none

/-- Clusters that exist in the mode (R204, R236). -/
def clusterCount (c : Chip) : Nat := if c.mode == .doublet then 16 else 8

/-- Is a cluster in service; those of the other unit are (R283). -/
def clusterUp (c : Chip) (k : Nat) : Bool := k < clusterCount c && (8 ≤ k || bit c.toc.clusters k)

/-- Records staged at a cluster. -/
def stagedAt (c : Chip) (k : Nat) : Nat := (getClu c k).staged.length

/-- The cluster that a Run node with CLUSTER = 0xFF is staged on: of the slot's mask and in service, the fewest staged records, ties by
rotation (R249). -/
def pickCluster (c : Chip) (mask : Nat) : Option Nat :=
  let ok := (upFrom 0 16).filter fun k => bit mask k && clusterUp c k
  match ok with
  | [] => none
  | k :: r =>
    let least := r.foldl (fun m j => min m (stagedAt c j)) (stagedAt c k)
    rotate (c.pat.stagePtr % 16) 16 fun j => ok.contains j && stagedAt c j == least

/-- Stage the dispatch record of a Run node at a cluster that has room (R224). -/
def stageAt (c : Chip) (q e n k : Nat) : Chip :=
  if stagedAt c k < 32 then
    let c := modClu c k fun x => { x with staged := x.staged ++ [⟨q, e, n, false, 0⟩] }
    let c := { c with pat := { c.pat with stagePtr := (k + 1) % 16 } }
    modNode c q e n fun x => { x with cluster := k }
  else c

/-- Stage one Run node of the window: its PROGRAM is translated, its cluster chosen. A CLUSTER outside the slot's mask is staged when the mask
names it (DEDUCED, log 122: R236 keeps a slot's Run nodes on the clusters of its mask). -/
def stageRun (c : Chip) (q e n : Nat) : Chip :=
  match (getLaunch c q e).bind fun l => (getNode l n).map fun x => (l, x) with
  | none => c
  | some (l, x) =>
    if !runs l || x.kind != 1 || x.cluster != 0xFF || !(x.st == .waiting || x.st == .ready) then c
    else
      let k := fld x.body 8 1
      if (progWord c l.space (fld x.body 0 8)).isNone then faultEnd c q e n 1 (fld x.body 0 8) 0xFF
      else if k = 0xFF then
        match pickCluster c (obj c (0x4440 + l.slot) 2) with
        | some j => stageAt c q e n j
        | none => setFinal c q e 6 (n % 4096)
      else if clusterUp c k then (if bit (obj c (0x4440 + l.slot) 2) k then stageAt c q e n k else c)
      else setFinal c q e 6 (n % 4096)

/-- May the Run nodes of a launch run on a cluster: the mask of its slot names it (R236)? -/
def maskHas (c : Chip) (q e k : Nat) : Bool := ((getLaunch c q e).map fun l => bit (obj c (0x4440 + l.slot) 2) k).getD false

/-- A record staged at a cluster that the mask of its slot no longer names is staged again elsewhere; a re-dispatch stays (R227, R236). -/
def unstageOut (c : Chip) : Chip :=
  c.pat.clusters.foldl (fun c k =>
    (k.2.staged.filter fun r => !r.re && !maskHas c r.q r.e k.1).foldl (fun c r =>
      modNode (modClu c k.1 fun y => { y with staged := y.staged.filter (· != r) }) r.q r.e r.n fun x => { x with cluster := 0xFF }) c) c

/-- Stage the Run nodes of every window. -/
def stageRuns (c : Chip) : Chip :=
  let c := unstageOut c
  c.pat.launches.foldl (fun c x => if ofQueue x.2.q && runs x.2 then (window c x.2).foldl (fun c n => stageRun c x.2.q x.2.e n) c else c) c

/-- The GFE's reaction to a change (R207, R223, R229): edges and control nodes, staged records, what ended launches give back. -/
def gfe (c : Chip) : Chip :=
  let c := stageRuns (graphLoop (2 ^ 64) c)
  releaseEnded (graphLoop (2 ^ 64) c)

end Sys2Proof.Machine
end

