-- ==== Sys2Proof/Machine/Channels.lean ====
section
/-! DEFINITION. Binding to channels (R106, R107, R129), and the set descriptors that the unit writes itself: promotions, write-backs, saves
and restores (R92, R101, R243). -/

namespace Sys2Proof.Machine

/-- Wider-side bytes of a set descriptor's strokes not yet issued. -/
def sdQueued (sd : SetDesc) : Nat :=
  min (wideBytes sd.body) (sd.hi * strokeUnit sd.body) - min (wideBytes sd.body) (sd.next * strokeUnit sd.body)

/-- Queued bytes of an owner. -/
def ownerQueued (c : Chip) (o : Owner) : Nat := c.xf.sds.foldl (fun n x => if x.2.owner == o then n + sdQueued x.2 else n) 0

/-- Queued bytes of a channel (R107). -/
def chanQueued (c : Chip) (ch : Nat) : Nat := (getChan c ch).bound.foldl (fun n o => n + ownerQueued c o) 0

/-- May a launch owner bind to a channel: a launch channel in service, not HALTED or FENCED, fewer than 8 nodes bound (R107)? -/
def canBind (c : Chip) (ch : Nat) : Bool :=
  isLaunchChan c ch && (getChan c ch).state != 4 && (getChan c ch).state != 5 && (getChan c ch).bound.length < 8

/-- Of the channels that pass a test, the one with the fewest queued bytes, ties by rotation (R107). -/
def bestChan (c : Chip) (ok : Nat → Bool) : Option Nat :=
  match (upFrom 0 64).filter ok with
  | [] => none
  | k :: r =>
    let least := r.foldl (fun m j => min m (chanQueued c j)) (chanQueued c k)
    rotate c.xf.bindPtr 64 fun j => ok j && chanQueued c j == least

/-- Has an owner strokes that have not issued, cut or not? -/
def ownerLeft (c : Chip) (o : Owner) : Bool :=
  match o with
  | .node q e n => ((getLaunch c q e).bind fun l => (getNode l n).map fun x => decide (x.next < strokeCount x.body)).getD false
  | _ => sdLeft c o

/-- The set descriptor that a channel issues from next: the first of the earliest bound owner with strokes left; none while that owner is
being translated. -/
def nextIssue (c : Chip) (ch : Nat) : Option SetDesc :=
  match (getChan c ch).bound.find? fun o => ownerLeft c o with
  | none => none
  | some o => (sdsOf c o).findSome? fun i => (getSd c i).bind fun sd => if sd.next < sd.hi then some sd else none

/-- The tick from which stroke `k` of a PERIOD node may issue (R118). -/
def periodTick (c : Chip) (sd : SetDesc) : Nat :=
  match sd.owner with
  | .node q e n =>
    let t0 := ((getLaunch c q e).bind fun l => (getNode l n).map fun x => x.t0).getD 0
    if dPace sd.body = 2 && t0 != 0 then t0 - 1 + sd.next * dPaceTick sd.body else 0
  | _ => 0

/-- ACTIVE and WAITING of a channel with something bound (R129): WAITING while the next stroke is that of a PERIOD node and not due. -/
def settleChan (c : Chip) (ch : Nat) : Chip :=
  modChan c ch fun x =>
    if (x.state = 1 || x.state = 2) && !x.bound.isEmpty then
      { x with state := if ((nextIssue c ch).map fun sd => decide (now c < periodTick c sd)).getD false then 2 else 1 }
    else x

/-- Bind an owner to a channel (R129). -/
def bindTo (c : Chip) (o : Owner) (ch : Nat) : Chip :=
  let c := modChan c ch fun x => { x with bound := x.bound ++ [o], state := if x.state = 0 then 1 else x.state }
  settleChan { c with xf := { c.xf with bindPtr := (ch + 1) % 64 } } ch

/-- Is an owner bound to a channel? -/
def isBound (c : Chip) (o : Owner) : Bool := c.xf.chans.any fun x => x.2.bound.contains o

/-- May an owner other than a launch bind to a channel (R106, R107, R394)? A scrub takes any channel in service. -/
def partChan (c : Chip) (o : Owner) (ch : Nat) : Bool :=
  let room := ch < 64 && chanInService c ch && (getChan c ch).state != 4 && (getChan c ch).state != 5 && (getChan c ch).bound.length < 8
  match o with
  | .promote _ _ _ | .writeBack _ _ _ => room && bit (obj c 0x3500 0x10) ch
  | .lap _ => room && bit (obj c 0x3800 0x01) ch
  | .scrub _ => room
  | .node q _ _ => if q = lapQ then room && bit (obj c 0x3800 0x01) ch else canBind c ch
  | _ => canBind c ch

/-- Do the owner's strokes belong to the Geode, to Lapidary or to the scrub, which find their channels themselves? -/
def isPartOwner (o : Owner) : Bool :=
  match o with | .promote _ _ _ | .writeBack _ _ _ | .lap _ | .scrub _ => true | _ => false

/-- Bind an owner to the channel that the binder chooses, when one is eligible. -/
def bindBest (c : Chip) (o : Owner) : Chip :=
  match bestChan c (partChan c o) with
  | some ch => bindTo c o ch
  | none => c

/-- The unit's own moves that no channel could take, or that lost theirs, find one (R107, R128). -/
def bindParts (c : Chip) : Chip :=
  c.xf.sds.foldl (fun c x => if isPartOwner x.2.owner && x.2.next < x.2.hi && !isBound c x.2.owner then bindBest c x.2.owner else c) c

/-- Entries that cover `n` bytes at consecutive addresses of one route, from stream byte `lg`: runs of at most 2^24 bytes (R69). -/
def runEntries (route addr lg : Nat) (sealed ns : Bool) (n : Nat) : List Entry :=
  (upFrom 0 ((n + 2 ^ 24 - 1) / 2 ^ 24)).map fun k =>
    ⟨route, sealed, addr + k * 2 ^ 24, min (2 ^ 24) (n - k * 2 ^ 24), lg + k * 2 ^ 24, nsFrom ns (lg + k * 2 ^ 24)⟩

/-- A set descriptor that the unit writes itself, translation complete. -/
def ownSd (c : Chip) (o : Owner) (sp body : Nat) (src dst : List Entry) : Chip :=
  let r := newSd c o sp (getSpace c sp).gen body 0
  modSd r.2 r.1 fun sd => { sd with hi := strokeCount body, src := ⟨2, 0, src, none⟩, dst := ⟨2, 0, dst, none⟩ }

/-- The far home of a grain as entries. -/
def farEntries (s : Seg) (g : Nat) (sealed : Bool) : List Entry :=
  runEntries (farRoute s) (s.target + g * grainBytes s) 0 sealed s.ns (grainBytes s)

/-- The frame of a grain as entries. -/
def frameEntries (c : Chip) (s : Seg) (k : Nat) : List Entry :=
  runEntries (hbmRoute c (frameAddr c k)) (frameAddr c k) 0 false false (grainBytes s)

/-- The route code that stands for the GFE's own context record, which no request reads or writes (R243). -/
def routeGfe : Nat := 8

/-! The scrub's zero strokes (R394). -/

/-- A channel without a set descriptor of the scrub takes the next one: a run of at most 2^24 bytes of what is left to fill. -/
def scrubFeed (c : Chip) (ch : Nat) : Chip :=
  let o := Owner.scrub c.xf.nextSd
  let busy := (getChan c ch).bound.any fun b => match b with | .scrub _ => true | _ => false
  match c.sec.ten.scrubLeft with
  | (rt, a, n) :: r =>
    if busy || !sdRoom c || !partChan c o ch then c
    else
      let k := min n (2 ^ 24)
      let c := modTen c fun t => { t with scrubLeft := if n = k then r else (rt, a + k, n - k) :: r }
      bindTo (ownSd c o 0 (contigBody 1 0 0 k) [] (runEntries rt a 0 false false k)) o ch
  | [] => c

/-- While the scrub runs, every channel in service has zero strokes to issue. -/
def scrubGo (c : Chip) : Chip := if c.sec.ten.state = 4 then (upFrom 0 64).foldl scrubFeed c else c

end Sys2Proof.Machine
end

