-- ==== Sys2Proof/Machine/Lines.lean ====
section
/-! DEFINITION. The Coherent Line Cache (R186, R268 to R272) and Belfry's own host reads and writes (R188, R189, R269). -/

namespace Sys2Proof.Machine

/-! Coherent windows (R268, R274). -/

/-- BASE of coherent window `w`. -/
def cohBase (c : Chip) (w : Nat) : Nat := fld (obj c (0x4840 + w) 1) 0 8
/-- LENGTH of coherent window `w`; a field of 0 stands for 2^32. -/
def cohLen (c : Chip) (w : Nat) : Nat := let n := fld (obj c (0x4840 + w) 1) 8 4; if n = 0 then 2 ^ 32 else n
/-- PORT of coherent window `w`. -/
def cohPort (c : Chip) (w : Nat) : HPort := portOf (fld (obj c (0x4840 + w) 1) 12 1 == 1)

/-- The window of a state on a port that holds an extent. -/
def cohFind (c : Chip) (p : HPort) (a n : Nat) (ok : Nat → Bool) : Option Nat :=
  (c.coh.wins.find? fun x => ok x.2 && cohPort c x.1 == p && cohBase c x.1 ≤ a && a + n ≤ cohBase c x.1 + cohLen c x.1).map (·.1)

/-- Does an extent lie in an ACTIVE window of the port (R269)? In ROUGH the windows stop and keep their state (R272). -/
def cohActive (c : Chip) (p : HPort) (a n : Nat) : Bool := c.mode != .rough && (cohFind c p a n (· == 1)).isSome

/-! Lines. -/

/-- The key of the line that holds an address. -/
def lineKey (p : HPort) (a : Nat) : Nat := portNo p * 2 ^ 64 + a / 64 * 64 % 2 ^ 64

/-- The port of a line. -/
def linePort (k : Nat) : HPort := portOf (k / 2 ^ 64 == 1)

/-- The address of a line. -/
def lineAddr (k : Nat) : Nat := k % 2 ^ 64

/-- A line that is held by nothing yet. -/
def Line.reset : Line := ⟨false, false, false, false, false, false, 0⟩

/-- Change a line; a line that nothing holds leaves the cache. -/
def modLine (c : Chip) (k : Nat) (f : Line → Line) : Chip :=
  let l := f (tgetD c.coh.lines k Line.reset)
  { c with coh := { c.coh with
      lines := if l.shared || l.reading || l.watched || l.pinned then tset c.coh.lines k l else tdel c.coh.lines k } }

/-- Make room for one more line (R268): with 65,536 lines one that is neither pinned nor being read leaves, the choice is free (the
pseudo-LRU order is not given). -/
def lineRoom (c : Chip) : Chip :=
  let ks := (c.coh.lines.filter fun x => !x.2.pinned && !x.2.reading).map (·.1)
  if c.coh.lines.length < 65536 || ks.isEmpty then c
  else
    let r := takeFree c 64
    { r.2 with coh := { r.2.coh with lines := tdel r.2.coh.lines (ks.getD (r.1 % ks.length) 0) } }

/-- Start the read of a line unless it runs. -/
def readLine (c : Chip) (k : Nat) : Chip :=
  if (tgetD c.coh.lines k Line.reset).reading then c
  else
    let c := if (tget c.coh.lines k).isSome then c else lineRoom c
    emit (modLine c k fun l => { l with reading := true, again := false }) (.cacheRead (linePort k) (lineAddr k))

/-- Watch a line: it is read unless it is Shared (R269). -/
def watchLine (c : Chip) (k : Nat) : Chip :=
  let c := if (tgetD c.coh.lines k Line.reset).shared then c else readLine c k
  modLine c k fun l => { l with watched := true }

/-! Belfry's host accesses. -/

/-- A read of Belfry's or the GFE's meets a line of an ACTIVE window (R269, R275): a hit when it is Shared; otherwise a miss, and the line is read and
held. -/
def demandLine (c : Chip) (k : Nat) : Chip :=
  if (tgetD c.coh.lines k Line.reset).shared then stat c 0x7049 1 1
  else modLine (readLine (stat c 0x7049 2 1) k) k fun l => { l with wanted := true }

/-- A read of a ring, a patch block or a handle table over a port: line by line through the cache where it lies in an ACTIVE window, and
otherwise over CXL.io (R177, R269). -/
def unitRead (c : Chip) (p : HPort) (a n : Nat) : Chip :=
  if n = 0 then c
  else if (pieces 64 a n).any fun x => cohActive c p x.1 x.2 then
    (pieces 64 a n).foldl (fun c x => if cohActive c p x.1 x.2 then demandLine c (lineKey p x.1) else emit c (.hostRead p x.1 x.2)) c
  else emit c (.hostRead p a n)

/-- Does read data agree with the cache (R269): every line of it in an ACTIVE window has come, and those that are Shared hold it? -/
def linesAgree (c : Chip) (p : HPort) (a : Nat) (bs : Bytes) : Bool :=
  (pieces 64 a bs.length).all fun x =>
    let l := tgetD c.coh.lines (lineKey p x.1) Line.reset
    !cohActive c p x.1 x.2 || (!l.wanted && (!l.shared || ((leBytes 64 l.data).drop (x.1 % 64)).take x.2 == (bs.drop (x.1 - a)).take x.2))

/-- A posted write of the unit's own over CXL.io, without RO; a port that cannot issue loses it. Its payload is counted (R325). -/
def plainWrite (c : Chip) (p : HPort) (a : Nat) (bs : Bytes) : Chip :=
  if canIssue c p then emit (stat c (0x7012 + portNo p) 1 bs.length) (.hostWrite p a bs false (obj c (0x1210 + portNo p) 7 != 1 && (getPort c p).cfg.idoEn) false) else c

/-- A record, a mirror or a token goes to host memory without RO (R188, R192, R269): in an ACTIVE window by a CXL.cache write, which leaves no copy of
the line. -/
def unitWrite (c : Chip) (p : HPort) (a : Nat) (bs : Bytes) : Chip :=
  if canIssue c p && cohActive c p a bs.length then
    modLine (emit (stat c 0x7049 5 1) (.cacheWrite p a bs)) (lineKey p a) fun l => { l with shared := false }
  else plainWrite c p a bs

/-! Queue configuration (R199) and silent doorbells (R186). -/

/-- RING_BASE. -/
def qRing (c : Chip) (q : Nat) : Nat := fld (qConf c q) 0 8
/-- RECORD_BASE. -/
def qRecord (c : Chip) (q : Nat) : Nat := fld (qConf c q) 8 8
/-- MIRROR_ADDR. -/
def qMirror (c : Chip) (q : Nat) : Nat := fld (qConf c q) 16 8
/-- SILENT_ADDR. -/
def qSilent (c : Chip) (q : Nat) : Nat := fld (qConf c q) 24 8
/-- TOKEN_ADDR. -/
def qToken (c : Chip) (q : Nat) : Nat := fld (qConf c q) 32 8
/-- SPACE. -/
def qSpace (c : Chip) (q : Nat) : Nat := fld (qConf c q) 40 2
/-- RING_LOG2. -/
def qLog (c : Chip) (q : Nat) : Nat := fld (qConf c q) 42 1
/-- RING_SIZE (R177). -/
def qSize (c : Chip) (q : Nat) : Nat := 2 ^ qLog c q
/-- IN_FLIGHT_LIMIT. -/
def qLimit (c : Chip) (q : Nat) : Nat := fld (qConf c q) 45 1

/-- The line of a queue's silent doorbell. -/
def silentKey (c : Chip) (q : Nat) : Nat := lineKey (homePort c q) (qSilent c q)

/-- The queues whose silent doorbell lies in a line. -/
def silentQueues (c : Chip) (k : Nat) : List Nat :=
  (c.bel.queues.filter fun x => x.2.silent && silentKey c x.1 == k).map (·.1)

/-- Pin the line of a queue's silent doorbell and read it (R186, R271). -/
def pinSilent (c : Chip) (q : Nat) : Chip :=
  let c := modQueue c q fun x => { x with silent := true }
  let c := if (tgetD c.coh.lines (silentKey c q) Line.reset).shared then c else readLine c (silentKey c q)
  modLine c (silentKey c q) fun l => { l with pinned := true, watched := true }

/-- A queue's silent doorbell ceases: its line is unpinned when no other queue uses it (R187, R192). -/
def unpinSilent (c : Chip) (q : Nat) : Chip :=
  if (getQueue c q).silent then
    let k := silentKey c q
    let c := modQueue c q fun x => { x with silent := false }
    if (silentQueues c k).isEmpty then modLine c k fun l => { l with pinned := false, watched := false } else c
  else c

/-- The lines of entries P to P + 15 of a queue's ring (R269). -/
def ringKeys (c : Chip) (q : Nat) : List Nat :=
  (upFrom (getQueue c q).p 16).map fun i => lineKey (homePort c q) (qRing c q + i % qSize c q * 64)

/-- Lines of a queue's ring outside a list are watched no more; pinned lines stay (R269). -/
def unwatchRing (c : Chip) (q : Nat) (keep : List Nat) : Chip :=
  let mine := fun (k : Nat) => linePort k == homePort c q && qRing c q ≤ lineAddr k && lineAddr k < qRing c q + 64 * qSize c q
  ((c.coh.lines.filter fun x => x.2.watched && !x.2.pinned && mine x.1 && !keep.contains x.1).map (·.1)).foldl
    (fun c k => modLine c k fun l => { l with watched := false }) c

/-- Of a queue's ring, the lines of entries P to P + 15 that lie in an ACTIVE window are watched, and no others (R269). -/
def watchRing (c : Chip) (q : Nat) : Chip :=
  (ringKeys c q).foldl (fun c k => if cohActive c (homePort c q) (lineAddr k) 64 then watchLine c k else c) (unwatchRing c q (ringKeys c q))

end Sys2Proof.Machine
end

