-- ==== Sys2Proof/Machine/Destroy.lean ====
section
/-! DEFINITION. How an entry completes (R188, R191), the destroy of a queue (R192 to R195) and the loss of its host (R196). -/

namespace Sys2Proof.Machine

/-! Completed entries. -/

/-- The 32 bytes of a completion record (R191). -/
def recordBytes (r : Record) (held : Bool) : Bytes :=
  leBytes 32 (packBits [(r.status, 8), (0, 8), (b2n r.light, 1), (b2n r.trip, 1), (b2n held, 1), (0, 45), (r.node, 16), (0, 16), (r.entry, 32),
    (r.tick, 64), (r.userTag, 64)])

/-- Write a completion record, when its entry asked for one (R188 step 2). -/
def writeRecord (c : Chip) (q : Nat) (r : Record) (held : Bool) : Chip :=
  if r.wanted then unitWrite c (homePort c q) (qRecord c q + r.entry % qSize c q * 32) (recordBytes r held) else c

/-- The longest prefix of completed entries (R188 step 3): at most `f` entries more. -/
def prefixDone : Nat → Nat → List Nat → Nat × List Nat
  | 0, n, ds => (n, ds)
  | f + 1, n, ds => if ds.contains (n % 2 ^ 32) then prefixDone f (n + 1) (ds.filter (· != n % 2 ^ 32)) else (n, ds)

/-- One more entry of a queue is complete. -/
def markDone (x : Queue) (e : Nat) : Queue :=
  let r := prefixDone (x.doneSet.length + 1) x.completed (x.doneSet ++ [e])
  { x with completed := r.1, doneSet := r.2 }

/-- COMPLETED is written to MIRROR_ADDR (R188 step 4). A mirror write is posted and has left with the command, so none is ever in flight when
the next one comes (DEDUCED, log 120). -/
def showMirror (c : Chip) (q : Nat) : Chip :=
  if qMirror c q = 0 then c else unitWrite c (homePort c q) (qMirror c q) (leBytes 8 (getQueue c q).shown)

/-- COMPLETED takes the internal count, and the mirror follows when it changed (R188 steps 3 and 4). -/
def showCompleted (c : Chip) (q : Nat) : Chip :=
  let x := getQueue c q
  if x.shown = x.completed then c else showMirror (setQueue c q { x with shown := x.completed }) q

/-- An entry completes: its record is written and COMPLETED advances, or both are held while the host is lost or a destroy runs (R188, R192,
R196). -/
def completeEntry (c : Chip) (q : Nat) (r : Record) : Chip :=
  let c := modQueue (stat c 0x7020 6 1) q fun x => markDone x r.entry
  let st := (getQueue c q).state
  if st = 4 || st = 5 then modQueue c q fun x => { x with held := x.held ++ [r] }
  else showCompleted (writeRecord c q r false) q

/-- USER_TAG of an entry. -/
def enUserTag (v : Nat) : Nat := bits v 448 64
/-- RECORD of an entry. -/
def enRecord (v : Nat) : Bool := bit v 4

/-- The record of an entry that ends without a launch. -/
def entryRecord (c : Chip) (e v status : Nat) : Record := ⟨e, now c, 0xFFFF, enUserTag v, status, false, false, enRecord v⟩

/-- The record of a launch that has ended (R191). -/
def launchRecord (l : Launch) : Record :=
  let named := l.final == 5 || l.final == 6 || l.final == 7 || l.final == 9
  ⟨l.e, l.endTick, if named then l.endNode else 0xFFFF, enUserTag l.entry, l.final, l.light, l.nodes.any (fun x => !x.2.conv.trips.isEmpty),
    enRecord l.entry⟩

/-- A launch leaves the unit with its completion. -/
def dropLaunch (c : Chip) (q e : Nat) : Chip :=
  { c with pat := { c.pat with launches := tdel c.pat.launches (lkey q e), reads := c.pat.reads.filter (· != (q, e)) } }

/-- ESTIMATE_UPDATE (R246): a launch that ran one Pattern from node 0 and ended with DONE or DONE_LIGHT. -/
def estimateUpdate (c : Chip) (l : Launch) : Chip :=
  if l.q = 0 || l.switched || l.final > 1 || (getPat c l.runPat).state != 2 then c
  else
    let q := obj c 0x4402 2
    let d := obj c 0x4402 3
    modPat c l.runPat fun x => { x with
      est := if l.endTick - l.admitted > x.est / 1000 then min (2 ^ 48 * 1000) (x.est + d * q) else x.est - d * (1000 - q) }

/-- The launches of a queue. -/
def queueLaunches (c : Chip) (q : Nat) : List Launch := (c.pat.launches.filter fun x => x.2.q == q).map (·.2)

/-! Destroys (R192, R193). -/

/-- The status that a destroy's cause gives the launches it ends (R193). -/
def causeStatus (cause : Nat) : Nat := if cause = 10 then 8 else 4

/-- Does a launch wait for its admission reads? -/
def isReading (c : Chip) (l : Launch) : Bool := c.pat.reads.contains (l.q, l.e)

/-- Steps 1 to 3 of R192: intake stops, F_end is the first entry not yet fetched, unadmitted entries and launches end. -/
def startDestroy (c : Chip) (q cause : Nat) (flr : Bool) : Chip :=
  let c := unwatchRing (unpinSilent c q) q []
  let x := getQueue c q
  let f := (x.f + 2 ^ 32 - x.reading) % 2 ^ 32
  let c := setQueue c q { x with
    state := 5, f := f, cause := cause, await := [], overrun := false, destroy := some ⟨cause, f, 1, flr⟩ }
  let c := x.await.foldl (fun c w => completeEntry c q (entryRecord c w.1 w.2 4)) c
  (queueLaunches c q).foldl (fun c l =>
    setFinal c l.q l.e (if isReading c l then 4 else causeStatus cause) 0xFFFF) c

/-- Start a destroy unless one runs; the running one keeps its first cause (R198). -/
def destroyQueue (c : Chip) (q cause : Nat) : Chip :=
  let st := (getQueue c q).state
  if 1 ≤ st && st ≤ 4 then startDestroy c q cause false else c

/-- An FLR, or BME cleared, on the home port (R195, R198). -/
def flrQueue (c : Chip) (q : Nat) : Chip :=
  let x := getQueue c q
  match x.destroy with
  | some d => if x.state = 5 then setQueue c q { x with destroy := some { d with flr := true } } else startDestroy c q 9 true
  | none => if x.state = 0 then c else startDestroy c q 9 true

/-- Advance a destroy: step 3 ends when every launch of the queue has stopped, and step 4 is a drain mark on the queue's Space (R192). -/
def destroyGo (c : Chip) (q : Nat) : Chip :=
  let x := getQueue c q
  match x.destroy with
  | some d =>
    if x.state = 5 && d.step < 4 && x.reading = 0 && (queueLaunches c q).all fun l => stopped c l.q l.e then
      drainMark (setQueue c q { x with destroy := some { d with step := 4 } }) x.space (.queue q)
    else c
  | none => c

/-- Advance every destroy. -/
def destroysGo (c : Chip) : Chip := (c.bel.queues.map (·.1)).foldl destroyGo c

/-- The 16-byte destroy token (R192 step 6). -/
def tokenBytes (c : Chip) (q fEnd cause : Nat) : Bytes := leBytes 16 (pack [(fEnd, 8), (obj c (0x2000 + q) 5, 4), (cause, 1)])

/-- Return a queue and its configuration to their defaults (R195). -/
def freeQueue (c : Chip) (q : Nat) : Chip :=
  [3, 4, 5].foldl (fun c s => clearObj c (0x2000 + q) s) (setQueue c q Queue.reset)

/-- Entries from the completed prefix to F_end. -/
def leftToEnd (x : Queue) (fEnd : Nat) : Nat := (fEnd + 2 ^ 32 - x.completed % 2 ^ 32) % 2 ^ 32

/-- Steps 5 and 6 of R192: records, COMPLETED, the mirror and the token; nothing to the host after an FLR or a tenant end's drain limit
(R195, R393). -/
def destroyFinish (c : Chip) (q : Nat) : Chip :=
  match (getQueue c q).destroy with
  | none => c
  | some d =>
    let ls := queueLaunches c q
    let c := ls.foldl (fun c l => dropLaunch (completeEntry (estimateUpdate c l) q (launchRecord l)) l.q l.e) c
    let x := getQueue c q
    if d.flr then freeQueue c q
    else
      let mute := d.cause == 10 && c.sec.ten.limitHit
      let c := if mute then c else x.held.foldl (fun c r => writeRecord c q r false) c
      let n := x.completed + leftToEnd x d.fEnd
      let c := setQueue c q { x with completed := n, shown := n, doneSet := [], held := [], state := 6, space := 0, destroy := none }
      if mute then c else unitWrite (showMirror c q) (homePort c q) (qToken c q) (tokenBytes c q d.fEnd d.cause)

/-! HOST_LOST (R196). -/

/-- A queue enters HOST_LOST: the read in flight is lost, P and F wait for the re-attach. -/
def loseHost (c : Chip) (q : Nat) : Chip :=
  let c := unwatchRing (unpinSilent c q) q []
  modQueue c q fun x => { x with
    state := 4, f := (x.f + 2 ^ 32 - x.reading) % 2 ^ 32, reading := 0, overrun := false, heldEpoch := (getPort c (homePort c q)).epoch }

/-- QUEUE_HOST_LOST: every queue homed on the port that is IDLE, ACTIVE or in ERROR (R182, R196). In a destroy the read in flight is lost. -/
def hostLost (c : Chip) (p : HPort) : Chip :=
  c.bel.queues.foldl (fun c x =>
    if homePort c x.1 != p then c
    else if 1 ≤ x.2.state && x.2.state ≤ 3 then loseHost c x.1
    else if x.2.state = 5 then modQueue c x.1 fun y => { y with reading := 0 }
    else c) c

/-! The end of an FLR or a shutdown (R320, R321). -/

/-- Reads of strokes outstanding on a port. -/
def readsOn (c : Chip) (p : HPort) : Nat := (c.xf.reqs.filter fun r => !r.2.write && routePort r.2.route == some p).length

/-- Queues homed on a port that are still destroying. -/
def destroying (c : Chip) (p : HPort) : Nat := (c.bel.queues.filter fun x => x.2.state == 5 && homePort c x.1 == p).length

/-- Configuration space after an FLR: defaults but for sticky bits and link registers (R318). -/
def flrConfig (s : CfgSpace) : CfgSpace := { CfgSpace.reset with aerUnc := s.aerUnc, aerCor := s.aerCor, aspm := s.aspm }

/-- FLR_COMPLETE and the end of a shutdown: every read has settled and every destroyed queue has finished (R320, R321). -/
def shutEnd (c : Chip) (p : HPort) : Chip :=
  let s := getPort c p
  if s.shut = 0 || readsOn c p != 0 || destroying c p != 0 then c
  else modPort c p fun x => { x with shut := 0, cfg := if x.shut = 1 then flrConfig x.cfg else x.cfg }

/-- The shutdowns of both ports. -/
def shutGo (c : Chip) : Chip := shutEnd (shutEnd c .a) .b

end Sys2Proof.Machine
end

