-- ==== Sys2Proof/Machine/Pulls.lean ====
section
/-! DEFINITION. Lapidary at work on a manifest (R161 to R164, R172): the scan of its extents, its memory, the pulls of source values, and what
the end of a Lapidary stroke does. -/

namespace Sys2Proof.Machine

/-- Change the running manifest. -/
def modJob (c : Chip) (f : LapJob → LapJob) : Chip := { c with lap := { c.lap with job := c.lap.job.map f } }

/-! The pull cap (R172): a bucket of 64 KiB, kept in 1,000ths of a byte. -/

/-- The bucket at this tick: object 0x3800.06 in MB/s is as many 1,000ths of a byte per tick. -/
def pullTokens (c : Chip) : Int := min 65536000 (c.lap.tokens + ((obj c 0x3800 6 * (now c - c.lap.tokenAt) : Nat) : Int))

/-- Take `n` bytes out of the bucket. A manifest's own read takes its whole length at once and the bucket may owe it (DESIGN CHOICE, log 117). -/
def payPull (c : Chip) (n : Nat) : Chip :=
  { c with lap := { c.lap with tokens := pullTokens c - ((1000 * n : Nat) : Int), tokenAt := now c } }

/-- Does a route lead to a host port or a peer: do Lapidary's reads on it count under the cap (R172, R175)? -/
def offDie (route : Nat) : Bool := 3 ≤ route && route ≤ 7

/-- Does an owner's set descriptor carry Lapidary's strokes? -/
def isLapOwner (o : Owner) : Bool := match o with | .lap _ => true | .node q _ _ => q == lapQ | _ => false

/-- Host and peer bytes that stroke `k` of a set descriptor of Lapidary reads. -/
def pullCost (sd : SetDesc) (k : Nat) : Nat :=
  if !isLapOwner sd.owner || dSrcKind sd.body != 0 then 0
  else
    let s := strokeSpan sd.body .src k
    sd.src.entries.foldl (fun n e => if offDie e.route then n + (min (s.1 + s.2) (e.logical + e.len) - max s.1 e.logical) else n) 0

/-! Extents and grains (R161, R162). -/

/-- Bytes of a row's source values. -/
def pullBytes (c : Chip) (j : LapJob) : Nat := tabValues c j.post.table * (fmtBits j.srcFmt / 8)

/-- Rows of the row segment. -/
def tableRows (c : Chip) (t : Nat) : Nat := (getSeg (getSpace c (tabSpace c t)) (tabRowSeg c t)).len / max 1 (tabRowBytes c t)

/-- Does extent `k` fail R161? -/
def extentBad (c : Chip) (j : LapJob) (k : Nat) (x : Extent) : Bool :=
  let prev := if k = 0 then none else j.extents[k - 1]?
  x.first ≥ 2 ^ 40 || x.count < 1 || x.count > 16777215 || x.source ≥ 2 ^ 56 || x.pitch < pullBytes c j
    || x.first + x.count > tableRows c j.post.table || ((prev.map fun p => decide (x.first < p.first + p.count)).getD false)

/-- Rows of a row grain. -/
def rowsPerGrain (c : Chip) (t : Nat) : Nat :=
  max 1 (grainBytes (getSeg (getSpace c (tabSpace c t)) (tabRowSeg c t)) / max 1 (tabRowBytes c t))

/-- Rows of the extents in rows `[lo, lo + n)`. -/
def manifestRows (es : List Extent) (lo n : Nat) : Nat :=
  es.foldl (fun m x => m + (min (lo + n) (x.first + x.count) - max lo x.first)) 0

/-- The part of the extents that the scan has reached, and so checked (R162). -/
def reached (j : LapJob) : List Extent :=
  j.extents.take j.ext ++ ((j.extents[j.ext]?).map fun x => { x with count := min x.count j.row }).toList

/-- Has the scan moved past row `r`: will no row before it be reached any more? -/
def scanPast (j : LapJob) (r : Nat) : Bool := ((j.extents[j.ext]?).map fun x => decide (r ≤ x.first + j.row)).getD true

/-- Rows quantised in rows `[lo, lo + n)`. -/
def pulledRows (j : LapJob) (lo n : Nat) : Nat := (j.pulled.filter fun p => lo ≤ p.1 && p.1 < lo + n).length

/-- The strokes of the manifest that still write a frame. -/
def frameItems (c : Chip) (frame : Nat) : List Nat := (c.lap.items.filter fun x => x.2.frame == frame).map (·.1)

/-- Is an open grain complete: filled, the scan past its last row, every row of it written (R162 step 8)? Of an escape grain: every slot
written. -/
def grainDone (c : Chip) (j : LapJob) (g : OpenGrain) : Bool :=
  let n := rowsPerGrain c j.post.table
  g.filled && (frameItems c g.frame).isEmpty
    && (g.seg != tabRowSeg c j.post.table
      || (scanPast j ((g.grain + 1) * n) && pulledRows j (g.grain * n) n == manifestRows (reached j) (g.grain * n) n))

/-- Grains open and in progress: opens issued, and open grains that are not complete. -/
def inProgress (c : Chip) (j : LapJob) : Nat := j.opening.length + (j.opened.filter fun g => !grainDone c j g).length

/-- Is a grain open, or its open issued? -/
def isOpen (j : LapJob) (seg g : Nat) : Bool :=
  j.opened.any (fun x => x.seg == seg && x.grain == g) || j.opening.any fun x => x.1 == seg && x.2.1 == g

/-- An open grain. -/
def openedGrain (j : LapJob) (seg g : Nat) : Option OpenGrain := j.opened.find? fun x => x.seg == seg && x.grain == g

/-- Lapidary reaches row grains in extent order while fewer than 64 are in progress, checking each extent before its rows: at most `f`
grains (R162 step 4). -/
def reach : Nat → Chip → Chip
  | 0, c => c
  | f + 1, c =>
    match c.lap.job with
    | none => c
    | some j =>
      match j.extents[j.ext]? with
      | none => c
      | some x =>
        let t := j.post.table
        let n := rowsPerGrain c t
        let g := (x.first + j.row) / n
        let seg := tabRowSeg c t
        if j.row = 0 && extentBad c j j.ext x then manifestFail c 4
        else if !isOpen j seg g && inProgress c j ≥ 64 then c
        else
          let nextRow := (g + 1) * n - x.first
          let c := modJob c fun j => { j with
            opening := if isOpen j seg g then j.opening else j.opening ++ [(seg, g, 0)]
            ext := if x.count ≤ nextRow then j.ext + 1 else j.ext
            row := if x.count ≤ nextRow then 0 else nextRow }
          reach f c

/-- Reach as far as the limit of 64 grains allows; extents that share a grain are reached together. -/
def reachAll (c : Chip) : Chip := reach (((c.lap.job.map fun j => j.extents.length).getD 0) + 65) c

/-! Escape slots (R157, R162 step 7). -/

/-- Bytes of an escape slot. -/
def slotBytes (c : Chip) (t : Nat) : Nat := escBytes (tabValues c t)

/-- The grain of an escape slot. -/
def slotGrain (c : Chip) (t n : Nat) : Nat :=
  n * slotBytes c t / grainBytes (getSeg (getSpace c (tabSpace c t)) (tabEscSeg c t))

/-- Write bytes at an address of HBM. -/
def hbmWrite (c : Chip) (a : Nat) (bs : Bytes) : Chip := nocWrites c (hbmRoute c a) a bs

/-- Write an escape slot into its open grain. -/
def writeSlot (c : Chip) (t n frame : Nat) (bs : Bytes) : Chip :=
  hbmWrite c (frameAddr c frame + n * slotBytes c t % grainBytes (getSeg (getSpace c (tabSpace c t)) (tabEscSeg c t))) bs

/-- The slot writes whose escape grain is open and filled are made. -/
def flushSlots (c : Chip) : Chip :=
  match c.lap.job with
  | none => c
  | some j =>
    let t := j.post.table
    let home := fun (w : Nat × Bytes) => ((openedGrain j (tabEscSeg c t) (slotGrain c t w.1)).filter (·.filled)).map (·.frame)
    let c := j.slotWrites.foldl (fun c w => match home w with | some k => writeSlot c t w.1 k w.2 | none => c) c
    modJob c fun j => { j with slotWrites := j.slotWrites.filter fun w => (home w).isNone }

/-- The escape grains that slot writes wait for are opened while fewer than 64 grains are in progress (R162 steps 4 and 7). -/
def openEscapes (c : Chip) : Chip :=
  ((c.lap.job.map fun j => j.slotWrites).getD []).foldl (fun c w =>
    match c.lap.job with
    | none => c
    | some j =>
      let seg := tabEscSeg c j.post.table
      let g := slotGrain c j.post.table w.1
      if isOpen j seg g || inProgress c j ≥ 64 then c else modJob c fun j => { j with opening := j.opening ++ [(seg, g, 0)] }) c

/-! Memory (R98, R162 steps 2 and 3). -/

/-- Entries of an open table (R162): twice the larger of 65,536 and the sum of the lists' refresh reserves. -/
def openBytes (c : Chip) : Nat :=
  roundUp (32 * max 65536 ((upFrom 0 4).foldl (fun n i => n + listReserve c i) 0)) 0x200000

/-- Take `n` working-pool blocks of 1 MiB, or none of them. -/
def takeBufs : Nat → Chip → Option (List (Nat × Nat) × Chip)
  | 0, c => some ([], c)
  | n + 1, c => match wpAlloc c 0x100000 with
    | none => none
    | some (a, s, c) => (takeBufs n c).map fun r => ((a, s) :: r.1, r.2)

/-- The open table and the extent buffers, 32,768 extents each (R162): none while a pool cannot supply one. -/
def takeLapMem (c : Chip) (extents : Nat) : Option ((Nat × Nat) × List (Nat × Nat) × Chip) :=
  match spAlloc c (openBytes c) with
  | none => none
  | some (a, c1) => (takeBufs ((extents + 32767) / 32768) c1).map fun r => ((a, openBytes c), r.1, r.2)

/-- Does a manifest wait for its memory: its header and extents have been read and it is still READING? -/
def waitsMem (c : Chip) (j : LapJob) : Bool := c.lap.stat.state == 1 && !j.raw.isEmpty

/-- A manifest that waits for its memory asks for it again (R98): with it, the scan begins. -/
def memoryGo (c : Chip) : Chip :=
  match c.lap.job with
  | none => c
  | some j =>
    if !waitsMem c j then c
    else match takeLapMem c j.extents.length with
    | none => c
    | some (run, bufs, c) => reachAll (setApply (modJob c fun j => { j with run := run, bufs := bufs }) fun a => { a with state := 2 })

/-! Staging and pulls (R162 step 5). -/

/-- A free place in the staging blocks for a row's values; a row never spans two blocks. -/
def stagePlace (j : LapJob) (n : Nat) : Option Nat :=
  j.staging.findSome? fun b => ((upFrom 0 (0x100000 / max 1 n)).map fun i => b.1 + i * n).find? fun a => !j.staged.any fun s => s.2 == a

/-- A place for a row's values, in a new staging block when the others are full: up to eight, taken when no lower requester waits for a block
(R22, R96, R162). -/
def takePlace (c : Chip) (j : LapJob) (n : Nat) : Option (Nat × Chip) :=
  match stagePlace j n with
  | some a => some (a, c)
  | none =>
    if j.staging.length ≥ 8 || c.sp.cutters.any (fun x => x.2.phase == .list) then none
    else match wpAlloc c 0x100000 with
    | some (a, s, c) => some (a, modJob c fun j => { j with staging := j.staging ++ [(a, s)] })
    | none => none

/-- The source of a row (R161). -/
def rowSource (j : LapJob) (row : Nat) : Nat :=
  ((j.extents.find? fun x => x.first ≤ row && row < x.first + x.count).map fun x => x.source + (row - x.first) * x.pitch).getD 0

/-- The next row to pull: reached, its grain open, not pulled yet, in ascending order. -/
def nextPull (c : Chip) (j : LapJob) : Option Nat :=
  let n := rowsPerGrain c j.post.table
  let wants := fun (r : Nat) => manifestRows (reached j) r 1 == 1 && (tget j.pulled r).isNone && (tget j.staged r).isNone
  (j.opened.filter fun g => g.seg == tabRowSeg c j.post.table).foldl (fun m g =>
    match (upFrom (g.grain * n) n).find? wants, m with
    | some r, some b => some (min r b)
    | some r, none => some r
    | none, m => m) none

/-- The launch that stands for a pull: one move from the row's source to its place in the staging area, which is a SCRATCH side (R222). -/
def pullLaunch (c : Chip) (j : LapJob) (e row place : Nat) : Launch :=
  { Launch.new lapQ e with
    space := tabSpace c j.post.table, scratch := some (place, pullBytes c j), admitted := now c
    nodes := [(0, nodeFresh (2 + 2 ^ 11) (contigBody 0 (rowSource j row) 0 (pullBytes c j)))] }

/-- Pull rows while there is room for their values. -/
def pullGo : Nat → Chip → Chip
  | 0, c => c
  | f + 1, c =>
    match c.lap.job with
    | none => c
    | some j =>
      if c.lap.stat.state != 2 || c.lap.tables.any (fun t => t.1 == j.post.table && t.2.state != 2) then c
      else match nextPull c j with
      | none => c
      | some row => match takePlace c j (pullBytes c j) with
        | none => c
        | some (a, c) =>
          let e := c.lap.next % 2 ^ 32
          let c := setLaunch { c with lap := { c.lap with next := e + 1 } } (pullLaunch c j e row a)
          pullGo f (modJob c fun j => { j with staged := tset j.staged row a, pulls := tset j.pulls e row })

/-- The pulls, as launches. -/
def pullLaunches (c : Chip) : List Launch := (c.pat.launches.filter fun x => x.2.q == lapQ).map (·.2)

/-- A pull of no running manifest ends, and leaves when its strokes have. -/
def pullEnd (c : Chip) (l : Launch) : Chip :=
  let mine := (c.lap.job.map fun j => (tget j.pulls l.e).isSome).getD false
  if !mine && l.final = noFinal then setFinal c lapQ l.e 4 0xFFFF
  else if l.final != noFinal && stopped c lapQ l.e then
    let c := dropLaunch c lapQ l.e
    if !mine then c
    else if l.final = 0 then modJob c fun j => { j with pulls := tdel j.pulls l.e }
    else { c with lap := { c.lap with failed := true } }
  else c

/-- A fresh frame of an aborted manifest returns to its list once every stroke that writes it has ended (R163). -/
def dyingGo (c : Chip) : Chip :=
  let ended := fun (x : Nat × List Nat) => x.2.all fun i => (sdsOf c (.lap i)).isEmpty
  let gone := c.lap.dying.filter ended
  let c := { c with lap := { c.lap with dying := c.lap.dying.filter fun x => !ended x } }
  gone.foldl (fun c x => match tget c.geo.frames x.1 with | some (.fresh _) => freeFrame c x.1 | _ => c) c

/-- A failed stroke or pull ends the manifest with REASON 6 (R170); a failure of one that has ended changes nothing. -/
def lapFailed (c : Chip) : Chip :=
  if c.lap.failed then manifestFail { c with lap := { c.lap with failed := false } } 6 else c

/-- Lapidary goes on as far as it can. -/
def lapGo (c : Chip) : Chip :=
  let c := lapFailed ((pullLaunches c).foldl pullEnd c)
  let c := dyingGo ((pullLaunches c).foldl pullEnd c)
  pullGo (2 ^ 50) (openEscapes (memoryGo c))

/-! The end of a stroke. -/

/-- The codes of a row have been written: its header and the zeros after the last code follow, its place in the staging area is free, and the
scan goes on (R156, R162 step 6). -/
def codesDone (c : Chip) (j : LapJob) (x : LapItem) (row : Nat) : Chip :=
  let t := j.post.table
  let codes := tabValues c t * fmtBits (tabFmt c t) / 8
  let a := frameAddr c x.frame + row % rowsPerGrain c t * tabRowBytes c t
  let c := hbmWrite c a (leBytes 8 x.header)
  let c := hbmWrite c (a + 8 + codes) (zeros (tabRowBytes c t - 8 - codes))
  let c := modJob c fun j => { j with staged := tdel j.staged row }
  reachAll (setApply (stat c 0x7038 3 1) fun a => { a with rows := a.rows + 1 })

/-- The fresh frame of a grain is filled; slots that waited for it are written. -/
def fillOver (c : Chip) (x : LapItem) : Chip :=
  flushSlots (modJob c fun j => { j with
    opened := j.opened.map fun g => if g.seg = x.seg && g.grain = x.grain then { g with filled := true } else g })

/-- The last stroke of a Lapidary set descriptor has ended. -/
def lapItemDone (c : Chip) (i : Nat) : Chip :=
  match tget c.lap.items i, c.lap.job with
  | some x, some j =>
    let c := { c with lap := { c.lap with items := tdel c.lap.items i } }
    match x.row with
    | some row => codesDone c j x row
    | none => fillOver c x
  | _, _ => c

end Sys2Proof.Machine
end

