-- ==== Sys2Proof/Machine/Contexts.lean ====
section
/-! DEFINITION. Places, joins, switch points and evictions (R236 to R245), and the commands of the slots. -/

namespace Sys2Proof.Machine

/-! Slot objects (R253). -/

/-- PLACES of a slot. -/
def slotPlaces (c : Chip) (s : Nat) : Nat := obj c (0x4440 + s) 3
/-- PLACE_LINES of a slot. -/
def slotLines (c : Chip) (s : Nat) : Nat := obj c (0x4440 + s) 4
/-- LIVE_BASE of a slot. -/
def slotBase (c : Chip) (s : Nat) : Nat := obj c (0x4440 + s) 5
/-- Step period of a slot. -/
def slotPeriod (c : Chip) (s : Nat) : Nat := obj c (0x4440 + s) 6
/-- Admission margin M. -/
def margin (c : Chip) : Nat := obj c 0x4402 1
/-- The service-time estimate of a Pattern in whole ticks (R246). -/
def estimate (c : Chip) (p : Nat) : Nat := (getPat c p).est / 1000

/-! Where a context stands (R241). -/

/-- Is a node running on a core, bound, issuing or being cut? -/
def nodeRuns (c : Chip) (l : Launch) (n : Nat) (x : NodeRt) : Bool :=
  x.st == .bound || (x.st == .running && x.kind == 1) || x.cutting
    || c.sp.cutters.any (fun j => j.2.isOf l.q l.e n) || strokesOf c (.node l.q l.e n) != 0

/-- Is a node running, or staged ready at a Cluster Sequencer? -/
def nodeBusy (c : Chip) (l : Launch) (n : Nat) (x : NodeRt) : Bool :=
  nodeRuns c l n x || (x.kind == 1 && x.st == .ready && x.cluster != 0xFF)

/-- Does an unresolved node wait on a translation fault, a tick, a PRIOR edge or a pace (R241)? -/
def nodeWaits (l : Launch) (n : Nat) (x : NodeRt) : Bool :=
  !nodeEnded x &&
    (x.out || (x.kind == 7 && x.st == .ready)
      || (x.st == .waiting && l.edges.any fun e => e.dst == n && e.kind == 5 && e.res == 0)
      || (kindMove x.kind && x.st == .ready && !x.sds.isEmpty && (dPace x.body == 1 || dPace x.body == 3) && !x.paceOk))

/-- Is a resident context blocked (R241)? -/
def blocked (c : Chip) (l : Launch) : Bool :=
  l.ctx == .resident && l.final == noFinal && l.nodes.all (fun x => !nodeBusy c l x.1 x.2) && l.nodes.any fun x => nodeWaits l x.1 x.2

/-- LIVE_LINES at the switch point a context stands at, when it can be used (R241). -/
def switchLines (c : Chip) (l : Launch) : Option Nat :=
  match l.switchAt.bind fun n => getNode l n with
  | some x => if slotBase c l.slot != 0 && hLive x.hdr ≤ slotLines c l.slot then some (hLive x.hdr) else none
  | none => none

/-- Does a context stand at a usable switch point: it has completed a SWITCH node since, and nothing of it runs? -/
def atSwitch (c : Chip) (l : Launch) : Bool := (switchLines c l).isSome && l.nodes.all fun x => !nodeRuns c l x.1 x.2

/-- Are the nodes of a context held: a marked victim that has completed a SWITCH node (R245 step 3)? -/
def isHeld (c : Chip) (l : Launch) : Bool := (getSlot c l.slot).victim == some (l.q, l.e) && (switchLines c l).isSome

/-- May nodes of a launch be bound, dispatched or cut now (R242)? -/
def mayRun (c : Chip) (l : Launch) : Bool := l.final == noFinal && l.ctx == .resident && !isHeld c l

/-- A context goes past its switch point when a node of it is dispatched, bound or cut (R241); one that is out is past it once it is back. -/
def passSwitch (c : Chip) (q e : Nat) : Chip :=
  modLaunch c q e fun l => if l.ctx == .resident then { l with switchAt := none } else { l with pastSwitch := true }

/-! Deadline order (R239). -/

/-- Does launch `a` come before `b` in deadline order? -/
def dlBefore (a b : Launch) : Bool :=
  let x := enDeadline a.entry
  let y := enDeadline b.entry
  x < y || (x == y && (a.q < b.q || (a.q == b.q && a.e < b.e)))

/-- Insert a launch in deadline order. -/
def dlInsert (a : Launch) : List Launch → List Launch
  | [] => [a]
  | b :: r => if dlBefore a b then a :: b :: r else b :: dlInsert a r

/-- Sort launches in deadline order. -/
def dlSort (ls : List Launch) : List Launch := ls.foldl (fun s a => dlInsert a s) []

/-- The contexts of a slot in a state. -/
def ctxIn (c : Chip) (s : Nat) (st : CtxSt) : List Launch :=
  (c.pat.launches.filter fun x => ofQueue x.2.q && x.2.slot == s && x.2.ctx == st && x.2.final == noFinal).map (·.2)

/-! Places and blocks. -/

/-- The lowest free place of a slot (DESIGN CHOICE: the spec names no order). -/
def freePlace (c : Chip) (s : Nat) : Option Nat := (upFrom 0 (slotPlaces c s)).find? fun r => (tget (getSlot c s).places r).isNone

/-- Allocate a block of the working pool as the GFE; no bytes, no block. -/
def takeBlock (c : Chip) (n : Nat) : Option (Option (Nat × Nat) × Chip) :=
  if n = 0 then some (none, c)
  else match wpAlloc c n with
  | some (a, s, c) => some (some (a, s), c)
  | none => none

/-- Take a place and both blocks in one cycle, or none of them (R238). -/
def takeJoin (c : Chip) (q e s scr lines : Nat) : Option (Nat × Option (Nat × Nat) × Option (Nat × Nat) × Chip) :=
  match freePlace c s, takeBlock c scr with
  | some r, some (b, c1) =>
    match takeBlock c1 (512 + 64 * lines) with
    | some (v, c2) => some (r, b, v, modSlot c2 s fun x => { x with places := tset x.places r (q, e) })
    | none => none
  | _, _ => none

/-- SAVE_LINES that a full launch needs: the larger of its Pattern's and its light variant's (R238). -/
def fullLines (c : Chip) (p : Nat) : Nat :=
  let i := (getPat c p).image
  let v := getPat c (imgLight i)
  max (imgSaveLines i) (if imgLight i ≤ 1023 && v.state = 2 then imgSaveLines v.image else 0)

/-- A launch joins with its place and blocks (R238, R242). -/
def seat (c : Chip) (q e r : Nat) (b v : Option (Nat × Nat)) : Chip :=
  let c := modLaunch c q e fun l => { l with ctx := .resident, place := r, scratch := b, save := v }
  let c := match getLaunch c q e with
    | some l => modSlot c l.slot fun x => { x with joins := x.joins.filter (· != (q, e)) }
    | none => c
  stat c 0x7044 1 1

/-- Try to join a launch as it stands: full, or light from node 0 (R238). -/
def tryJoin (c : Chip) (l : Launch) : Option Chip :=
  let img := (getPat c l.runPat).image
  let lines := if l.light then imgSaveLines img else fullLines c l.pat
  match takeJoin c l.q l.e l.slot (imgScratch img) lines with
  | some (r, b, v, c) => some (seat c l.q l.e r b v)
  | none => none

/-- A launch takes its light variant from node 0 (R213, R240, R247); a Pattern that names itself counts the launch once (R217). -/
def goLight (c : Chip) (q e : Nat) (v : Nat × Bytes × List (Nat × Nat)) : Chip :=
  let c := stat c 0x7044 3 1
  let c := if ((getLaunch c q e).map fun l => l.pat) = some v.1 then c else patternEnter c v.1
  modLaunch c q e fun l => { l with
    light := true, runPat := v.1, nodes := numberNodes 0 v.2.2, edges := numberEdges 0 (imgEdgeList v.2.1) }

/-- Does a Pattern's estimate from a tick on meet a deadline, with the admission margin? -/
def meets (c : Chip) (t p d : Nat) : Bool := t + estimate c p + margin c ≤ d

/-- Join a launch in its light variant, when R240 allows it. -/
def tryLight (c : Chip) (l : Launch) : Option Chip :=
  if l.light || enNoLight l.entry then none
  else match lightOf c l with
  | some v => if meets c (now c) v.1 (enDeadline l.entry) then (getLaunch (goLight c l.q l.e v) l.q l.e).bind (tryJoin (goLight c l.q l.e v)) else none
  | none => none

/-! Saves and restores (R243). -/

/-- Start the save of a context (R242, R243). -/
def evict (c : Chip) (l : Launch) (lines : Nat) : Chip :=
  let n := 512 + 64 * lines
  let live := slotBase c l.slot + l.place * slotLines c l.slot * 64
  let block := (l.save.map (·.1)).getD 0
  let c := modLaunch c l.q l.e fun x => { x with ctx := .saving, pastSwitch := false }
  let c := modSlot c l.slot fun x => { x with victim := if x.victim = some (l.q, l.e) then none else x.victim, timerOn := false }
  let c := ownSd (stat c 0x7044 6 1) (.save l.q l.e) l.space (contigBody 0 0 0 n)
    (runEntries routeGfe 0 0 false false 512 ++ runEntries 2 live 512 false false (64 * lines)) (runEntries (hbmRoute c block) block 0 false false n)
  bindBest c (.save l.q l.e)

/-- Start the restore of a context into a free place (R242, R243). -/
def restore (c : Chip) (l : Launch) (r : Nat) : Chip :=
  let lines := ((l.switchAt.bind fun n => getNode l n).map fun x => hLive x.hdr).getD 0
  let n := 512 + 64 * lines
  let live := slotBase c l.slot + r * slotLines c l.slot * 64
  let from_ := (l.save.map (·.1)).getD 0
  let c := modLaunch c l.q l.e fun x => { x with ctx := .restoring, place := r }
  let c := modSlot c l.slot fun x => { x with places := tset x.places r (l.q, l.e) }
  let c := ownSd (stat c 0x7044 7 1) (.restore l.q l.e) l.space (contigBody 0 0 0 n)
    (runEntries (hbmRoute c from_) from_ 0 false false n) (runEntries routeGfe 0 0 false false 512 ++ runEntries 2 live 512 false false (64 * lines))
  bindBest c (.restore l.q l.e)

/-- Is a node of an evicted context ready to be bound or dispatched (R242)? A ready move node that no Cutter has taken yet counts: it is cut
once its context is back. -/
def wouldRun (x : NodeRt) : Bool :=
  x.st == .ready && (x.kind == 1 || (kindMove x.kind && !x.out && !x.cutting
    && (if x.sds.isEmpty then x.paceBase == 0 else (dPace x.body != 1 && dPace x.body != 3) || x.paceOk)))

/-- OUT_BLOCKED contexts with a ready node become OUT_READY (R242). -/
def wakeOut (c : Chip) : Chip :=
  { c with pat := { c.pat with launches := c.pat.launches.map fun x =>
      if x.2.ctx == .outBlocked && x.2.nodes.any fun n => wouldRun n.2 then (x.1, { x.2 with ctx := .outReady }) else x } }

/-- OUT_READY contexts of a slot go to its free places in deadline order (R245). -/
def restoreAll (c : Chip) (s : Nat) : Chip :=
  (dlSort (ctxIn c s .outReady)).foldl (fun c l => match freePlace c s with | some r => restore c l r | none => c) c

/-- Is a slot pressed (R245)? -/
def pressed (c : Chip) (s : Nat) : Bool :=
  let res := (ctxIn c s .resident).filter fun l => blocked c l
  res.length == slotPlaces c s && !(ctxIn c s .outReady).isEmpty

/-- The context that gives way: at a switch point, the latest in deadline order (R245). -/
def evictee (c : Chip) (s : Nat) : Option Launch := (dlSort ((ctxIn c s .resident).filter fun l => blocked c l && atSwitch c l)).getLast?

/-- The marked victim stands at a switch point (R245 step 3). -/
def victimReady (c : Chip) (s : Nat) : Option Launch :=
  match (getSlot c s).victim with
  | some v => (ctxIn c s .resident).find? fun l => (l.q, l.e) == v && atSwitch c l
  | none => none

/-- Evict a context at its switch point. -/
def evictAt (c : Chip) (l : Launch) : Chip := match switchLines c l with | some n => evict c l n | none => c

/-- The slot acts on what has changed (R245). -/
def slotAct (c : Chip) (s : Nat) : Chip :=
  let free := (freePlace c s).isSome
  let c := restoreAll c s
  let c := if free then modSlot c s fun x => { x with victim := none } else c
  match victimReady c s with
  | some l => evictAt c l
  | none =>
    if pressed c s then
      match evictee c s with
      | some l => evictAt c l
      | none =>
        if (getSlot c s).timerOn || (getSlot c s).victim.isSome then c
        else modSlot c s fun x => { x with timerOn := true, timer := now c + obj c (0x4440 + s) 7 }
    else modSlot c s fun x => { x with timerOn := false }

/-- The slots that hold contexts. -/
def slotsUsed (c : Chip) : List Nat := c.pat.slots.map (·.1)

/-- Does a node wait on a pace channel that is HALTED or FENCED (R119)? -/
def paceLost (c : Chip) (x : NodeRt) : Bool :=
  kindMove x.kind && dPace x.body == 3 && x.paceBase != 0 && !x.paceOk && !nodeEnded x
    && ((getChan c (dPaceCh x.body)).state == 4 || (getChan c (dPaceCh x.body)).state == 5)

/-- Launches whose AFTER_CHANNEL node waits on a HALTED or FENCED channel end with BUS_ERROR (R119). -/
def paceHalted (c : Chip) : Chip :=
  c.pat.launches.foldl (fun c l => match l.2.nodes.find? fun x => paceLost c x.2 with
    | some x => if runs l.2 then setFinal c l.2.q l.2.e 9 (x.1 % 4096) else c
    | none => c) c

/-- Are the strokes up to a node's half mark complete (R120)? -/
def halfDone (x : NodeRt) : Bool := (upFrom 0 (halfStroke x.body + 1)).all fun k => x.done.contains k

/-- Is a node a ready Fence whose move nodes have all completed (R212)? -/
def fenceOver (x : NodeRt) : Bool := x.kind == 8 && x.st == .ready && x.covers == some []

/-- Does a launch stand at one of the three points that wait for a cross-link flush (R278)? -/
def atFlushPoint (c : Chip) (l : Launch) : Bool :=
  (l.final != noFinal && stopped c l.q l.e) || !l.marks.isEmpty || l.nodes.any fun x => runs l && fenceOver x.2

/-- Does a launch that wrote across the bridge still wait for its flush: in DOUBLET, and after PARTNER_ROUGH until DRAINED (R278, R296)? -/
def waitsLink (c : Chip) (l : Launch) : Bool :=
  l.bridge && (c.mode == .doublet || (c.mode == .split && c.dbl.kind == 1 && !c.dbl.drained))

/-- Send a cross-link flush when a launch needs one; it covers every launch that wrote across the bridge so far, and at most one is in flight
(R277). -/
def sendFlush (c : Chip) : Chip :=
  if c.mode = .doublet && !c.dbl.flushing && c.pat.launches.any (fun x => x.2.bridge && atFlushPoint c x.2) then
    let ls := (c.pat.launches.filter fun x => x.2.bridge).map fun x => (x.2.q, x.2.e)
    emit (stat { c with dbl := { c.dbl with flushing := true, flushFor := ls } } 0x704A 2 1) (.bridge 7 [])
  else c

/-- Has every stroke that the entry into ROUGH aborted ended: only running launches, which are Bootstrap commands then, hold set descriptors
(R362)? The scrub is apart. -/
def abortsOver (c : Chip) : Bool :=
  c.xf.sds.all fun x => match x.2.owner with
    | .scrub _ => true
    | _ => ((ownerLaunch x.2.owner).bind fun o => (getLaunch c o.1 o.2).map fun l => l.final == noFinal).getD false

/-- A unit that entered ROUGH from DOUBLET sends DRAINED once its strokes have ended and no commit or release sweep runs (R293). -/
def sendDrained (c : Chip) : Chip :=
  if c.mode = .rough && c.rough.kind = 2 && c.dbl.wasJoined && !c.dbl.drained && abortsOver c && c.lap.stat.state != 4
      && c.lap.tables.all (fun t => t.2.older != 3) then
    emit { c with dbl := { c.dbl with drained := true } } (.bridge 18 [])
  else c

/-! Flush reads of Fence nodes and of completions (R188, R189, R212). A port that cannot issue needs none: nothing can follow the writes on it
(DEDUCED, log 119). -/

/-- A Fence node whose move nodes have completed issues its flush reads: on the ports that they wrote but the home port, and with FLUSH_HOME on
the home port (R212). -/
def fenceFlush (c : Chip) (l : Launch) (n : Nat) (x : NodeRt) : Chip :=
  let h := homePort c l.q
  let ps := [HPort.a, HPort.b].filter fun p => if p = h then bit (fld x.body 0 1) 0 else x.ports / portBit p % 2 == 1
  modNode ((ps.filter (canIssue c)).foldl (fun c p => emit c (.flushRead p)) c) l.q l.e n fun y => { y with asked := true }

/-- The Fence nodes of a launch ask for their flush reads. -/
def fencesOf (c : Chip) (l : Launch) : Chip :=
  if runs l then (l.nodes.filter fun x => fenceOver x.2 && !x.2.asked).foldl (fun c x => fenceFlush c l x.1 x.2) c else c

/-- Every Fence node. -/
def fencesGo (c : Chip) : Chip := c.pat.launches.foldl (fun c x => fencesOf c x.2) c

/-- The ports on which a launch's data needs a flush read (R189): every port but the home port that it wrote, and the home port too when the
record or the mirror lies in a coherent window. -/
def flushPorts (c : Chip) (l : Launch) : List HPort :=
  let h := homePort c l.q
  let coherent := (enRecord l.entry && cohActive c h (qRecord c l.q + l.e % qSize c l.q * 32) 32)
    || (qMirror c l.q != 0 && cohActive c h (qMirror c l.q) 8)
  [HPort.a, HPort.b].filter fun p => l.ports / portBit p % 2 == 1 && (p != h || coherent)

/-- May a launch's completion begin: a final status, nothing of it running, its marks fired (DEDUCED, log 121), its cross-link flush done, no
destroy of the queue running (R188, R192)? -/
def mayFinish (c : Chip) (l : Launch) : Bool :=
  l.final != noFinal && l.q != lapQ && stopped c l.q l.e && (l.q == 0 || l.ctx == .ended) && l.marks.isEmpty && !waitsLink c l
    && (getQueue c l.q).state != 5

/-- Change the flush reads of a port. -/
def modFlush (c : Chip) (p : HPort) (f : FlushRead → FlushRead) : Chip :=
  { c with bel := { c.bel with flush := setTwo c.bel.flush p (f (two c.bel.flush p)) } }

/-- A launch joins the next flush read of each of its ports (R189). -/
def askFlush (c : Chip) (l : Launch) : Chip :=
  let c := ((flushPorts c l).filter (canIssue c)).foldl (fun c p => modFlush c p fun f => { f with next := f.next ++ [(l.q, l.e)] }) c
  modLaunch c l.q l.e fun l => { l with asked := true }

/-- A port issues its next flush read when none is in flight and a launch waits for one (R189, R200); a port that cannot issue serves none. -/
def startFlush (c : Chip) (p : HPort) : Chip :=
  let live := fun (x : Nat × Nat) => (getLaunch c x.1 x.2).isSome
  let f : FlushRead := ⟨(two c.bel.flush p).cur.filter live, (two c.bel.flush p).next.filter live⟩
  if !canIssue c p then modFlush c p fun _ => ⟨[], []⟩
  else if f.cur.isEmpty && !f.next.isEmpty then emit (stat (modFlush c p fun _ => ⟨f.next, []⟩) 0x7020 7 1) (.flushRead p)
  else modFlush c p fun _ => f

/-- Launches whose completion may begin ask for their flush reads, and the ports issue them. -/
def flushesGo (c : Chip) : Chip :=
  let c := c.pat.launches.foldl (fun c x => if !x.2.asked && mayFinish c x.2 then askFlush c x.2 else c) c
  startFlush (startFlush c .a) .b

/-! Ready queues and Cadence credits (R237, R249). -/

/-- A Run node that waits ready at a cluster: queue, entry, node. -/
def readyAt (c : Chip) (k : Nat) : List (Nat × Nat × Nat) :=
  ((getClu c k).staged.filter fun r =>
    !r.re && ((getLaunch c r.q r.e).map fun l => mayRun c l && ((getNode l r.n).map fun x => x.st == .ready).getD false).getD false).map
      fun r => (r.q, r.e, r.n)

/-- The priority of a group (R237). -/
def groupPrio (c : Chip) (g : Nat) : Nat := fld (obj c 0x4401 2) g 1

/-- The distinct numbers of a list. -/
def distinct (l : List Nat) : List Nat := l.foldl (fun s x => if s.contains x then s else s ++ [x]) []

/-- The ready queues at a cluster, with slot and group: those of the queue's first ready launch (R249). -/
def readyQueues (c : Chip) (rs : List (Nat × Nat × Nat)) : List (Nat × Nat × Nat) :=
  (distinct (rs.map (·.1))).map fun q =>
    let l := (rs.find? fun r => r.1 == q).bind fun r => getLaunch c r.1 r.2.1
    ((l.map fun l => l.slot).getD 0, (l.map fun l => l.group).getD 0, q)

/-- The highest priority of some ready queues: the lowest number. -/
def topLevel (c : Chip) (qs : List (Nat × Nat × Nat)) : Nat := qs.foldl (fun m x => min m (groupPrio c x.2.1)) 3

/-- Weighted requesters: each key with the number of its ready queues, capped at 64. -/
def weights (ks : List Nat) : List (Nat × Nat) := (distinct ks).map fun k => (k, min 64 (ks.filter (· == k)).length)

/-- The requesters of the slot arbiter at each level: a slot at the level of its highest ready group (key level × 64 + slot). -/
def slotReqs (c : Chip) (qs : List (Nat × Nat × Nat)) : List (Nat × Nat) :=
  weights ((qs.filter fun x => groupPrio c x.2.1 == topLevel c (qs.filter fun y => y.1 == x.1)).map fun x => groupPrio c x.2.1 * 64 + x.1)

/-- The requesters of the group arbiters (key (level × 64 + slot) × 256 + group). -/
def groupReqs (c : Chip) (qs : List (Nat × Nat × Nat)) : List (Nat × Nat) :=
  weights (qs.map fun x => (groupPrio c x.2.1 * 64 + x.1) * 256 + x.2.1)

/-- Credits after a change of the requesters: who stops requesting drops its credit, who starts receives its weight (R249). -/
def keepCredit (old : Tab Nat) (reqs : List (Nat × Nat)) : Tab Nat := reqs.foldl (fun t r => tset t r.1 (tgetD old r.1 r.2)) []

/-- The Cadence credits of a cluster follow its ready queues. -/
def creditsAt (c : Chip) (k : Nat) : Chip :=
  let qs := readyQueues c (readyAt c k)
  modClu c k fun y => { y with slotCredit := keepCredit y.slotCredit (slotReqs c qs), grpCredit := keepCredit y.grpCredit (groupReqs c qs) }

/-- The Cadence credits of every cluster. -/
def creditsGo (c : Chip) : Chip := (c.pat.clusters.map (·.1)).foldl creditsAt c

/-- What follows a change: the GFE, Lapidary, the scrub, the slots, destroys, flushes, the ends of shutdowns, DRAINED, Cadence credits. -/
def react (c : Chip) : Chip :=
  let c := scrubGo (wakeOut (gfe (lapGo (gfe (paceHalted c)))))
  let c := sendFlush (destroysGo ((slotsUsed c).foldl slotAct c))
  creditsGo (sendDrained (shutGo (flushesGo (fencesGo c))))

/-! Joins and boundaries (R239, R240). -/

/-- The join between boundaries of a launch (R239): the join list holds no other launch, no context is OUT_READY, and the place and blocks are
free. -/
def joinNow (s : Nat) (c : Chip) : Option Chip :=
  match (getSlot c s).joins with
  | [(q, e)] => if (ctxIn c s .outReady).isEmpty then (getLaunch c q e).bind (tryJoin c) else none
  | _ => none

/-- JOIN_BETWEEN_BOUNDARIES is due for a launch that has just entered the join list and could join at once; any other waits for the next boundary
(R239). -/
def joinBetween (s : Nat) (c : Chip) : Option Chip :=
  match (getSlot c s).joins.head?.bind fun j => getLaunch c j.1 j.2 with
  | some l => if l.early && now c ≤ l.admitted + 1 then joinNow s c else none
  | none => none

/-- JOIN_BETWEEN_BOUNDARIES (R239). -/
def execJoinBetweenBoundaries (slot : Nat) (s : State) : Host.Outcome State Fault Refusal :=
  let r := joinBetween slot s.toChip
  eventOn 1 "JOIN_BETWEEN_BOUNDARIES" r.isSome (react (r.getD s.toChip)) s

/-- A join that is not served is judged (R240): it stays, joins in its light variant, or ends with DEADLINE. -/
def judgeJoin (c : Chip) (l : Launch) (barred : Bool) : Chip × Bool :=
  let d := enDeadline l.entry
  if !l.waited && meets c (now c + slotPeriod c l.slot) l.runPat d then
    (stat (modLaunch c l.q l.e fun x => { x with waited := true }) 0x7044 2 1, true)
  else match if barred then none else tryLight c l with
  | some c => (c, barred)
  | none => (setFinal c l.q l.e 3 0xFFFF, true)

/-- Serve the join list in deadline order; once one join is left unserved, no later join is served (R239). -/
def serveJoins (c : Chip) (s : Nat) : Chip :=
  let ls := dlSort ((getSlot c s).joins.filterMap fun j => getLaunch c j.1 j.2)
  (ls.foldl (fun (r : Chip × Bool) l =>
    match if r.2 then none else tryJoin r.1 l with
    | some c => (c, false)
    | none =>
      let c := if r.2 || (freePlace r.1 s).isNone then r.1 else stat r.1 0x7035 8 1
      judgeJoin c l r.2) (c, false)).1

/-- What released blocks and places take effect at a boundary (R239); a place that becomes free clears the mark of the victim (R245). -/
def takeReleases (c : Chip) (s : Nat) : Chip :=
  let x := getSlot c s
  let c := x.rel.foldl wpRelease c
  modSlot c s fun y => { y with rel := [], relPlaces := [], victim := if x.relPlaces.isEmpty then y.victim else none, places := y.places.filter fun p => !x.relPlaces.contains p.1 }

/-- STEP_BOUNDARY (R239): Carillon is a multiple of the period; releases first, then restores, then joins. -/
def stepBoundary (s t : Nat) (c : Chip) : Chip :=
  let c := gfe (advance c t)
  let c := modSlot (takeReleases c s) s fun x => { x with boundary := now c + 1 }
  let c := (getSlot c s).joins.foldl (fun c j => modLaunch c j.1 j.2 fun l => { l with early := false }) c
  react (serveJoins (restoreAll c s) s)

/-- STEP_BOUNDARY is due at a multiple of the slot's period, once. -/
def dueStepBoundary (s t : Nat) (c : Chip) : Bool :=
  s < 32 && serving c && nowAt c t % slotPeriod c s == 0 && (getSlot c s).boundary != nowAt c t + 1

/-- STEP_BOUNDARY (R239, R240). -/
def execStepBoundary (slot t : Nat) (s : State) : Host.Outcome State Fault Refusal :=
  eventOn 1 "STEP_BOUNDARY" (dueStepBoundary slot t s.toChip) (stepBoundary slot t s.toChip) s

/-! The switch-point bound, saves and restores. -/

/-- The timer of a pressed slot expires (R245 step 3): the RESIDENT context with the latest DEADLINE is marked as victim. -/
def boundExpiry (s t : Nat) (c : Chip) : Chip :=
  let c := modSlot (advance c t) s fun x => { x with timerOn := false }
  match (dlSort (ctxIn c s .resident)).getLast? with
  | some l => react (stat (modSlot c s fun x => { x with victim := some (l.q, l.e) }) 0x7044 8 1)
  | none => c

/-- Does a place become free at the boundary of this very tick, which has not been taken yet (R252)? -/
def freesNow (s t : Nat) (c : Chip) : Bool := dueStepBoundary s t c && !(getSlot c s).relPlaces.isEmpty

/-- SWITCH_POINT_BOUND_EXPIRY (R245, R252). -/
def execSwitchPointBoundExpiry (slot t : Nat) (s : State) : Host.Outcome State Fault Refusal :=
  let x := getSlot s.toChip slot
  eventOn 1 "SWITCH_POINT_BOUND_EXPIRY" (x.timerOn && x.timer ≤ nowAt s.toChip t && !freesNow slot t s.toChip) (boundExpiry slot t s.toChip) s

/-- The strokes of an owner have all been issued and completed. -/
def ownerDone (c : Chip) (o : Owner) : Bool := (sdsOf c o).isEmpty

/-- A save ends (R242): the place is freed, the context is out. -/
def saveDone (c : Chip) (q e : Nat) : Chip :=
  match getLaunch c q e with
  | none => c
  | some l =>
    let c := unbind c (.save q e)
    let c := modSlot c l.slot fun x => { x with places := tdel x.places l.place }
    react (modLaunch c q e fun l => { l with ctx := .outBlocked })

/-- SAVE_COMPLETE (R242, R243). -/
def execSaveComplete (q e : Nat) (s : State) : Host.Outcome State Fault Refusal :=
  let due := ((getLaunch s.toChip q e).map fun l => l.ctx == .saving && l.final == noFinal).getD false
  eventOn 1 "SAVE_COMPLETE" (due && ownerDone s.toChip (.save q e)) (saveDone s.toChip q e) s

/-- A restore ends (R242): dispatch and binding resume. A node cut while the context was out has taken it past its switch point. -/
def restoreDone (c : Chip) (q e : Nat) : Chip :=
  react (modLaunch (unbind c (.restore q e)) q e fun l => { l with
    ctx := .resident, switchAt := if l.pastSwitch then none else l.switchAt, pastSwitch := false })

/-- RESTORE_COMPLETE (R242, R243). -/
def execRestoreComplete (q e : Nat) (s : State) : Host.Outcome State Fault Refusal :=
  let due := ((getLaunch s.toChip q e).map fun l => l.ctx == .restoring && l.final == noFinal).getD false
  eventOn 1 "RESTORE_COMPLETE" (due && ownerDone s.toChip (.restore q e)) (restoreDone s.toChip q e) s

end Sys2Proof.Machine
end

