-- ==== Sys2Proof/Machine/Facets.lean ====
section
/-! DEFINITION. What a Cutter looks up (R53, R62, R70, R72): the segment, the facet and the map entry of an address, the facet-cache lines
that the look-up reads, and the facet cache itself. -/

namespace Sys2Proof.Machine

/-! The facet cache (R18, R72): 24,576 sets of 16 ways. -/

/-- The set of a 64-byte line (DESIGN CHOICE, log 105: the line number modulo the number of sets). -/
def lineSet (ln : Nat) : Nat := ln % 24576

/-- The ways in use of a set, the latest used first. -/
def cacheWays (c : Chip) (s : Nat) : List (Nat × Nat) := tgetD c.sp.cache s []

/-- Does the facet cache hold a line? -/
def cacheHas (c : Chip) (ln : Nat) : Bool := (cacheWays c (lineSet ln)).any fun w => w.2 == ln

/-- Replace the ways of a set. -/
def setWays (c : Chip) (s : Nat) (ws : List (Nat × Nat)) : Chip := { c with sp := { c.sp with cache := tput c.sp.cache [] s ws } }

/-- A line that the cache holds is the latest used of its set. -/
def cacheTouch (c : Chip) (ln : Nat) : Chip :=
  let ws := cacheWays c (lineSet ln)
  setWays c (lineSet ln) ((ws.filter fun w => w.2 == ln) ++ ws.filter fun w => w.2 != ln)

/-- A line leaves the cache: the tallies counted in it have reached HBM (R88). -/
def cacheDrop (c : Chip) (ln : Nat) : Chip :=
  savedLine (setWays c (lineSet ln) ((cacheWays c (lineSet ln)).filter fun w => w.2 != ln)) ln

/-- A line read from HBM enters the cache. In a full set it takes the way of any line but the latest used: the spec names no tree for its
pseudo-LRU, so which one is a free value (log 105). -/
def cacheFill (c : Chip) (ln : Nat) : Chip :=
  let ws := cacheWays c (lineSet ln)
  if cacheHas c ln then cacheTouch c ln
  else match (upFrom 0 16).find? fun k => ws.all fun w => w.1 != k with
  | some k => setWays c (lineSet ln) ((k, ln) :: ws)
  | none =>
    let f := takeFree c 64
    let v := ws.getD (1 + f.1 % 15) (0, 0)
    let c := cacheDrop f.2 v.2
    setWays c (lineSet ln) ((v.1, ln) :: cacheWays c (lineSet ln))

/-- The line that holds segment descriptor `n` of a Space; its HBM address is internal to the unit, so it has a number above every HBM line
(DESIGN CHOICE, log 105). -/
def segLine (sp n : Nat) : Nat := 2 ^ 34 + 16 * sp + n

/-- The 16 lines of a Space's segment descriptors (R70). -/
def segLines (sp : Nat) : List Nat := (upFrom 0 16).map (segLine sp)

/-- Facet-cache lines that a Cutter has asked for and not received (R71). -/
def missesOf (c : Chip) (k : Nat) : List Nat := (c.sp.missing.filter fun m => m.1 == k).map (·.2)

/-- Ask for a line; a line already asked for is not asked for again. Object 0x7034.03 counts the lines asked for (log 106). -/
def askLine (c : Chip) (k ln : Nat) : Chip :=
  if c.sp.missing.contains (k, ln) then c else stat { c with sp := { c.sp with missing := c.sp.missing ++ [(k, ln)] } } 0x7034 3 1

/-! Looking up an address. -/

/-- The segment of a Space that holds an address (R53). -/
def findSeg (c : Chip) (sp va : Nat) : Option (Nat × Seg) :=
  (getSpace c sp).segs.find? fun s => s.2.kind != 0 && s.2.start ≤ va && va < s.2.start + s.2.len

/-- The facet of an installed table that holds a granule: its number, the facet, and the granule where it ends (R62). -/
def findFacet (t : FacetTab) (segLen g : Nat) : Option (Nat × Facet × Nat) :=
  match (t.facets.zipIdx.filter fun x => x.1.start ≤ g).getLast? with
  | some x => some (x.2, x.1, ((t.facets[x.2 + 1]?).map fun f => f.start).getD (segLen / 4096))
  | none => none

/-- The facets that the binary search over the START values reads, between `lo` and `hi` (R70); facet 0 is read only when no probe went
above it. At most 21 (R71). -/
def probes (t : FacetTab) (g : Nat) : Nat → Nat → Nat → List Nat
  | 0, _, _ => []
  | f + 1, lo, hi =>
    if hi ≤ lo + 1 then (if lo = 0 then [0] else [])
    else
      let m := (lo + hi) / 2
      m :: (if ((t.facets[m]?).map fun x => decide (x.start ≤ g)).getD false then probes t g f m hi else probes t g f lo m)

/-- What a look-up finds: the segment, the offset in it, the bytes up to the end of the segment, facet or grain, the facet, and the lines
read. -/
structure Look where
  n : Nat
  s : Seg
  off : Nat
  len : Nat
  facet : Option (Nat × Facet)
  lines : List Nat
  deriving Repr, Inhabited

/-- Look a piece up that begins at `va` and has at most `len` bytes (R70). A facet under the hint needs no search. -/
def look (c : Chip) (sp va len : Nat) (hint : Option (Nat × Nat)) : Option Look :=
  match findSeg c sp va with
  | none => none
  | some (n, s) =>
    let off := va - s.start
    let len := min len (s.len - off)
    if s.kind = 2 then
      match (tget (getSpace c sp).tabs n).bind fun t => (findFacet t s.len (off / 4096)).map fun f => (t, f) with
      | some (t, k, f, ge) =>
        let ls := if hint = some (n, k) then [] else (probes t (off / 4096) 22 0 t.facets.length).map fun m => t.base / 64 + m / 4
        some ⟨n, s, off, min len (ge * 4096 - off), some (k, f), ls⟩
      | none => some ⟨n, s, off, len, none, []⟩
    else if s.kind = 3 then
      let g := grainBytes s
      let ls := ((tget c.geo.maps (mapKey sp n)).map fun m => [m.base / 64 + off / g / 8]).getD []
      some ⟨n, s, off, min len (g - off % g), none, ls⟩
    else some ⟨n, s, off, len, none, []⟩

/-- The facet that a look-up leaves as the hint; an ABSENT one leaves the hint as it was (R70). -/
def hintAfter (k : Look) (old : Option (Nat × Nat)) : Option (Nat × Nat) :=
  match k.facet with
  | some (i, f) => if f.cls = 0 then old else some (k.n, i)
  | none => old

/-- The lines that an element reads, piece by piece; a ROW-form row and an ABSENT facet end it after one piece. -/
def elemLines : Nat → Chip → Nat → Bool → Nat → Nat → Option (Nat × Nat) → List Nat
  | 0, _, _, _, _, _, _ => []
  | f + 1, c, sp, row, va, len, hint =>
    if len = 0 || va ≥ 2 ^ 56 then []
    else match look c sp va len hint with
    | none => []
    | some k =>
      if row || (k.facet.map fun x => x.2.cls == 0).getD false then k.lines
      else k.lines ++ elemLines f c sp row (va + max 1 k.len) (len - max 1 k.len) (hintAfter k hint)

end Sys2Proof.Machine
end

