-- ==== Sys2Proof/Machine/Cutter.lean ====
section
/-! DEFINITION. The Cutters (R66 to R77): translating one side of a node, waiting causes, the set descriptor, and their commands. -/

namespace Sys2Proof.Machine

/-! One piece of an element. -/

/-- How the translation of a piece ends: an entry, a waiting cause, a terminal cause with the segment number of Last fault, or an ATS request
for a page. -/
inductive Piece where
  | entry (e : Entry)
  | wait (cause seg : Nat) (w : Wait)
  | fault (cause seg : Nat)
  | ask (page : Nat)
  deriving DecidableEq, Repr, Inhabited

/-- SVA binding of a Space: PASID_EN, PASID, PORT (R55). -/
def svaEn (c : Chip) (sp : Nat) : Bool := bit (obj c (0x3000 + sp) 7) 20
/-- PASID of a Space. -/
def svaPasid (c : Chip) (sp : Nat) : Nat := bits (obj c (0x3000 + sp) 7) 0 20
/-- The SVA port of a Space. -/
def svaPort (c : Chip) (sp : Nat) : HPort := portOf (bit (obj c (0x3000 + sp) 7) 21)

/-- What a cut needs to know of its side; `sink` is the destination of a DIGEST, which goes nowhere (R232). -/
structure CutCtx where
  sp : Nat
  write : Bool
  row : Bool
  sink : Bool
  pins : List (Nat × Nat)
  scratch : Option (Nat × Nat)
  direct : Bool
  memo : List (Nat × Nat × Nat)
  waits : List Wait
  deriving Repr, Inhabited

/-- An address of a class as an entry (R59, R60, R69); an HBM target on the other die needs the bridge. HOST_SVA goes through ATS on the port
of the Space's SVA binding, whatever the PORT of its segment or facet (R59, R76; DEDUCED, log 108: R57 gives PORT to a Fixed HOST_SVA segment
too). -/
def placeTarget (c : Chip) (x : CutCtx) (seg cls a : Nat) (portB ns : Bool) (len lg : Nat) : Piece :=
  if cls = 1 then
    let r := hbmRoute c a
    if r = 1 && !bridgeUp c then .fault 1 0xFF else .entry ⟨r, false, a, len, lg, []⟩
  else if cls = 2 then .entry ⟨if portB then 4 else 3, false, a, len, lg, nsFrom ns lg⟩
  else if cls = 3 then
    let p := svaPort c x.sp
    if !svaEn c x.sp then .fault 7 seg
    else match x.memo.find? fun m => m.1 ≤ a && a < m.1 + m.2.1 with
    | some m => .entry ⟨if p = .b then 6 else 5, false, m.2.2 + (a - m.1), min len (m.1 + m.2.1 - a), lg, nsFrom ns lg⟩
    | none =>
      let page := a / 4096 * 4096
      match x.waits.find? fun w => match w with | .page _ pg _ _ => pg == page | _ => false with
      | some w => .wait 5 seg w
      | none => .ask page
  else if cls = 4 then .entry ⟨4, false, a, len, lg, nsFrom ns lg⟩
  else if cls = 5 then .entry ⟨7, false, a, len, lg, []⟩
  else .entry ⟨2, false, a, len, lg, []⟩

/-- In an ISOLATED split, do a segment's facet table or residency map lie on the partner's die (R294)? -/
def lostTable (c : Chip) (s : Seg) : Bool :=
  c.mode == .split && c.dbl.kind == 2 && (s.kind == 2 || s.kind == 3) && bits s.tableBase 39 1 != unitNo c

/-- A piece of a Tiered segment: the Geode's answer (R70, R89). -/
def cutTiered (c : Chip) (x : CutCtx) (k : Look) (lg : Nat) : Piece × Chip :=
  let s := k.s
  let pin := (x.pins.find? fun p => p.1 == s.tableId).map (·.2)
  let r := geodeResolve c x.sp k.n k.off s x.write pin
  match r.1 with
  | .hbm a =>
    let rt := hbmRoute c a
    if rt = 1 && !bridgeUp c then (.fault 1 0xFF, r.2) else (.entry ⟨rt, false, a, k.len, lg, []⟩, r.2)
  | .far a sl => (.entry ⟨farRoute s, sl, a, k.len, lg, nsFrom s.ns lg⟩, r.2)
  | _ => (.wait 4 k.n (.nonresident k.n (k.off / grainBytes s) x.write), r.2)

/-- Translate the piece that begins at `va` and is at most `len` bytes long, with the hint it leaves (R70). UNMAPPED carries segment number 0xFF
(R75). -/
def cutPiece (c : Chip) (x : CutCtx) (va len lg : Nat) (hint : Option (Nat × Nat)) : Piece × Option (Nat × Nat) × Chip :=
  if x.direct then
    match x.scratch with
    | some b => (if va + len ≤ b.2 then .entry ⟨hbmRoute c b.1, false, b.1 + va, len, lg, []⟩ else .fault 1 0xFF, hint, c)
    | none => (if x.sink then .entry ⟨routeGfe, false, va, len, lg, []⟩ else .fault 1 0xFF, hint, c)
  else if va ≥ 2 ^ 56 then (.fault 1 0xFF, hint, c)
  else match look c x.sp va len hint with
  | none => (.fault 1 0xFF, hint, c)
  | some k =>
    let s := k.s
    if lostTable c s then (.fault 1 0xFF, hint, c)
    else if c.mode == .rough && s.kind != 1 then (.fault 9 k.n, hint, c)
    else if s.kind = 1 then (placeTarget c x k.n s.cls (s.target + k.off) s.portB s.ns k.len lg, hint, c)
    else if s.kind = 2 then
      match k.facet with
      | none => (.fault 1 0xFF, hint, c)
      | some (i, f) =>
        if f.cls = 0 then (if s.faultWait then .wait 2 k.n (.absent k.n i) else .fault 2 k.n, hint, c)
        else (placeTarget c x k.n f.cls (f.taddr * 4096 + (k.off - f.start * 4096)) f.portB f.ns k.len lg, hintAfter k hint, c)
    else
      let r := cutTiered c x k lg
      (r.1, hint, r.2)

/-! One element. -/

/-- Append a piece to the entries, newest first: contiguous runs of one route merge in RUN form, and a run longer than 2^24 bytes is cut
there (R69). -/
def pushEntry (row : Bool) (e : Entry) : List Entry → List Entry
  | [] => [e]
  | p :: r =>
    if !row && p.route = e.route && p.sealed == e.sealed && p.addr + p.len = e.addr && p.logical + p.len = e.logical && p.len < 2 ^ 24 then
      let t := min e.len (2 ^ 24 - p.len)
      let m := { p with len := p.len + t, ns := nsJoin p e }
      if e.len = t then m :: r
      else { e with addr := e.addr + t, len := e.len - t, logical := e.logical + t, ns := nsFrom (nsAt e e.logical) (e.logical + t) } :: m :: r
    else e :: p :: r

/-- How an element ended; `ask` says how many of its bytes are translated. -/
inductive ElemEnd where
  | done
  | wait (cause seg : Nat) (w : Wait)
  | fault (cause seg : Nat)
  | ask (page got : Nat)
  deriving DecidableEq, Repr, Inhabited

/-- The result of an element: its entries, newest first, its end, the hint, the unit. -/
structure ElemRes where
  es : List Entry
  fin : ElemEnd
  hint : Option (Nat × Nat)
  c : Chip
  deriving Inhabited

/-- Translate an element piece by piece from byte `got` on (R70). A ROW-form piece that ends before its row raises SPLIT_ROW (3), also where it
ends with a range that ATS translated (DEDUCED, log 109). -/
def cutElem : Nat → Chip → CutCtx → Nat → Nat → Nat → Nat → Option (Nat × Nat) → List Entry → ElemRes
  | 0, c, _, _, _, _, _, h, es => ⟨es, .done, h, c⟩
  | f + 1, c, x, va, len, lg, got, h, es =>
    if len ≤ got then ⟨es, .done, h, c⟩
    else
      let r := cutPiece c x (va + got) (len - got) (lg + got) h
      match r.1 with
      | .entry e =>
        if x.row && e.len < len - got then ⟨es, .fault 3 (((findSeg c x.sp va).map (·.1)).getD 0xFF), r.2.1, r.2.2⟩
        else cutElem f r.2.2 x va len lg (got + max 1 e.len) r.2.1 (pushEntry x.row e es)
      | .wait k s w => ⟨es, .wait k s w, r.2.1, r.2.2⟩
      | .fault k s => ⟨es, .fault k s, r.2.1, r.2.2⟩
      | .ask p => ⟨es, .ask p got, r.2.1, r.2.2⟩

/-! One side. -/

/-- Is a side marked SCRATCH (R203, R222)? -/
def sideScratch (h : Nat) (s : Side) : Bool := match s with | .src => hScrSrc h | .dst => hScrDst h

/-- The context of a job. -/
def cutCtx (l : Launch) (x : NodeRt) (j : CutJob) : CutCtx :=
  { sp := l.space, write := j.side == .dst, row := indexedSide x.body j.side, sink := l.q == 0, pins := l.pins, scratch := l.scratch,
    direct := sideScratch x.hdr j.side, memo := j.memo, waits := j.waits }

/-- Replace the job of a Cutter. -/
def setCut (c : Chip) (k : Nat) (j : CutJob) : Chip := { c with sp := { c.sp with cutters := tset c.sp.cutters k j } }

/-- Send an ATS Translation Request for the page that a Cutter asks for, when the limit allows one more (R76). -/
def sendAts (c : Chip) (k : Nat) (sp : Nat) (j : CutJob) : Chip :=
  if c.sp.atsOut < obj c 0x3400 3 then
    let c := { c with sp := { c.sp with atsOut := c.sp.atsOut + 1 } }
    emit (setCut c k { j with phase := .ats, sent := true }) (.atsRequest (svaPort c sp) (svaPasid c sp) j.atsPage (j.side == .src))
  else setCut c k { j with phase := .ats, sent := false }

/-- May the unit send one more page request on a port now (R77)? -/
def priRoom (c : Chip) (p : HPort) : Bool := two c.sp.priOut p < (getPort c p).cfg.priAlloc

/-- Send a page request (R77). -/
def sendPri (c : Chip) (p : HPort) (pasid page : Nat) (write : Bool) : Chip :=
  emit { c with sp := { c.sp with priOut := setTwo c.sp.priOut p (two c.sp.priOut p + 1) } } (.pageRequest p pasid page write)

/-- Note a waiting cause: counted and recorded in the Space, kept by the job (R73, R75); the fault timeout starts at the node's first. -/
def noteWait (c : Chip) (k : Nat) (j : CutJob) (sp cause seg dva : Nat) (w : Wait) : CutJob × Chip :=
  let c := spaceFault c sp cause dva j.n j.q seg false
  let c := modNode c j.q j.e j.n fun x =>
    if x.timeout = 0 then { x with timeout := now c + obj c (0x3000 + sp) 8, waitDva := dva, waitSeg := seg } else x
  let j := { j with waited := true, waits := if j.waits.contains w then j.waits else j.waits ++ [w] }
  (j, setCut c k j)

/-- Where an element's part of the side lies: its address, its length and its place in the stream; what lies before the first byte of the cut
is trimmed (R74, R131). -/
def elemSpan (b : Nat) (j : CutJob) (e : Nat) : Nat × Nat × Nat :=
  let lg := max j.lo (e * elemUnit b j.side)
  let skip := lg - e * elemUnit b j.side
  (elemStart b j.side j.idx e + skip, elemLen b j.side e - skip, lg)

/-- Append the entries of finished elements in element order (R70). -/
def assemble (row : Bool) : Nat → CutJob → CutJob
  | 0, j => j
  | f + 1, j =>
    match tget j.later j.asm with
    | some es => assemble row f { j with
        later := tdel j.later j.asm, asm := j.asm + 1, entries := es.foldl (fun a e => pushEntry row e a) j.entries }
    | none => j

/-- An element is finished; its entries come newest first. -/
def finishElem (row : Bool) (j : CutJob) (e : Nat) (es : List Entry) : CutJob :=
  assemble row (j.later.length + 1) { j with later := tset j.later e es.reverse }

/-- Begin an element, or go on with it: a line that the facet cache lacks is asked for and the element waits for it; otherwise it is translated.
Answers the job, or none when the Cutter stops. Object 0x7034.02 counts the lines that the cache had (log 106). -/
def tryElem (c : Chip) (k : Nat) (j : CutJob) (l : Launch) (x : NodeRt) (p : Parked) : Option CutJob × Chip :=
  let ctx := cutCtx l x j
  let s := elemSpan x.body j p.elem
  let ls := if ctx.direct then [] else elemLines (s.2.1 + 1) c l.space ctx.row (s.1 + p.got) (s.2.1 - p.got) j.hint
  match ls.find? fun ln => !cacheHas c ln with
  | some ln =>
    let miss := b2n (!c.sp.missing.contains (k, ln))
    (some { j with parked := j.parked ++ [{ p with line := some ln, misses := p.misses + miss }] }, askLine c k ln)
  | none =>
    let c := stat (ls.foldl cacheTouch c) 0x7034 2 (ls.length - p.misses)
    let r := cutElem (s.2.1 + 1) c ctx s.1 s.2.1 s.2.2 p.got j.hint p.part
    let j := { j with hint := r.hint }
    match r.fin with
    | .done => (some (finishElem ctx.row j p.elem r.es), stat r.c 0x7034 1 1)
    | .wait cause seg w =>
      let d := noteWait r.c k j l.space cause seg (elemStart x.body j.side j.idx p.elem) w
      (some (finishElem ctx.row d.1 p.elem []), d.2)
    | .fault cause seg => (none, faultEnd r.c j.q j.e j.n cause (elemStart x.body j.side j.idx p.elem) seg)
    | .ask pg got => (none, sendAts r.c k l.space
        { j with atsPage := pg, atsElem := p.elem, parked := j.parked ++ [⟨p.elem, got, r.es, none, 0⟩] })

/-- May an element that waits go on: its line has come, or it waited for its ATS request? -/
def mayGoOn (c : Chip) (k : Nat) (p : Parked) : Bool :=
  match p.line with
  | some ln => !c.sp.missing.contains (k, ln)
  | none => true

/-- Translate the elements of a side (R70, R71, R73): first the lines of the segment descriptors, then the elements in order; an element that
misses waits, and later ones go on while at most 16 misses are outstanding. The side ends when every element is finished, or with 65,536
entries. -/
def cutRun : Nat → Chip → Nat → CutJob → Chip
  | 0, c, k, j => setCut c k j
  | f + 1, c, k, j =>
    match (getLaunch c j.q j.e).bind fun l => (getNode l j.n).map fun x => (l, x) with
    | none => c
    | some (l, x) =>
      let room := (missesOf c k).length < 16
      let more := j.elem < elemCount x.body j.side
      let go := fun (r : Option CutJob × Chip) => match r.1 with | some j => cutRun f r.2 k j | none => r.2
      if j.entries.length ≥ 65536 || (!more && j.parked.isEmpty) then setCut c k { j with phase := .done }
      else if (missesOf c k).any (2 ^ 34 ≤ ·) || !room then setCut c k { j with phase := .miss }
      else match j.parked.find? (mayGoOn c k) with
      | some p => go (tryElem c k { j with parked := j.parked.filter (·.elem != p.elem) } l x p)
      | none =>
        if more then go (tryElem c k { j with elem := j.elem + 1 } l x ⟨j.elem, 0, [], none, 0⟩)
        else setCut c k { j with phase := .miss }

/-- Run a job from where it stands. -/
def runJob (c : Chip) (k : Nat) (j : CutJob) : Chip := cutRun (2 ^ 50) c k { j with phase := .run }

/-- A job begins by reading the 16 segment descriptors of its Space, 16 facet-cache lines (R70). -/
def readSegs (c : Chip) (k sp : Nat) : Chip :=
  (segLines sp).foldl (fun c ln => if cacheHas c ln then stat (cacheTouch c ln) 0x7034 2 1 else askLine c k ln) c

/-! Granting (R66, R223). -/

/-- The first stroke not yet cut of a node: after its last live set descriptor, or NEXT_STROKE. -/
def cutFrom (c : Chip) (x : NodeRt) : Nat := ((x.sds.getLast?.bind fun i => getSd c i).map fun sd => sd.hi).getD x.next

/-- The first stroke of the cut in progress, or of the one to start. -/
def cutLo (c : Chip) (x : NodeRt) : Nat :=
  if x.cutting then ((x.sds.getLast?.bind fun i => getSd c i).map fun sd => sd.lo).getD x.next else cutFrom c x

/-- Is a side of a node cut, or being cut? -/
def sideTaken (c : Chip) (q e n : Nat) (x : NodeRt) (s : Side) : Bool :=
  (match s with | .src => x.srcDone.isSome | .dst => x.dstDone.isSome)
    || c.sp.cutters.any fun j => j.2.isOf q e n && j.2.side == s

/-- Does a side need a Cutter? A ZERO or PATTERN source has none (R117). -/
def sideNeeds (x : NodeRt) (s : Side) : Bool := !(s == .src && dSrcKind x.body != 0)

/-- Are a node's CUT edges satisfied (R223)? -/
def cutEdgesMet (l : Launch) (n : Nat) : Bool := l.edges.all fun e => !(e.dst == n && e.cut) || e.res == 1

/-- May a node start a new set descriptor: at most two live at once, strokes left to cut (R70)? -/
def needsCut (c : Chip) (x : NodeRt) : Bool :=
  x.cutting || (x.sds.length ≤ 1 && cutFrom c x < strokeCount x.body)

/-- May the context of a node be cut now: it is resident, or it is out and the node's waiting sides restart (R74, R242)? -/
def ctxCuts (l : Launch) (x : NodeRt) : Bool :=
  !ofQueue l.q || l.ctx == .resident || (x.restart && (l.ctx == .outBlocked || l.ctx == .outReady || l.ctx == .restoring))

/-- May a side of a node be handed to a Cutter now (R66, R74, R223, R242)? -/
def cutReady (c : Chip) (l : Launch) (n : Nat) (x : NodeRt) (s : Side) : Bool :=
  runs l && !isHeld c l && kindMove x.kind && !x.out && !nodeEnded x && (!ofQueue l.q || (window c l).contains n) && cutEdgesMet l n && sideNeeds x s
    && !sideTaken c l.q l.e n x s && needsCut c x && (x.cutting || sdRoom c) && ctxCuts l x
    && (getSpace c l.space).state != 4 && c.mode != .boot

/-- The number of a side's job among the requesters of the Cutters (R21). -/
def jobKey (q e n : Nat) (s : Side) : Nat := (lkey q e * 8192 + n) * 2 + (match s with | .src => 0 | .dst => 1)

/-- Is a Cutter in service and idle? -/
def cutterIdle (c : Chip) (k : Nat) : Bool := bit c.toc.cutters k && (tget c.sp.cutters k).isNone

/-- Does a node of the Space wait for retranslation (R66)? -/
def redoWaits (c : Chip) (sp : Nat) : Bool :=
  c.pat.launches.any fun l => l.2.space == sp && l.2.nodes.any fun x =>
    x.2.redo && (cutReady c l.2 x.1 x.2 .src || cutReady c l.2 x.1 x.2 .dst)

/-- Is the index list of an indexed side whole, and inside one Fixed segment of class HBM or CLUSTER (R112)? -/
def idxHome (c : Chip) (sp b : Nat) : Bool :=
  match findSeg c sp (dIdxList b) with
  | some (_, s) => s.kind == 1 && (s.cls == 1 || s.cls == 6) && dIdxList b + dIdxCount b * dIdxBytes b ≤ s.start + s.len
  | none => false

/-- Start the set descriptor of a cut (R79), when the other side has not. -/
def openCut (c : Chip) (l : Launch) (n : Nat) (x : NodeRt) : Nat × Chip :=
  if x.cutting then ((x.sds.getLast?).getD 0, c)
  else
    let r := newSd c (.node l.q l.e n) l.space (getSpace c l.space).gen x.body (cutFrom c x)
    (r.1, modNode r.2 l.q l.e n fun y => { y with
      cutting := true, sds := y.sds ++ [r.1],
      paceBase := if y.paceBase = 0 then 1 + obj c (0x3600 + dPaceCh y.body) 4 else y.paceBase })

/-- A Cutter takes one side of a node (R66, R70). -/
def grantCut (k q e n : Nat) (s : Side) (idx : List Nat) (c : Chip) : Chip :=
  match (getLaunch c q e).bind fun l => (getNode l n).map fun x => (l, x) with
  | none => c
  | some (l, x) =>
    let c := passSwitch { c with sp := { c.sp with cutPtr := (k + 1) % 16, jobPtr := jobKey q e n s + 1 } } q e
    if indexedSide x.body s && !idxHome c l.space x.body then faultEnd c q e n 1 (dIdxList x.body) 0xFF
    else
      let o := openCut c l n x
      let c := if sideScratch x.hdr s then o.2 else readSegs o.2 k l.space
      let lo := (strokeSpan x.body s (cutLo c x)).1
      let e0 := lo / elemUnit x.body s
      runJob c k ⟨q, e, n, s, o.1, x.redo, lo, e0, e0, idx, [], [], [], none, [], false, [], .run, 0, 0, false⟩

/-- The sides that may be handed to a Cutter now, with their jobs' numbers: a new job waits while a node of its Space waits for
retranslation (R66). -/
def waitingJobs (c : Chip) : List Nat :=
  c.pat.launches.flatMap fun l => l.2.nodes.flatMap fun x =>
    ([Side.src, Side.dst].filter fun s => cutReady c l.2 x.1 x.2 s && (x.2.redo || !redoWaits c l.2.space)).map fun s => jobKey l.2.q l.2.e x.1 s

/-- CUT_JOB_GRANT is due: the side is the next waiting one in rotation, and the Cutter the next idle one (R21, R66). The index list read is the
operand. -/
def dueGrant (k q e n : Nat) (s : Side) (idx : List Nat) (c : Chip) : Bool :=
  match (getLaunch c q e).bind fun l => getNode l n with
  | none => false
  | some x =>
    nextKey c.sp.jobPtr (waitingJobs c) == some (jobKey q e n s) && rotate (c.sp.cutPtr % 16) 16 (cutterIdle c) == some k
      && (if indexedSide x.body s then idx.length == dIdxCount x.body && idx.all (fun i => i < 256 ^ dIdxBytes x.body) else idx.isEmpty)

/-- CUT_JOB_GRANT (R66, R70). -/
def execCutJobGrant (cutter q e n : Nat) (side : Side) (idx : List Nat) (s : State) : Host.Outcome State Fault Refusal :=
  eventOn 2 "CUT_JOB_GRANT" (dueGrant cutter q e n side idx s.toChip) (react (grantCut cutter q e n side idx s.toChip)) s

/-- A line that a Cutter asked for has come: it enters the facet cache, and a job that waited for lines goes on (R71). -/
def missReturn (k ln : Nat) (c : Chip) : Chip :=
  let c := cacheFill { c with sp := { c.sp with missing := c.sp.missing.filter (· != (k, ln)) } } ln
  match tget c.sp.cutters k with
  | some j => if j.phase = .miss then runJob c k j else c
  | none => c

/-- FACET_CACHE_MISS_RETURN (R70, R71). -/
def execFacetCacheMissReturn (cutter line : Nat) (s : State) : Host.Outcome State Fault Refusal :=
  eventOn 2 "FACET_CACHE_MISS_RETURN" (s.sp.missing.contains (cutter, line)) (react (missReturn cutter line s.toChip)) s

/-! The end of a side (R70, R74). -/

/-- The strokes that a side's entries cover: all of them, or the whole strokes of the first 65,536 entries (R70). -/
def coveredHi (b : Nat) (s : Side) (total lg : Nat) : Nat :=
  if lg ≥ sideBytes b s then total
  else lg * wideWidth b / sideWidth b s / strokeUnit b

/-- A node that keeps no set descriptor with strokes to issue leaves its channel. -/
def leaveIdle (c : Chip) (q e n : Nat) : Chip := if sdLeft c (.node q e n) then c else leaveChan c (.node q e n)

/-- Switch a node out on the waiting causes of both its sides (R73, R74): the set descriptor being cut is discarded; one that was already issuing
issues to its end. -/
def switchOut (c : Chip) (q e n : Nat) : Chip :=
  let ws := (c.sp.cutters.filter fun j => j.2.isOf q e n).flatMap fun j => j.2.waits
  modNode (leaveIdle (dropCut c q e n) q e n) q e n fun x => { x with out := true, waits := ws }

/-- Both sides are cut: the set descriptor is complete (R67, R70). -/
def closeCut (c : Chip) (q e n : Nat) : Chip :=
  match (getLaunch c q e).bind fun l => getNode l n with
  | none => c
  | some x =>
    let src := if sideNeeds x .src then x.srcDone else some Region.empty
    match src, x.dstDone, x.sds.getLast? with
    | some a, some d, some i =>
      let hi := min (if sideNeeds x .src then x.srcEnd else strokeCount x.body) x.dstEnd
      let c := modSd c i fun sd => { sd with src := a, dst := d, hi := hi }
      modNode c q e n fun y => { y with
        cutting := false, srcDone := none, dstDone := none, redo := false, out := false, restart := false, waits := [], timeout := 0 }
    | _, _, _ => c

/-- The segment of a region's first element (R68); 0 for a SCRATCH side. -/
def firstSeg (c : Chip) (sp : Nat) (x : NodeRt) (j : CutJob) : Nat :=
  if sideScratch x.hdr j.side then 0
  else ((findSeg c sp (elemSpan x.body j (j.lo / elemUnit x.body j.side)).1).map (·.1)).getD 0

/-- A finished side takes its region: the Cutter is idle again. -/
def putSide (c : Chip) (k : Nat) (j : CutJob) (r : Region) (hi : Nat) : Chip :=
  let c := { c with sp := { c.sp with cutters := tdel c.sp.cutters k } }
  closeCut (modNode c j.q j.e j.n fun y =>
    match j.side with
    | .src => { y with srcDone := some r, srcEnd := hi }
    | .dst => { y with dstDone := some r, dstEnd := hi }) j.q j.e j.n

/-- Write a finished side: its entries inline, or in a cut list that is written to a block of the working pool; without a block the Cutter waits
(R70, R96). -/
def writeSide (k : Nat) (j : CutJob) (c : Chip) : Chip :=
  match (getLaunch c j.q j.e).bind fun l => (getNode l j.n).map fun x => (l, x) with
  | none => { c with sp := { c.sp with cutters := tdel c.sp.cutters k } }
  | some (l, x) =>
    let es := j.entries.reverse.take 65536
    let lg := ((es.getLast?).map fun e => e.logical + e.len).getD j.lo
    let hi := coveredHi x.body j.side (strokeCount x.body) lg
    let form := sideForm x.body j.side
    let seg := firstSeg c l.space x j
    if es.length ≤ inlineCap form then putSide c k j ⟨form, seg, es, none⟩ hi
    else match wpAlloc c (es.length * (if form = 1 then 8 else 16)) with
    | some (a, s, c) => putSide (nocWrites c (hbmRoute c a) a (es.flatMap (entryBytes form))) k j ⟨form, seg, es, some (a, s)⟩ hi
    | none => setCut (stat c 0x7035 8 1) k { j with phase := .list }

/-- A side ends: the node is switched out on its waiting causes, or the side is written (R70, R74). -/
def sideEnd (k : Nat) (c : Chip) : Chip :=
  match tget c.sp.cutters k with
  | none => c
  | some j => if j.waited then switchOut c j.q j.e j.n else writeSide k j c

/-- SIDE_CUT_COMPLETE (R70, R74). -/
def execSideCutComplete (cutter : Nat) (s : State) : Host.Outcome State Fault Refusal :=
  let due := ((tget s.sp.cutters cutter).map fun j => j.phase == .done).getD false
  eventOn 2 "SIDE_CUT_COMPLETE" due (react (sideEnd cutter s.toChip)) s

/-- CUT_LIST_RETRY (R70): the Cutter that waits for a cut list tries again. -/
def execCutListRetry (cutter : Nat) (s : State) : Host.Outcome State Fault Refusal :=
  let due := ((tget s.sp.cutters cutter).map fun j => j.phase == .list).getD false
  eventOn 2 "CUT_LIST_RETRY" due (react (sideEnd cutter s.toChip)) s

/-! The set descriptor as it stands in the store (R67, R68). -/

/-- The 64-byte header of a node's set descriptor (R67): NEXT_STROKE, BYTES of the wider side, ROW_BYTES of an indexed node, ELEMENTS of the
indexed side or of the source (DEDUCED, log 125), SLOT and QUEUE as the pair numbers them, NODE, GEN, SPACE and OP. -/
def sdHeader (c : Chip) (sd : SetDesc) (l : Launch) (n body : Nat) : Nat :=
  packBits [(dOp body, 2), (0, 6), (sd.space, 10), (0, 14), (sd.gen, 32), (n, 12), (0, 4), (globalQueue c l.q, 13), (0, 3),
    (pairSlot c l.slot, 6), (0, 26), (elemCount body (rowSide body), 41), (0, 7), (if dOp body = 1 then 0 else sLen0 body (rowSide body), 16),
    (wideBytes body, 41), (0, 23), (sd.next, 25)]

/-- The 256 bytes of a set descriptor: header, source region, destination region (R67). None for one that no launch owns. -/
def sdImage (c : Chip) (i : Nat) : Option Nat :=
  match getSd c i with
  | some sd => match sd.owner with
    | .node q e n => (getLaunch c q e).bind fun l => (getNode l n).map fun x =>
        packBits [(sdHeader c sd l n x.body, 512), (regionVal sd.src, 768), (regionVal sd.dst, 768)]
    | _ => none
  | none => none

/-! ATS and PRI (R76, R77). -/

/-- Send the ATS request of a Cutter that waits for the limit, the next in rotation (R21, R76). -/
def sendWaiting (c : Chip) : Chip :=
  let waits := fun (k : Nat) => ((tget c.sp.cutters k).map fun j => j.phase == .ats && !j.sent).getD false
  match rotate (c.sp.atsPtr % 16) 16 waits with
  | some k => (match tget c.sp.cutters k with
    | some j => (match getLaunch c j.q j.e with
      | some l => sendAts { c with sp := { c.sp with atsPtr := (k + 1) % 16 } } k l.space j
      | none => c)
    | none => c)
  | none => c

/-- A page lacks a permission (R77): with page requests off it is PRI_FAILED, otherwise a page request goes out or waits for the
allocation. -/
def pageMissing (c : Chip) (k : Nat) (j : CutJob) (sp va seg : Nat) : Chip :=
  let p := svaPort c sp
  let write := j.side == .dst
  if !(getPort c p).cfg.priEn || two c.sp.priOff p then faultEnd c j.q j.e j.n 6 va seg
  else
    let room := priRoom c p
    let c := if room then sendPri c p (svaPasid c sp) j.atsPage write else c
    let d := noteWait c k j sp 5 seg va (.page p j.atsPage write room)
    runJob d.2 k d.1

/-- The result of an ATS request (R76, R77): the page joins the memo of the side's job (DESIGN CHOICE, log 110: the memo is kept per side), a
missing permission sends a page request, a failure is ATS_FAILED. -/
def atsDone (k : Nat) (r : AtsResult) (c : Chip) : Chip :=
  match tget c.sp.cutters k with
  | none => c
  | some j =>
    match (getLaunch c j.q j.e).bind fun l => (getNode l j.n).map fun x => (l, x) with
    | none => c
    | some (l, x) =>
      let c := { c with sp := { c.sp with atsOut := c.sp.atsOut - 1 } }
      let va := elemStart x.body j.side j.idx j.atsElem
      let seg := ((findSeg c l.space va).map (·.1)).getD 0xFF
      sendWaiting (match r with
        | .failed => faultEnd c j.q j.e j.n 7 va seg
        | .page pa size rd wr =>
          if (if j.side == .dst then wr else rd) then
            runJob c k { j with memo := (j.atsPage / max 4096 size * max 4096 size, max 4096 size, pa) :: j.memo }
          else pageMissing c k j l.space va seg)

/-- ATS requests whose job has been dropped since. -/
def atsOrphans (c : Chip) : Nat := c.sp.atsOut - (c.sp.cutters.filter fun j => j.2.phase == .ats && j.2.sent).length

/-- ATS_TRANSLATION_COMPLETION (R76); the completion of a request whose job has been dropped only makes room for another. -/
def execAtsTranslationCompletion (cutter : Nat) (r : AtsResult) (s : State) : Host.Outcome State Fault Refusal :=
  let due := ((tget s.sp.cutters cutter).map fun j => j.phase == .ats && j.sent).getD false
  let c := if due then atsDone cutter r s.toChip else sendWaiting { s.toChip with sp := { s.sp with atsOut := s.sp.atsOut - 1 } }
  eventOn 2 "ATS_TRANSLATION_COMPLETION" (due || atsOrphans s.toChip != 0) (react c) s

/-- Is a waiting cause a page request outstanding for this page of this port? -/
def isPageWait (p : HPort) (page : Nat) (w : Wait) : Bool :=
  match w with | .page o b _ s => o == p && b == page && s | _ => false

/-- Is a waiting cause a page request of this port that still waits for its turn? -/
def isUnsentPage (p : HPort) (w : Wait) : Bool := match w with | .page o _ _ s => o == p && !s | _ => false

/-- The number of a node among the requesters of page requests (R21). -/
def nodeKey (q e n : Nat) : Nat := lkey q e * 8192 + n

/-- The node of a number. -/
def keyNode (k : Nat) : Nat × Nat × Nat := (k / 8192 / 2 ^ 32, k / 8192 % 2 ^ 32, k % 8192)

/-- The nodes with a waiting cause of a kind, switched out or still being cut. -/
def nodesWaiting (c : Chip) (ok : Wait → Bool) : List (Nat × Nat × Nat) :=
  (c.pat.launches.flatMap fun l => (l.2.nodes.filter fun x => x.2.out && x.2.waits.any ok).map fun x => (l.2.q, l.2.e, x.1))
    ++ (c.sp.cutters.filter fun j => j.2.waits.any ok).map fun j => (j.2.q, j.2.e, j.2.n)

/-- Change the waiting causes of a node, in the node or in the job of the side being cut, whichever holds one of the kind. -/
def modWaits (c : Chip) (q e n : Nat) (f : List Wait → List Wait) : Chip :=
  let js := c.sp.cutters.map fun x => if x.2.isOf q e n then (x.1, { x.2 with waits := f x.2.waits }) else x
  let c := { c with sp := { c.sp with cutters := js } }
  modNode c q e n fun x => { x with waits := f x.waits }

/-- Send the next page request that waits for the allocation, in rotation over the nodes (R21, R77). -/
def sendNextPri (c : Chip) (p : HPort) : Chip :=
  if !priRoom c p || two c.sp.priOff p then c
  else match nextKey (two c.sp.priPtr p) ((nodesWaiting c (isUnsentPage p)).map fun x => nodeKey x.1 x.2.1 x.2.2) with
  | none => c
  | some key =>
    let q := (keyNode key).1
    let e := (keyNode key).2.1
    let n := (keyNode key).2.2
    let mine := ((c.sp.cutters.filter fun j => j.2.isOf q e n).flatMap fun j => j.2.waits)
      ++ (((getLaunch c q e).bind fun l => getNode l n).map fun x => x.waits).getD []
    match mine.find? (isUnsentPage p), getLaunch c q e with
    | some (.page o b w s), some l =>
      let c := { c with sp := { c.sp with priPtr := setTwo c.sp.priPtr p (key + 1) } }
      sendPri (modWaits c q e n fun ws => lmod ws (· == .page o b w s) fun _ => .page o b w true) p (svaPasid c l.space) b w
    | _, _ => c

/-- What a page request's response does to a node that waits for the page (R77). -/
def pageAnswer (p : HPort) (page : Nat) (code : PriCode) (c : Chip) (x : Nat × Nat × Nat) : Chip :=
  if code = .success then modWaits c x.1 x.2.1 x.2.2 fun ws => ldel ws (isPageWait p page)
  else
    let y := (getLaunch c x.1 x.2.1).bind fun l => getNode l x.2.2
    faultEnd c x.1 x.2.1 x.2.2 6 ((y.map fun y => y.waitDva).getD 0) ((y.map fun y => y.waitSeg).getD 0xFF)

/-- A page request response (R77): Success resolves the cause, also of a side still being cut; another code is PRI_FAILED, and Response Failure
stops page requests. -/
def priResponse (p : HPort) (page : Nat) (code : PriCode) (c : Chip) : Chip :=
  let c := { c with sp := { c.sp with priOut := setTwo c.sp.priOut p (two c.sp.priOut p - 1) } }
  let c := if code = .failure then { c with sp := { c.sp with priOff := setTwo c.sp.priOff p true } } else c
  sendNextPri (((nodesWaiting c (isPageWait p page)).head?.map (pageAnswer p page code c)).getD c) p

/-- PRI_PAGE_RESPONSE (R77). -/
def execPriPageResponse (p : HPort) (page : Nat) (code : PriCode) (s : State) : Host.Outcome State Fault Refusal :=
  eventOn 2 "PRI_PAGE_RESPONSE" (two s.sp.priOut p != 0) (react (priResponse p page code s.toChip)) s

/-! Restart and timeout (R74). -/

/-- Is a waiting cause resolved: the facet filled, the grain settled, the far port able to carry the read, the page answered? -/
def waitOver (c : Chip) (sp : Nat) (w : Wait) : Bool :=
  match w with
  | .absent n k =>
    let s := getSeg (getSpace c sp) n
    s.kind != 2 || (match (tget (getSpace c sp).tabs n).bind fun t => t.facets[k]? with | some f => f.cls != 0 | none => true)
  | .nonresident n g write =>
    let s := getSeg (getSpace c sp) n
    let v := entryOf c sp n g
    s.kind != 3 || eRes v || (if write then isFar v && !eFresh v else farCarries c s)
  | .page _ _ _ _ => false

/-- Are all waiting causes of a switched-out node resolved? -/
def waitsOver (c : Chip) (l : Launch) (x : NodeRt) : Bool := x.out && x.waits.all (waitOver c l.space)

/-- NODE_RECUT (R74): every waiting cause is resolved; the node can be cut again. -/
def execNodeRecut (q e n : Nat) (s : State) : Host.Outcome State Fault Refusal :=
  let due := ((getLaunch s.toChip q e).map fun l => l.final == noFinal && ((getNode l n).map fun x => waitsOver s.toChip l x).getD false).getD false
  eventOn 2 "NODE_RECUT" due (react (modNode s.toChip q e n fun x => { x with out := false, restart := true, waits := [], timeout := 0 })) s

/-- FAULT_TIMEOUT_EXPIRY is due: the timeout has passed and a cause is unresolved; a resolution in the same cycle wins (R74). -/
def dueFaultTimeout (q e n t : Nat) (c : Chip) : Bool :=
  ((getLaunch c q e).map fun l => l.final == noFinal && ((getNode l n).map fun x =>
    x.out && x.timeout ≤ nowAt c t && !waitsOver c l x).getD false).getD false

/-- FAULT_TIMEOUT_EXPIRY (R73, R74): cause 8, TIMEOUT. -/
def execFaultTimeoutExpiry (q e n t : Nat) (s : State) : Host.Outcome State Fault Refusal :=
  let c := advance s.toChip t
  let x := (getLaunch c q e).bind fun l => getNode l n
  let c' := faultEnd c q e n 8 ((x.map fun y => y.waitDva).getD 0) ((x.map fun y => y.waitSeg).getD 0xFF)
  eventOn 2 "FAULT_TIMEOUT_EXPIRY" (dueFaultTimeout q e n t s.toChip) (react c') s

end Sys2Proof.Machine
end

