-- ==== Sys2Proof/Machine/Spaces.lean ====
section
/-! DEFINITION. Spaces, segment descriptors, facet loads and ATS invalidations (R54 to R64, R78, R86, R88, R154): the handlers of their
objects and their commands. -/

namespace Sys2Proof.Machine

/-! Geode regions (R86). -/

/-- The Geode regions of both dies: frame lists, working pools, structure pools (R86). -/
def geodeRegions (c : Chip) : List (Nat × Nat) :=
  ((upFrom 0 8).map fun i => ((listRec c i).1, (listRec c i).2.1 * listGrainBytes c i))
    ++ [obj c 0x3500 2, obj c 0x3500 3, Config.otherWorking.toNat, Config.otherStructure.toNat].map fun v => (fld v 0 8, fld v 8 8)

/-- Does a range of HBM meet a Geode region? -/
def meetsGeode (c : Chip) (a n : Nat) : Bool := (geodeRegions c).any fun r => overlaps a n r.1 r.2

/-- The end of the address range of a class (R59). -/
def classTop (cls : Nat) : Nat := if cls = 1 || cls = 6 then 2 ^ 40 else 2 ^ 60

/-- Is a target extent outside its class's range, or, for class HBM, does it meet a Geode region (R58, R64, R86)? -/
def targetBad (c : Chip) (cls a n : Nat) : Bool := a + n > classTop cls || (cls == 1 && meetsGeode c a n)

/-! Space control (R56). -/

/-- Set the state of a Space. -/
def setSpState (c : Chip) (sp st : Nat) : Chip := modSpace c sp fun x => { x with state := st }

/-- CREATE (R54, R56, R392): every segment is UNUSED, with its other fields at their reset values too (DESIGN CHOICE, log 112). -/
def spaceCreate (sp : Nat) (c : Chip) : Nat × Chip :=
  let x := getSpace c sp
  if sp = 0 || x.state != 0 || c.sec.ten.state != 2 then (7, c)
  else (0, setSpace c sp { x with state := 1, segs := [] })

/-- GO_LIVE (R56); BUSY during a map build of the Space (R88). -/
def spaceGoLive (sp : Nat) (c : Chip) : Nat × Chip :=
  if (getSpace c sp).state != 1 then (7, c)
  else if c.geo.build.state = 1 && c.geo.build.space = sp then (6, c)
  else (0, setSpState c sp 2)

/-- INVALIDATE (R56): a hard bump with no change to the mapping. -/
def spaceInvalidate (sp : Nat) (c : Chip) : Nat × Chip :=
  if (getSpace c sp).state != 2 then (7, c)
  else if withdrawing c sp then (6, c)
  else (0, requestBump c sp true .software .none)

/-- Is a queue bound to the Space (R54, R56)? -/
def spaceBound (c : Chip) (sp : Nat) : Bool := c.bel.queues.any fun q => q.2.state != 0 && q.2.space == sp

/-- RETIRE (R54, R56): a hard bump that sets every segment to UNUSED. -/
def spaceRetire (sp : Nat) (c : Chip) : Nat × Chip :=
  if sp = 0 || (getSpace c sp).state != 2 || spaceBound c sp then (7, c)
  else if withdrawing c sp then (6, c)
  else (0, requestBump (setSpState c sp 3) sp true .software .clear)

/-- Space control, object 0x3000+s.02 (R55, R56). -/
def spaceControl (sp v : Nat) (c : Chip) : Nat × Chip :=
  if v = 1 then spaceCreate sp c else if v = 2 then spaceGoLive sp c else if v = 3 then spaceInvalidate sp c
  else if v = 4 then spaceRetire sp c else (5, c)

/-- SPACE_CREATE (R56). -/
def execSpaceCreate (src : Src) (tag sp : Nat) (s : State) : Host.Outcome State Fault Refusal :=
  let rq := writeReq tag (0x3000 + sp) 2 (leBytes 1 1)
  event "SPACE_CREATE" (sp < 1024 && presents s.toChip src rq) (serve (spaceCreate sp) src rq s.toChip) s

/-- SPACE_GO_LIVE (R56). -/
def execSpaceGoLive (src : Src) (tag sp : Nat) (s : State) : Host.Outcome State Fault Refusal :=
  let rq := writeReq tag (0x3000 + sp) 2 (leBytes 1 2)
  event "SPACE_GO_LIVE" (sp < 1024 && presents s.toChip src rq) (serve (spaceGoLive sp) src rq s.toChip) s

/-- SPACE_INVALIDATE (R56). -/
def execSpaceInvalidate (src : Src) (tag sp : Nat) (s : State) : Host.Outcome State Fault Refusal :=
  let rq := writeReq tag (0x3000 + sp) 2 (leBytes 1 3)
  event "SPACE_INVALIDATE" (sp < 1024 && presents s.toChip src rq) (react (serve (spaceInvalidate sp) src rq s.toChip)) s

/-- SPACE_RETIRE (R56). -/
def execSpaceRetire (src : Src) (tag sp : Nat) (s : State) : Host.Outcome State Fault Refusal :=
  let rq := writeReq tag (0x3000 + sp) 2 (leBytes 1 4)
  event "SPACE_RETIRE" (sp < 1024 && presents s.toChip src rq) (react (serve (spaceRetire sp) src rq s.toChip)) s

/-! Segment descriptor writes (R57, R58, R86, R88, R154). -/

/-- Is a CLASS allowed for a KIND (R59)? -/
def classOk (kind cls : Nat) : Bool :=
  if kind = 1 then 1 ≤ cls && cls ≤ 6 else if kind = 2 then cls == 0 else if kind = 3 then cls == 2 || cls == 4 else cls ≤ 6

/-- Does the range overlap another segment of the Space that is not UNUSED (R58)? -/
def segOverlaps (x : Space) (n : Nat) (s : Seg) : Bool :=
  x.segs.any fun o => o.1 != n && o.2.kind != 0 && overlaps s.start s.len o.2.start o.2.len

/-- The conditions of R58 that are RANGE for every kind. -/
def segRangeBad (x : Space) (n : Nat) (s : Seg) : Bool :=
  s.kind > 3 || s.grain > 7 || s.start % 4096 != 0 || s.len % 4096 != 0 || s.target % 4096 != 0
    || (s.kind != 0 && s.len == 0) || s.start + s.len > 2 ^ 56 || segOverlaps x n s || !classOk s.kind s.cls

/-- Has the unit a frame list of a grain size; in DOUBLET a list on either die is enough (R86)? -/
def grainListed (c : Chip) (grain : Nat) : Bool :=
  (upFrom 0 (if c.mode == .doublet then 8 else 4)).any fun i => (listRec c i).2.1 != 0 && (listRec c i).2.2 == grain

/-- RANGE by kind: a Fixed or Tiered target that leaves its class or meets a Geode region, a Faceted TARGET or FACET_COUNT, a Tiered range
that is no multiple of the grain or has no frame list. -/
def kindRangeBad (c : Chip) (s : Seg) : Bool :=
  if s.kind = 1 then targetBad c s.cls s.target s.len
  else if s.kind = 2 then s.target != 0 || s.facetCount < 1 || s.facetCount > 1048576
  else if s.kind = 3 then
    s.start % grainBytes s != 0 || s.len % grainBytes s != 0 || s.target + s.len > classTop s.cls
      || !grainListed c s.grain
  else false

/-- May a Tiered segment carry its TABLE_ID (R154): the table is DEFINED or SERVING for this Space and names the segment? -/
def tableIdOk (c : Chip) (sp n t : Nat) : Bool :=
  let x := getTable c t
  (x.state == 1 || x.state == 2) && tabSpace c t == sp && (tabRowSeg c t == n || tabEscSeg c t == n)

/-- RANGE by table (R154, R157): ROW_BYTES that does not divide the grain, an escape segment too short or of too small a grain. -/
def tableRangeBad (c : Chip) (n : Nat) (s : Seg) : Bool :=
  let t := s.tableId
  if tabRowSeg c t = n then grainBytes s % max 1 (tabRowBytes c t) != 0
  else
    let eb := escBytes (tabValues c t)
    s.len < tabEscSlots c t * eb || eb > grainBytes s

/-- Does a class need Port B in the pool role and lack it (R59)? -/
def poolMissing (c : Chip) (s : Seg) : Bool := (s.kind == 1 || s.kind == 3) && s.cls == 4 && !(getPort c .b).pool

/-- The READY table for this Space and segment, of the right COUNT (R58). -/
def readyFor (c : Chip) (sp n count : Nat) : Option ReadyTab :=
  match c.sp.load.ready with
  | some r => if r.space = sp && r.seg = n && r.tab.facets.length = count then some r else none
  | none => none

/-- A READY table breaks the checks that need the segment's LENGTH (R58). -/
def readyBad (c : Chip) (s : Seg) (r : ReadyTab) : Bool :=
  match r.tab.facets.getLast? with
  | some f => f.start ≥ s.len / 4096 || (f.cls != 0 && targetBad c f.cls (f.taddr * 4096) (s.len - f.start * 4096))
  | none => true

/-- The status of steps 8 to 10 of R34 of a descriptor write; 0 when it is accepted but for a map. -/
def segStatus (c : Chip) (sp n : Nat) (s : Seg) : Nat :=
  let x := getSpace c sp
  let tiered := s.kind == 3
  let named := tiered && s.tableId != 0
  let tabOk := named && tableIdOk c sp n s.tableId
  if segRangeBad x n s || kindRangeBad c s || (tabOk && tableRangeBad c n s) then 5
  else if !(x.state == 1 || x.state == 2) || poolMissing c s || (named && !tabOk) || (tiered && s.sealed && c.sec.ten.xts.isNone)
      || (s.kind == 2 && (readyFor c sp n s.facetCount).isNone) then 7
  else if s.kind = 2 && ((readyFor c sp n s.facetCount).map fun r => readyBad c s r).getD false then 5
  else if withdrawing c sp || (tiered && c.geo.build.state == 1) then 6
  else 0

/-- Release runs and frames at once. -/
def releaseNow (c : Chip) (runs frames : List Nat) : Chip := frames.foldl freeFrame (runs.foldl spFree c)

/-- An accepted change takes effect: at once in BUILDING (R56), by a hard bump in LIVE (R80). -/
def segTake (c : Chip) (sp n : Nat) (s : Seg) : Chip :=
  if (getSpace c sp).state = 1 then
    let w := applyChange c sp (getSpace c sp).gen (.seg n s)
    releaseNow w.1 w.2.1 w.2.2
  else requestBump c sp true .software (.seg n s)

/-- Start a map build (R88); STATE with REASON 5 when the structure pool has no run. -/
def buildMap (c : Chip) (sp n : Nat) (s : Seg) : Nat × Chip :=
  let bytes := roundUp (8 * grainCount s) 0x200000
  match spAlloc c bytes with
  | none =>
    let c := stat c 0x7035 8 1
    (7, { c with geo := { c.geo with build := { c.geo.build with state := 3, reason := 5, space := sp, seg := n, filled := 0 } } })
  | some (a, c) =>
    let b : MapBuild := ⟨1, 0, sp, n, 0, { s with tableBase := a }, a, bytes⟩
    let c := { c with geo := { c.geo with build := b } }
    (0, if (getSpace c sp).state = 2 then modSpace c sp fun x => { x with wStat := 1 } else c)

/-- A segment descriptor write (R56, R58, R86, R88, R154). -/
def segWrite (sp n v : Nat) (c : Chip) : Nat × Chip :=
  let s := segOf v
  let st := segStatus c sp n s
  if st != 0 then (st, c)
  else if s.kind = 3 then buildMap c sp n s
  else if s.kind = 2 then (0, segTake (acceptTab c sp n) sp n s)
  else (0, segTake c sp n s)

/-- SEGMENT_DESCRIPTOR_WRITE (R58). -/
def execSegmentDescriptorWrite (src : Src) (tag sp n : Nat) (payload : Bytes) (s : State) : Host.Outcome State Fault Refusal :=
  let rq := writeReq tag (0x3000 + sp) (0x10 + n) payload
  event "SEGMENT_DESCRIPTOR_WRITE" (sp < 1024 && n < 16 && presents s.toChip src rq)
    (react (serve (segWrite sp n (leNat payload)) src rq s.toChip)) s

/-! The drain alert and ATS invalidations (R78, R82). -/

/-- The withdrawal of a bump is past the Drain alert time (R82); the alert is raised once. -/
def dueDrainAlert (i t : Nat) (c : Chip) : Bool :=
  match getBump c i with
  | some b => !b.alerted && b.since + obj c 0x3400 2 ≤ nowAt c t
  | none => false

/-- DRAIN_ALERT_EXPIRY (R82): an Alert of source 177; the withdrawal continues. -/
def execDrainAlertExpiry (id t : Nat) (s : State) : Host.Outcome State Fault Refusal :=
  let c := modBump (advance s.toChip t) id fun x => { x with alerted := true }
  let sp := ((getBump s.toChip id).map fun b => b.space).getD 0
  eventOn 2 "DRAIN_ALERT_EXPIRY" (dueDrainAlert id t s.toChip) (raiseEv c 177 sp 2 0) s

/-- The Spaces listed and Space 0. -/
def spaceTags (c : Chip) : List Nat := 0 :: (c.sp.spaces.map (·.1)).filter (· != 0)

/-- The LIVE Spaces that an ATS invalidation applies to (R78). -/
def atsTargets (c : Chip) (p : HPort) (pasid : Option Nat) : List Nat :=
  (spaceTags c).filter fun sp =>
    (getSpace c sp).state == 2 && svaPort c sp == p &&
    match pasid with
    | some x => svaEn c sp && svaPasid c sp == x
    | none => true

/-- An ATS Invalidate Request (R78): a hard bump of every Space it applies to; with none, the completion is sent at once. -/
def atsInvalidate (p : HPort) (itag : Nat) (pasid : Option Nat) (c : Chip) : Chip :=
  let ts := atsTargets c p pasid
  if ts.isEmpty then emit c (.invalidateDone p itag 1)
  else
    let c := { c with sp := { c.sp with invQueued := setTwo c.sp.invQueued p (two c.sp.invQueued p + 1) } }
    ts.foldl (fun c sp => requestBump c sp true (.ats p itag) .none) c

/-- ATS_INVALIDATE_REQUEST (R78): up to 32 are queued per port. -/
def execAtsInvalidateRequest (p : HPort) (itag : Nat) (pasid : Option Nat) (s : State) : Host.Outcome State Fault Refusal :=
  event "ATS_INVALIDATE_REQUEST" (linkIsUp s.toChip p && itag < 32 && two s.sp.invQueued p < 32)
    (react (atsInvalidate p itag pasid s.toChip)) s

/-! Facet loads (R63, R64). -/

/-- Replace the facet loader. -/
def setLoad (c : Chip) (l : FacetLoad) : Chip := { c with sp := { c.sp with load := l } }

/-- The installed table of a Faceted segment. -/
def installedTab (c : Chip) (sp n : Nat) : Option FacetTab :=
  if (getSeg (getSpace c sp) n).kind = 2 then tget (getSpace c sp).tabs n else none

/-- Fields of object 0x3410.01 outside their ranges (R63, R64). -/
def loadRangeBad (v : Nat) : Bool :=
  let fill := fld v 3 1 == 1
  let count := fld v 8 4
  fld v 0 2 > 1023 || fld v 2 1 > 15 || fld v 3 1 > 1 || fld v 12 1 > 1 || fld v 16 8 % 16 != 0 || count == 0
    || (!fill && (fld v 4 4 != 0 || count > 1048576))

/-- The table a FILL would leave past its end (R64). -/
def fillPastEnd (c : Chip) (v : Nat) : Bool :=
  fld v 3 1 == 1 && ((installedTab c (fld v 0 2) (fld v 2 1)).map fun (t : FacetTab) => decide (fld v 4 4 + fld v 8 4 > t.facets.length)).getD false

/-- A facet load request (R63, R64): checked, then the read of the list begins. A BUILD discards the READY table. -/
def facetLoad (v : Nat) (c : Chip) : Nat × Chip :=
  let fill := fld v 3 1 == 1
  if loadRangeBad v then (5, c)
  else if fill && (installedTab c (fld v 0 2) (fld v 2 1)).isNone then (7, c)
  else if fillPastEnd c v then (5, c)
  else if c.sp.load.state = 1 then (6, c)
  else
    let old := c.sp.load.ready
    let c := match old with
      | some r => if fill then c else spFree c r.tab.base
      | none => c
    let p := portOf (fld v 12 1 == 1)
    let l : FacetLoad := ⟨1, 0, 0, fill, fld v 0 2, fld v 2 1, fld v 4 4, fld v 8 4, fld v 12 1 == 1, fld v 16 8, if fill then old else none⟩
    (0, emit (setLoad c l) (.hostRead p (fld v 16 8) (fld v 8 4 * 16)))

/-- FACET_LOAD_BUILD (R63, R64). -/
def execFacetLoadBuild (src : Src) (tag : Nat) (payload : Bytes) (s : State) : Host.Outcome State Fault Refusal :=
  let rq := writeReq tag 0x3410 1 payload
  event "FACET_LOAD_BUILD" (presents s.toChip src rq) (serve (facetLoad (leNat payload)) src rq s.toChip) s

/-- FACET_LOAD_FILL (R63, R64). -/
def execFacetLoadFill (src : Src) (tag : Nat) (payload : Bytes) (s : State) : Host.Outcome State Fault Refusal :=
  let rq := writeReq tag 0x3410 1 payload
  event "FACET_LOAD_FILL" (presents s.toChip src rq) (serve (facetLoad (leNat payload)) src rq s.toChip) s

/-- REASON 2 or 3 of one facet (R61, R64); its extent in granules, none for the last facet of a BUILD, whose extent the Faceted write checks
(R58). A POOL facet while Port B is not in the pool role is REASON 2 (DESIGN CHOICE, log 113: R59 says STATE, which a load has not). -/
def facetReason (c : Chip) (f : Facet) (gran : Option Nat) : Nat :=
  if f.cls > 6 || (f.portB && f.cls != 2) || (f.cls == 4 && !(getPort c .b).pool) then 2
  else if f.taddr ≥ 2 ^ 48 then 3
  else match gran with
  | some n => if f.cls != 0 && targetBad c f.cls (f.taddr * 4096) (n * 4096) then 3 else 0
  | none => 0

/-- The first failing facet of a BUILD and its reason: order, then class, then range (R64). -/
def buildBad (c : Chip) (k : Nat) (prev : Option Nat) : List Facet → Option (Nat × Nat)
  | [] => none
  | f :: r =>
    let order := match prev with | none => f.start != 0 | some p => f.start ≤ p
    let gran := r.head?.map fun g => g.start - f.start
    let why := if order then 1 else facetReason c f gran
    if why != 0 then some (why, k) else buildBad c (k + 1) (some f.start) r

/-- The first failing facet of a FILL: not absent or another START, then class, then range (R64). -/
def fillBad (c : Chip) (t : FacetTab) (segLen k : Nat) : List Facet → Option (Nat × Nat)
  | [] => none
  | f :: r =>
    let top := ((t.facets[k + 1]?).map fun g => g.start).getD (segLen / 4096)
    let keeps := ((t.facets[k]?).map fun o => o.cls == 0 && o.start == f.start).getD false
    let why := if !keeps then 4 else facetReason c f (some (top - f.start))
    if why != 0 then some (why, k) else fillBad c t segLen (k + 1) r

/-- A load fails. -/
def loadFail (c : Chip) (reason i : Nat) : Chip := setLoad c { c.sp.load with state := 3, reason := reason, index := i }

/-- The facets of a BUILD have arrived: a READY table in a fresh run, or a failure (R64). -/
def buildDone (c : Chip) (fs : List Facet) : Chip :=
  let l := c.sp.load
  match buildBad c 0 none fs with
  | some (why, k) => loadFail c why k
  | none => match spAlloc c (16 * fs.length) with
    | none => loadFail (stat c 0x7035 8 1) 5 0
    | some (a, c) => setLoad c { l with state := 2, ready := some ⟨l.space, l.seg, ⟨a, roundUp (16 * fs.length) 0x200000, fs⟩⟩ }

/-- The facets of a FILL have arrived: they replace the ABSENT ones in place, or none changes (R64). STATE then reads READY, whether or not a
BUILD's table is READY (DESIGN CHOICE, log 114: the spec names no other end of a load that succeeds). -/
def fillDone (c : Chip) (fs : List Facet) : Chip :=
  let l := c.sp.load
  match installedTab c l.space l.seg with
  | none => loadFail c 4 l.first
  | some t => match fillBad c t (getSeg (getSpace c l.space) l.seg).len l.first fs with
    | some (why, k) => loadFail c why k
    | none =>
      let t' := { t with facets := t.facets.take l.first ++ fs ++ t.facets.drop (l.first + fs.length) }
      setLoad (modSpace c l.space fun x => { x with tabs := tset x.tabs l.seg t' }) { l with state := 2 }

/-- The read of the facet list ends (R64): any result but the data is a bus error. -/
def facetLoadDone (r : RdResult) (c : Chip) : Chip :=
  let c := logRead c (portOf c.sp.load.portB) r
  match r with
  | .data bs =>
    if c.sp.load.fill then fillDone c (facetsOf bs c.sp.load.count) else buildDone c (facetsOf bs c.sp.load.count)
  | _ => loadFail c 6 0

/-- Is a read result possible for `n` bytes asked: its data has that many bytes? -/
def rdFits (r : RdResult) (n : Nat) : Bool := match r with | .data bs => bs.length == n | _ => true

/-- FACET_LOAD_COMPLETE (R64). -/
def execFacetLoadComplete (r : RdResult) (s : State) : Host.Outcome State Fault Refusal :=
  let l := s.sp.load
  event "FACET_LOAD_COMPLETE" (l.state == 1 && rdFits r (16 * l.count)) (react (facetLoadDone r s.toChip)) s

end Sys2Proof.Machine
end

