-- ==== Sys2Proof/Machine/Xts.lean ====
section
/-! DEFINITION. AES-256 in XTS mode (IEEE 1619), the cipher of sealed spill (R99). -/

namespace Sys2Proof.Machine

/-! AES-256. A block is a list of 16 bytes as numbers, first byte first. -/

/-- Multiplication by x in the field of AES. -/
def aesX (a : Nat) : Nat := if a < 128 then 2 * a else (2 * a - 256) ^^^ 0x1B

/-- Multiplication in the field of AES, over the 8 bits of `b`. -/
def aesMul (a b : Nat) : Nat :=
  let r := (upFrom 0 8).foldl (fun (r : Nat × Nat) i => (if bit b i then r.1 ^^^ r.2 else r.1, aesX r.2)) (0, a)
  r.1

/-- The inverse in the field of AES, a^254; 0 for 0. -/
def aesInv (a : Nat) : Nat :=
  let a2 := aesMul a a
  let a4 := aesMul a2 a2
  let a8 := aesMul a4 a4
  let a16 := aesMul a8 a8
  let a32 := aesMul a16 a16
  let a64 := aesMul a32 a32
  let a128 := aesMul a64 a64
  aesMul (aesMul (aesMul a2 a4) (aesMul a8 a16)) (aesMul (aesMul a32 a64) a128)

/-- Rotate a byte left. -/
def rotl8 (a n : Nat) : Nat := (a * 2 ^ n) % 256 + a / 2 ^ (8 - n)

/-- The substitution of AES. -/
def aesSub (a : Nat) : Nat :=
  let b := aesInv a
  b ^^^ rotl8 b 1 ^^^ rotl8 b 2 ^^^ rotl8 b 3 ^^^ rotl8 b 4 ^^^ 0x63

/-- The inverse substitution. -/
def aesUnsub (a : Nat) : Nat := aesInv (rotl8 a 1 ^^^ rotl8 a 3 ^^^ rotl8 a 6 ^^^ 0x05)

/-- Exclusive or of two blocks. -/
def xorList (a b : List Nat) : List Nat := (a.zip b).map fun p => p.1 ^^^ p.2

/-- The key schedule of AES-256: 60 words of 4 bytes; the words are built newest first. -/
def aesWords : Nat → List (List Nat) → List (List Nat)
  | 0, ws => ws
  | f + 1, ws =>
    let i := ws.length
    let t := ws.headD []
    let t := if i % 8 = 0 then
        let r := ((t.drop 1) ++ t.take 1).map aesSub
        xorList r [((upFrom 1 (i / 8 - 1)).foldl (fun x _ => aesX x) 1), 0, 0, 0]
      else if i % 8 = 4 then t.map aesSub else t
    aesWords f (xorList (ws.getD 7 []) t :: ws)

/-- The 15 round keys of a 32-byte key. -/
def aesKeys (k : List Nat) : List (List Nat) :=
  let ws := (aesWords 52 ((upFrom 0 8).map fun i => (k.drop (4 * i)).take 4).reverse).reverse
  (upFrom 0 15).map fun r => ((ws.drop (4 * r)).take 4).flatten

/-- Byte (row, column) of a block. -/
def aesAt (b : List Nat) (r c : Nat) : Nat := b.getD (4 * c + r) 0

/-- Shift the rows left by `k` times their number. -/
def aesShift (k : Nat) (b : List Nat) : List Nat := (upFrom 0 16).map fun i => aesAt b (i % 4) ((i / 4 + k * (i % 4)) % 4)

/-- Mix the columns with the first row of a circulant matrix. -/
def aesMix (m : List Nat) (b : List Nat) : List Nat :=
  (upFrom 0 16).map fun i => (upFrom 0 4).foldl (fun x j => x ^^^ aesMul (aesAt b j (i / 4)) (m.getD ((j + 4 - i % 4) % 4) 0)) 0

/-- Encrypt a block. -/
def aesEnc (k b : List Nat) : List Nat :=
  let ks := aesKeys k
  let b := (upFrom 1 13).foldl (fun b r => xorList (aesMix [2, 3, 1, 1] (aesShift 1 (b.map aesSub))) (ks.getD r [])) (xorList b (ks.getD 0 []))
  xorList (aesShift 1 (b.map aesSub)) (ks.getD 14 [])

/-- Decrypt a block. -/
def aesDec (k b : List Nat) : List Nat :=
  let ks := aesKeys k
  let b := (upFrom 1 13).foldl (fun b r => aesMix [14, 11, 13, 9] (xorList ((aesShift 3 b).map aesUnsub) (ks.getD (14 - r) [])))
    (xorList b (ks.getD 14 []))
  xorList ((aesShift 3 b).map aesUnsub) (ks.getD 0 [])

/-! XTS. -/

/-- Bytes of a number as numbers, lowest first. -/
def leNats (n v : Nat) : List Nat := (leBytes n v).map BitVec.toNat

/-- The value of a list of bytes, lowest first. -/
def natOf : List Nat → Nat
  | [] => 0
  | b :: r => b + 256 * natOf r

/-- Multiplication of a tweak by α. -/
def xtsX (t : Nat) : Nat := if t < 2 ^ 127 then 2 * t else (2 * t - 2 ^ 128) ^^^ 0x87

/-- The mask of the 16-byte block at a DVA: the encrypted tweak of its 4 KiB data unit, times α to the block's number (R99). The key pair is
64 bytes: the data key, then the tweak key. -/
def xtsMask (pair dva : Nat) : Nat :=
  let t := natOf (aesEnc (leNats 32 (pair / 2 ^ 256)) (leNats 16 (dva / 4096 * 4096 % 2 ^ 56)))
  (upFrom 0 (dva % 4096 / 16)).foldl (fun t _ => xtsX t) t

/-- Encrypt or decrypt one block at a DVA. -/
def xtsBlock (dec : Bool) (pair dva : Nat) (b : List Nat) : List Nat :=
  let m := leNats 16 (xtsMask pair dva)
  let k := leNats 32 pair
  xorList (if dec then aesDec k (xorList b m) else aesEnc k (xorList b m)) m

/-- Encrypt or decrypt whole blocks from a DVA. -/
def xtsRun (dec : Bool) (pair : Nat) : Nat → Nat → Bytes → Bytes
  | 0, _, _ => []
  | n + 1, dva, bs =>
    (xtsBlock dec pair dva ((bs.take 16).map BitVec.toNat)).map (BitVec.ofNat 8) ++ xtsRun dec pair n (dva + 16) (bs.drop 16)

/-- Seal whole 16-byte blocks that begin at a DVA (R99). -/
def xtsSeal (pair dva : Nat) (bs : Bytes) : Bytes := xtsRun false pair (bs.length / 16) dva bs

/-- Open whole 16-byte blocks that begin at a DVA (R99). -/
def xtsOpen (pair dva : Nat) (bs : Bytes) : Bytes := xtsRun true pair (bs.length / 16) dva bs

end Sys2Proof.Machine
end

