-- ==== Sys2Proof/Machine/Requests.lean ====
section
/-! DEFINITION. The requests of strokes (R114, R117, R122, R123, R132, R145): cutting a region into requests, the data path from reads to writes,
and the presentation of requests under the tracker, the stroke buffer and the ports. -/

namespace Sys2Proof.Machine

/-! Requests of a region (R122, R123, R265). -/

/-- The completion timeout of reads on a port (R316). -/
def readTimeout (c : Chip) (p : HPort) : Nat :=
  let v := obj c (0x1210 + portNo p) 0xB
  let k := (getPort c p).cfg.ctv
  if k = 1 then max 50000 (min 100000 v) else if k = 2 then max 1000000 (min 10000000 v) else max 50000 (min 50000000 v)

/-- Bytes that one request on a route can carry from an address. -/
def reqRoom (c : Chip) (write : Bool) (route a : Nat) : Nat :=
  match routePort route with
  | some p =>
    let cfg := (getPort c p).cfg
    min (if write then min 512 cfg.mps else min 4096 cfg.mrrs) (4096 - a % 4096)
  | none => if route = 7 then min 2048 (4096 - a % 4096) else 128 - a % 128

/-- Cut an extent into requests: (address, length, offset in the extent). -/
def reqSplit (c : Chip) (write : Bool) (route : Nat) : Nat → Nat → Nat → Nat → List (Nat × Nat × Nat)
  | 0, _, _, _ => []
  | f + 1, a, n, o =>
    if n = 0 then []
    else
      let k := max 1 (min n (reqRoom c write route a))
      (a, k, o) :: reqSplit c write route f (a + k) (n - k) (o + k)

/-- The DVA of a far address of a sealed entry: START + (ADDR − TARGET) of its segment (R69, R99). -/
def sealDva (c : Chip) (sp seg route a : Nat) : Nat :=
  let has := fun (s : Seg) => s.kind == 3 && farRoute s == route && s.target ≤ a && a < s.target + s.len
  let x := getSpace c sp
  let s := if has (getSeg x seg) then getSeg x seg else ((x.segs.find? fun s => has s.2).map (·.2)).getD Seg.reset
  s.start + (a - s.target)

/-- The attributes RO and IDO of a host request (R123, R313). -/
def hostAttrs (c : Chip) (p : HPort) (b : Nat) (write : Bool) : Bool × Bool :=
  let cfg := (getPort c p).cfg
  let strict := obj c (0x1210 + portNo p) 7 == 1
  let beat := write && sFixed0 b .dst
  (!strict && !beat && !(write && dNoRo b) && cfg.roEn, !strict && !beat && cfg.idoEn)

/-- One request of an entry, over the bytes `[a, a + n)` of its route, of which those from `skip` on, `take` of them, are its part of the stream
at `off`. The data of a write is given when the request is presented. -/
def mkReq (c : Chip) (sd : SetDesc) (seg ch k : Nat) (write : Bool) (e : Entry) (a n skip take off : Nat) : XReq :=
  let at_ := (routePort e.route).map fun p => hostAttrs c p sd.body write
  { id := 0, ch := ch, sd := sd.id, k := k, write := write, route := e.route, addr := a, len := n, skip := skip, take := take, off := off,
    data := [], ro := (at_.map (·.1)).getD false, ido := (at_.map (·.2)).getD false, ns := nsAt e off, sealed := e.sealed,
    dva := if e.sealed then sealDva c sd.space seg e.route a else 0, limit := 0 }

/-- The requests of one entry for the part of the span `[lo, lo + n)` of the side's stream that it holds; a sealed read is widened to its
enclosing 16-byte blocks before it is cut (R99, R122). -/
def entryReqs (c : Chip) (sd : SetDesc) (seg ch k : Nat) (write : Bool) (lo n : Nat) (e : Entry) : List XReq :=
  let a := max lo e.logical
  let z := min (lo + n) (e.logical + e.len)
  if z ≤ a then []
  else
    let b0 := e.addr + (a - e.logical)
    let b1 := b0 + (z - a)
    let w0 := if e.sealed && !write then b0 / 16 * 16 else b0
    let w1 := if e.sealed && !write then roundUp b1 16 else b1
    (reqSplit c write e.route (w1 - w0) w0 (w1 - w0) 0).map fun r =>
      let x := max b0 r.1
      mkReq c sd seg ch k write e r.1 r.2.1 (x - r.1) (min b1 (r.1 + r.2.1) - x) (a + (x - b0))

/-- The requests of a side's span. -/
def sideReqs (c : Chip) (sd : SetDesc) (r : Region) (ch k : Nat) (write : Bool) (lo n : Nat) : List XReq :=
  r.entries.flatMap (entryReqs c sd r.seg ch k write lo n)

/-- The reads of stroke `k`: none for a ZERO or PATTERN source (R117). -/
def strokeReads (c : Chip) (sd : SetDesc) (ch k : Nat) : List XReq :=
  if dSrcKind sd.body != 0 then []
  else
    let s := strokeSpan sd.body .src k
    sideReqs c sd sd.src ch k false s.1 s.2

/-- The writes of stroke `k`, in stream order. -/
def strokeWrites (c : Chip) (sd : SetDesc) (ch k : Nat) : List XReq :=
  let s := strokeSpan sd.body .dst k
  sideReqs c sd sd.dst ch k true s.1 s.2

/-! The data path (R114). -/

/-- Insert a piece of read data by its stream offset. -/
def putPiece (o : Nat) (bs : Bytes) : List (Nat × Bytes) → List (Nat × Bytes)
  | [] => [(o, bs)]
  | p :: r => if o < p.1 then (o, bs) :: p :: r else p :: putPiece o bs r

/-- The source bytes of a stroke whose reads have all returned. -/
def pieceBytes (ps : List (Nat × Bytes)) : Bytes := ps.flatMap (·.2)

/-- The bytes of a ZERO or PATTERN source (R117). -/
def patternBytes (b lo n : Nat) : Bytes :=
  (upFrom lo n).map fun k => if dSrcKind b = 2 then BitVec.ofNat 8 (fld (bits b 256 64) (k % 8) 1) else 0

/-- SCALE of entry `i` of bank `b` (R144). -/
def bankEntry (c : Chip) (b i : Nat) : Nat := tgetD c.xf.banks (b * 1024 + i % 1024) 0x3F800000

/-- Write entry `i` of bank `b`. -/
def setBank (c : Chip) (b i v : Nat) : Chip :=
  { c with xf := { c.xf with banks := tput c.xf.banks 0x3F800000 (b * 1024 + i % 1024) (v % 2 ^ 32) } }

/-- The scales that a stroke reads when it issues: none, the UNIFORM entry, or the whole bank for BY_I1 (R142, R145). -/
def issueScales (c : Chip) (b : Nat) : List Nat :=
  if !dConverts b || dScaleSel b = 0 then []
  else if dScaleSel b = 1 then [bankEntry c (dBank b) (dScaleIdx b)]
  else (upFrom 0 1024).map (bankEntry c (dBank b))

/-- The scale of the value that begins at byte `o` of the source stream (R142). -/
def valueScale (b : Nat) (scales : List Nat) (o : Nat) : Nat :=
  if dScaleSel b = 0 then 0x3F800000
  else if dScaleSel b = 1 then scales.headD 0x3F800000
  else scales.getD ((dScaleIdx b + dim1At b o) % 1024) 0x3F800000

/-- Convert the source bytes of a stroke that begins at byte `lo` of the source stream (R138 to R149). -/
def strokeConvert (c : Chip) (b : Nat) (scales : List Nat) (lo : Nat) (src : Bytes) : ConvResult :=
  let w := fmtBits (dSrcFmt b)
  let vals := (unpackCodes (dSrcFmt b) src).zipIdx.map fun v => (v.1, valueScale b scales (lo + v.2 * w / 8))
  let ps := 0x3710 + dPset b
  convertStroke (dSrcFmt b) (dDstFmt b) (dOvf b) (dScaleSel b) (dPolicy b) (obj c ps 1) (obj c ps 2) (obj c ps 3)
    (if dScaleSel b = 1 then scales.headD 0x3F800000 else 0x3F800000) vals

/-- A stroke whose every source byte is there: its destination bytes, and the results of its conversion (R114). -/
def strokeWhole (c : Chip) (b : Nat) (x : Stroke) : Stroke :=
  let s := strokeSpan b .src x.k
  let d := strokeSpan b .dst x.k
  if dSrcKind b != 0 then { x with ready := patternBytes b d.1 d.2 }
  else
    let src := shuffleSrc (dShuffle b) (dWays b) (dUnit b) (dCodeBits b) (pieceBytes x.data)
    let out := shuffleDst (dShuffle b) (dWays b) (dUnit b) (dCodeBits b)
    if !dConverts b then { x with ready := out src }
    else
      let r := strokeConvert c b x.scales s.1 src
      let redo := match r.redo with | .none => 0 | .wide => 1 | .rescaled => 2
      { x with ready := out r.data, trip := r.trip, redo := redo, sat := r.cnt.sat, unf := r.cnt.unf, nan := r.cnt.nan, vals := r.vals, scale := r.scale }

/-- Does a stroke hold its writes until every read has returned: it is shuffled, or its policy may redo it (R114, R146)? -/
def strokeHeld (b : Nat) : Bool := dShuffle b != 0 || (dConverts b && dPolicy b != 0)

/-- The source bytes that are there from a stream position on without a gap. -/
def prefixBytes : Nat → List (Nat × Bytes) → Bytes
  | _, [] => []
  | o, p :: r => if p.1 = o then p.2 ++ prefixBytes (o + p.2.length) r else []

/-- A stroke some of whose source bytes are there: the destination bytes of the whole values before the first gap (R113, R146). -/
def strokePart (c : Chip) (b : Nat) (x : Stroke) : Stroke :=
  let lo := (strokeSpan b .src x.k).1
  let src := prefixBytes lo x.data
  if strokeHeld b then x
  else if !dConverts b then { x with ready := src }
  else
    let u := 8 * fmtBits (dSrcFmt b)
    let n := src.length / u * u
    { x with ready := (strokeConvert c b x.scales lo (src.take n)).data }

/-- New source bytes have come: what can be written grows, and the reading is over with the last of them. -/
def refreshStroke (c : Chip) (b : Nat) (x : Stroke) : Stroke :=
  if x.phase != .reading || x.err != 0 || x.aborted then x
  else if x.todo.isEmpty && x.reads = 0 then { strokeWhole c b x with phase := .writing, data := [] }
  else strokePart c b x

/-! Strokes of a channel. -/

/-- Change an issued stroke. -/
def modStroke (c : Chip) (ch sd k : Nat) (f : Stroke → Stroke) : Chip :=
  modChan c ch fun x => { x with strokes := lmod x.strokes (fun s => s.sd == sd && s.k == k) f }

/-- An issued stroke. -/
def getStroke (c : Chip) (ch sd k : Nat) : Option Stroke := (getChan c ch).strokes.find? fun s => s.sd == sd && s.k == k

/-- Stroke-buffer bytes that a channel holds (R113): from the presentation of a read to that of the write of what it brought. -/
def chanHeld (c : Chip) (ch : Nat) : Nat := (getChan c ch).strokes.foldl (fun n s => n + s.held) 0

/-- The wider-side bytes of `n` bytes of a side. -/
def heldOf (b : Nat) (s : Side) (n : Nat) : Nat := n * wideWidth b / sideWidth b s

/-- Outstanding requests of a channel (object 0x3600+c.08). -/
def chanReqs (c : Chip) (ch : Nat) : Nat := (c.xf.reqs.filter fun r => r.2.ch == ch).length

/-- Entries of the shared 12,288 in use (R132). -/
def sharedUsed (c : Chip) : Nat := (c.xf.chans.map fun x => chanReqs c x.1 - 64).foldl (· + ·) 0

/-- Does a request hold a tracker entry (R132)? A posted host write does not. -/
def holdsEntry (r : XReq) : Bool := !(r.write && (routePort r.route).isSome)

/-- Can a channel take one more tracker entry (R132)? -/
def entryFree (c : Chip) (ch : Nat) : Bool :=
  let n := chanReqs c ch
  n < 64 || (n < 2048 && sharedUsed c < 12288)

/-- Does IDE keep the unit from issuing on a port (R389)? -/
def ideShut (c : Chip) (p : HPort) : Bool := fld (obj c 0x6010 1) (portNo p) 1 == 1 && !bit c.sec.spdm.streams (5 * portNo p)

/-- The error class of a request that its route cannot carry now, 0 when it can: CLASS 7 on a link that is down, BUS_ERROR on a port that may
not issue or a gateway that is off, CLASS 3 on a lost bridge (R126, R267, R318, R389). -/
def routeErr (c : Chip) (r : XReq) : Nat :=
  match routePort r.route with
  | some p => if !linkIsUp c p then 7 else if !canIssue c p || ideShut c p then 5 else 0
  | none => if r.route = 1 && !bridgeUp c then 3 else if r.route = 7 && (c.mode == .rough || !enabled c 7) then 5 else 0

/-- May a request be presented now: a tracker entry, and room in the stroke buffer for a read (R113, R132)? -/
def mayPresent (c : Chip) (b : Nat) (r : XReq) : Bool :=
  (!holdsEntry r || entryFree c r.ch) && (r.write || chanHeld c r.ch + heldOf b .src r.take ≤ 98304)

/-- The tick at which a request times out (R265, R316). -/
def reqLimit (c : Chip) (r : XReq) : Nat :=
  match routePort r.route with
  | some p => now c + readTimeout c p
  | none => now c + obj c 0x12F0 3

/-- A request goes out: it takes its entry and its buffer room, a write frees the room of what it carries; a posted host write is done (R79, R113,
R132). -/
def sendReq (c : Chip) (b : Nat) (r : XReq) : Chip :=
  let r := { r with id := c.xf.nextReq, limit := reqLimit c r }
  let c := { c with xf := { c.xf with nextReq := r.id + 1 } }
  let c := match routePort r.route with
    | some p => if r.write then stat c (0x7012 + portNo p) 1 r.len else c
    | none => if r.route = 7 then stat c 0x7048 4 1 else c
  let c := emit c (.request r (nocPort r.route r.addr))
  let c := modStroke c r.ch r.sd r.k fun s =>
    if r.write then { s with held := s.held - heldOf b .dst r.take } else { s with held := s.held + heldOf b .src r.take }
  if holdsEntry r then
    let c := modStroke c r.ch r.sd r.k fun s => { s with out := s.out + 1, reads := s.reads + b2n (!r.write) }
    let c := { c with xf := { c.xf with reqs := tset c.xf.reqs r.id r } }
    setObj c 0x7036 4 (max (obj c 0x7036 4) c.xf.reqs.length)
  else c

/-- The GFE's own context record (R243): its bytes are read as free values and take what is written, without a request. What a DIGEST reads ends
here too (R232). -/
def gfeRecord (c : Chip) (b : Nat) (r : XReq) : Chip :=
  if r.write then modStroke c r.ch r.sd r.k fun s => { s with held := s.held - heldOf b .dst r.take }
  else
    let v := (upFrom 0 ((r.take + 7) / 8)).foldl (fun (a : Bytes × Chip) _ =>
      let f := takeFree a.2 64
      (a.1 ++ leBytes 8 f.1, f.2)) ([], c)
    modStroke v.2 r.ch r.sd r.k fun s => { s with data := putPiece r.off (v.1.take r.take) s.data }

/-- The ports and the bridge that the writes of a stroke use. -/
def writePorts (rs : List XReq) : Nat × Bool :=
  rs.foldl (fun m r => match routePort r.route with | some p => (m.1 ||| portBit p, m.2) | none => (m.1, m.2 || r.route == 1)) (0, false)

/-- Note the ports that a node's strokes write (R80, R120, R188). A write across the bridge is behind a flush that is in flight (R277). -/
def noteWrites (c : Chip) (sd : SetDesc) (rs : List XReq) : Chip :=
  let w := writePorts rs
  let c := markWrote c sd.space sd.gen w.1
  match sd.owner with
  | .node q e n =>
    let c := if w.2 then { c with dbl := { c.dbl with flushFor := c.dbl.flushFor.filter (· != (q, e)) } } else c
    let h := (writePorts (rs.filter fun r => r.k ≤ halfStroke sd.body)).1
    modLaunch c q e fun l => { l with
      ports := l.ports ||| w.1, bridge := l.bridge || w.2
      nodes := tmod l.nodes n fun x => { x with ports := x.ports ||| w.1, halfPorts := x.halfPorts ||| h } }
  | _ => c

/-! The arbiters (R21, R132, R133). -/

/-- A request that a channel presents: the channel, its stroke's issue number, the request. -/
structure Head where
  ch : Nat
  seq : Nat
  body : Nat
  r : XReq
  deriving Repr, Inhabited

/-- The way a request leaves by: a NoC port 0 to 31, 32 the bridge, 33 and 34 the host ports, 35 the Peer Gateway, 36 the GFE's record. -/
def wayOut (r : XReq) : Nat :=
  match nocPort r.route r.addr with
  | some p => p
  | none => if r.route = 1 then 32 else if r.route = 3 || r.route = 5 then 33 else if r.route = 4 || r.route = 6 then 34 else if r.route = 7 then 35 else 36

/-- The bytes of a write that a stroke has ready, sealed as its entry says (R99, R114); none when some are not there yet. -/
def writeData (c : Chip) (b : Nat) (x : Stroke) (r : XReq) : Option Bytes :=
  let o := r.off - (strokeSpan b .dst x.k).1
  if x.ready.length < o + r.take then none
  else
    let d := (x.ready.drop o).take r.take
    some (if r.sealed then xtsSeal (c.sec.ten.xts.getD 0) r.dva d else d)

/-- The read that a channel presents: the next of its earliest stroke with reads left. -/
def readHead (c : Chip) (ch : Nat) : Option Head :=
  (getChan c ch).strokes.findSome? fun x =>
    if x.phase == .retry then none
    else match x.todo, getSd c x.sd with
    | r :: _, some sd => some ⟨ch, x.seq, sd.body, r⟩
    | _, _ => none

/-- The write that a channel presents: the next of its earliest stroke whose next write has its data. -/
def writeHead (c : Chip) (ch : Nat) : Option Head :=
  (getChan c ch).strokes.findSome? fun x =>
    if x.phase == .retry then none
    else match x.wtodo, getSd c x.sd with
    | r :: _, some sd => (writeData c sd.body x r).map fun d => ⟨ch, x.seq, sd.body, { r with data := d }⟩
    | _, _ => none

/-- What the channels present: each at most one read and one write (R133). -/
def heads (c : Chip) : List Head :=
  (c.xf.chans.filter fun x => !x.2.strokes.isEmpty).flatMap fun x => (readHead c x.1).toList ++ (writeHead c x.1).toList

/-- Can a request be granted now, or end its stroke with an error? -/
def canGo (c : Chip) (h : Head) : Bool := h.r.route == 8 || routeErr c h.r != 0 || mayPresent c h.body h.r

/-- Is a way out a host port in Strict Order (R125)? -/
def strictWay (c : Chip) (w : Nat) : Bool := (w == 33 && obj c 0x1210 7 == 1) || (w == 34 && obj c 0x1211 7 == 1)

/-- The channel that a way out grants, with the request: by plain rotation among the channels presenting to it (R133); on a port in Strict Order
the request issued first, which waits for itself alone (R125). A channel's read goes before its write. -/
def wayGrant (c : Chip) (hs : List Head) (w : Nat) : Option Head :=
  let mine := hs.filter fun h => wayOut h.r == w
  if strictWay c w then
    (mine.find? fun h => mine.all fun o => h.seq ≤ o.seq).bind fun h => if canGo c h then some h else none
  else (nextKey (tgetD c.xf.portPtr w 0) ((mine.filter (canGo c)).map (·.ch))).bind fun ch => (mine.filter (canGo c)).find? (·.ch == ch)

/-- The next request granted: of the requests that the ways out would grant, the one of the next channel in the rotation of the shared entries
(R21, R132). -/
def nextGrant (c : Chip) : Option Head :=
  let hs := heads c
  let gs := (upFrom 0 37).filterMap (wayGrant c hs)
  (nextKey c.xf.presentPtr (gs.map (·.ch))).bind fun ch => gs.find? (·.ch == ch)

/-- A request leaves its stroke's list. -/
def popReq (c : Chip) (r : XReq) : Chip :=
  modStroke c r.ch r.sd r.k fun s => if r.write then { s with wtodo := s.wtodo.drop 1 } else { s with todo := s.todo.drop 1 }

/-- A stroke takes what has come (R114). -/
def refreshAt (c : Chip) (ch sd k : Nat) : Chip :=
  match getSd c sd with
  | some d => modStroke c ch sd k (refreshStroke c d.body)
  | none => c

/-- Grant a request: the GFE's record answers at once, a route that cannot carry it is the stroke's error (R126), otherwise it goes out. -/
def grantReq (c : Chip) (h : Head) : Chip :=
  let r := h.r
  let c := { c with xf := { c.xf with presentPtr := r.ch + 1, portPtr := tset c.xf.portPtr (wayOut r) (r.ch + 1) } }
  if r.route = 8 then refreshAt (gfeRecord (popReq c r) h.body r) r.ch r.sd r.k
  else if routeErr c r != 0 then
    modStroke c r.ch r.sd r.k fun s => { s with todo := [], wtodo := [], err := routeErr c r, errRoute := r.route }
  else
    let c := match getSd c r.sd with
      | some sd => if r.write then noteWrites c sd [r] else c
      | none => c
    sendReq (popReq c r) h.body r

/-- Grant requests until none can go. -/
def presentLoop : Nat → Chip → Chip
  | 0, c => c
  | f + 1, c => match nextGrant c with
    | some h => presentLoop f (grantReq c h)
    | none => c

/-! The flush reads of marks (R120, R123). -/

/-- The zero-length read of a mark on a port: a request of its channel that belongs to no stroke. -/
def flushReq (c : Chip) (ch : Nat) (p : HPort) : XReq :=
  { id := c.xf.nextReq, ch := ch, sd := c.xf.nextSd, k := 2 ^ 60, write := false, route := 3 + portNo p, addr := 0, len := 0, skip := 0, take := 0, off := 0,
    data := [], ro := false, ido := false, ns := false, sealed := false, dva := 0, limit := now c + readTimeout c p }

/-- A port of a mark: its flush read goes out when the channel has a tracker entry; a port that cannot issue needs none (log 119). -/
def markPort (c : Chip) (l : Launch) (m : Mark) (p : HPort) : Chip :=
  let set := fun (c : Chip) (f : Mark → Mark) =>
    modLaunch c l.q l.e fun l => { l with marks := l.marks.map fun x => if x.n = m.n && x.half == m.half && x.old == m.old then f x else x }
  if routeErr c (flushReq c m.ch p) != 0 then set c fun x => { x with ports := x.ports.filter (· != p) }
  else if entryFree c m.ch then
    let r := flushReq c m.ch p
    let c := emit { c with xf := { c.xf with reqs := tset c.xf.reqs r.id r, nextReq := r.id + 1 } } (.request r none)
    set c fun x => { x with ports := x.ports.filter (· != p), reads := x.reads ++ [r.id] }
  else c

/-- The flush reads that raised marks wait for. -/
def markReads (c : Chip) : Chip :=
  c.pat.launches.foldl (fun c l => l.2.marks.foldl (fun c m => m.ports.foldl (fun c p => markPort c l.2 m p) c) c) c

/-- Present what the channels have waiting (R21, R120, R132, R133). -/
def presentAll (c : Chip) : Chip := markReads (presentLoop (2 ^ 50) c)

end Sys2Proof.Machine
end

