-- ==== Sys2Proof/Machine/Strokes.lean ====
section
/-! DEFINITION. The Transfer Engine's commands (R107, R113, R118 to R121, R126 to R131, R144, R149): binding, issue, responses, completion, errors,
pacing, marks, and the scale banks. -/

namespace Sys2Proof.Machine

/-! Binding (R107). -/

/-- Is the translation of an owner ready: a set descriptor with strokes to issue? -/
def sdReady (c : Chip) (o : Owner) : Bool := (sdsOf c o).any fun i => ((getSd c i).map fun sd => decide (sd.next < sd.hi)).getD false

/-- Is a node's pace met (R118)? -/
def paceMet (c : Chip) (x : NodeRt) : Bool :=
  if dPace x.body = 1 then x.paceOk || dPaceTick x.body ≤ now c else if dPace x.body = 3 then x.paceOk else true

/-- May a node be handed to the binder: ready, translated, paced, and its context may run (R107, R242)? -/
def bindable (c : Chip) (q e n : Nat) : Bool :=
  match (getLaunch c q e).bind fun l => (getNode l n).map fun x => (l, x) with
  | none => false
  | some (l, x) =>
    (if ofQueue q then mayRun c l else l.final == noFinal) && kindMove x.kind && x.st == .ready && paceMet c x
      && sdReady c (.node q e n) && !isBound c (.node q e n)

/-- The save or restore of a context that waits for a channel. -/
def unboundSave (c : Chip) (q e : Nat) : Option Owner :=
  [Owner.save q e, Owner.restore q e].find? fun o => sdReady c o && !isBound c o

/-- Bind a node, or count its wait when every eligible channel is full (R107, object 0x7036.05). -/
def bindNode (q e n : Nat) (c : Chip) : Chip :=
  match bestChan c (partChan c (.node q e n)) with
  | none => stat (modNode c q e n fun x => { x with bindWait := true }) 0x7036 5 1
  | some ch =>
    let c := passSwitch c q e
    bindTo (modNode c q e n fun x => { x with st := .bound, bindWait := false }) (.node q e n) ch

/-- Has a node counted its wait already? -/
def hasWaited (c : Chip) (q e n : Nat) : Bool := ((getLaunch c q e).bind fun l => (getNode l n).map fun x => x.bindWait).getD false

/-- NODE_BIND is due: a node that may bind finds a channel, or finds every channel full for the first time. Node number 8,192 stands for the
save or restore of the context. -/
def dueBind (q e n : Nat) (c : Chip) : Bool :=
  if n = 8192 then (unboundSave c q e).isSome && (bestChan c (canBind c)).isSome
  else bindable c q e n && ((bestChan c (partChan c (.node q e n))).isSome || !hasWaited c q e n)

/-- The effect of NODE_BIND. -/
def nodeBind (q e n : Nat) (c : Chip) : Chip :=
  if n = 8192 then (match unboundSave c q e with | some o => bindBest c o | none => c) else bindNode q e n c

/-- NODE_BIND (R107). -/
def execNodeBind (q e n : Nat) (s : State) : Host.Outcome State Fault Refusal :=
  eventOn 4 "NODE_BIND" (dueBind q e n s.toChip) (react (nodeBind q e n s.toChip)) s

/-! Issue (R113, R118, R123 to R125). -/

/-- Does FENCE let the stroke issue: only the first stroke waits, for every node bound earlier (R124)? -/
def fenceOk (c : Chip) (ch : Nat) (sd : SetDesc) : Bool :=
  !(dFence sd.body && sd.next == 0) || (getChan c ch).bound.head? == some sd.owner

/-- The ports in Strict Order that stroke `k` of a set descriptor touches (R125). -/
def strictPorts (c : Chip) (sd : SetDesc) (k : Nat) : List HPort :=
  let touches := fun (r : Region) (s : Side) (p : HPort) => r.entries.any fun e =>
    routePort e.route == some p && overlaps (strokeSpan sd.body s k).1 (strokeSpan sd.body s k).2 e.logical e.len
  [HPort.a, HPort.b].filter fun p => obj c (0x1210 + portNo p) 7 == 1 && (touches sd.src .src p || touches sd.dst .dst p)

/-- Has a channel a stroke in flight that touches one of the ports? -/
def strictBusy (c : Chip) (ch : Nat) (ps : List HPort) : Bool :=
  (getChan c ch).strokes.any fun s => ((getSd c s.sd).map fun sd => (strictPorts c sd s.k).any fun p => ps.contains p).getD false

/-- Can the first request of the next stroke be presented: a tracker entry and buffer room, or a route that answers with an error? -/
def firstFits (c : Chip) (ch : Nat) (sd : SetDesc) : Bool :=
  match strokeReads c sd ch sd.next with
  | [] => chanHeld c ch + (strokeSpan sd.body .dst sd.next).2 ≤ 98304
  | r :: _ => r.route = 8 || routeErr c r != 0 || mayPresent c sd.body r

/-- May a channel issue the next stroke of a set descriptor now? -/
def issueOk (c : Chip) (ch : Nat) (sd : SetDesc) : Bool :=
  fenceOk c ch sd && periodTick c sd ≤ now c
    && !((sFixed0 sd.body .src || sFixed0 sd.body .dst) && contigLen sd.body == 0 && strokesOf c sd.owner != 0)
    && !(strictBusy c ch (strictPorts c sd sd.next)) && firstFits c ch sd
    && (pullCost sd sd.next = 0 || ((1000 * pullCost sd sd.next : Nat) : Int) ≤ pullTokens c)

/-- A stroke before its requests, as it issues or is reissued: a stroke without reads has its data and its buffer room at once. -/
def freshStroke (c : Chip) (ch : Nat) (sd : SetDesc) (k seq retries : Nat) (scales : List Nat) : Stroke :=
  let rs := strokeReads c sd ch k
  refreshStroke c sd.body
    { sd := sd.id, k := k, seq := seq, phase := .reading, todo := rs, reads := 0, wtodo := strokeWrites c sd ch k, out := 0, data := [], ready := [],
      scales := scales, err := 0, errRoute := 0, retries := retries, aborted := false,
      held := if rs.isEmpty then heldOf sd.body .dst (strokeSpan sd.body .dst k).2 else 0, trip := false, redo := 0, sat := 0, unf := 0, nan := 0,
      vals := 0, scale := 0 }

/-- The converting stroke of a row reads its scale in entry 0 of its channel's bank, which Lapidary writes first (R162 step 6; one row is one
set descriptor, log 38). -/
def lapBank (c : Chip) (ch : Nat) (sd : SetDesc) : SetDesc × Chip :=
  match sd.owner with
  | .lap i => (match tget c.lap.items i with
    | some x =>
      if x.row.isNone then (sd, c)
      else
        let b := setBits sd.body 82 6 ch
        ({ sd with body := b }, modSd (setBank c ch 0 x.scale) sd.id fun y => { y with body := b })
    | none => (sd, c))
  | _ => (sd, c)

/-- Issue the next stroke (R113, R145): NEXT_STROKE advances and the first requests are presented. A node that is switched out leaves its channel
with the last stroke of a set descriptor that was already issuing (R74). -/
def issueStroke (c : Chip) (ch : Nat) (sd : SetDesc) : Chip :=
  let r := lapBank c ch sd
  let sd := r.1
  let c := if pullCost sd sd.next = 0 then r.2 else payPull r.2 (pullCost sd sd.next)
  let x := freshStroke c ch sd sd.next c.xf.nextStroke 0 (issueScales c sd.body)
  let c := { c with xf := { c.xf with nextStroke := x.seq + 1 } }
  let c := modSd c sd.id fun y => { y with next := y.next + 1, live := y.live + 1 }
  let c := match sd.owner with
    | .node q e n => modNode c q e n fun y => { y with next := sd.next + 1, t0 := if sd.next = 0 then now c + 1 else y.t0 }
    | _ => c
  let c := presentAll (modChan c ch fun y => { y with strokes := y.strokes ++ [x] })
  let c := match sd.owner with
    | .node q e n => if ((getLaunch c q e).bind fun l => (getNode l n).map fun y => y.out).getD false then leaveIdle c q e n else c
    | _ => c
  settleChan c ch

/-- STROKE_ISSUE (R113). -/
def execStrokeIssue (ch : Nat) (s : State) : Host.Outcome State Fault Refusal :=
  let c := s.toChip
  let sd := nextIssue c ch
  let due := ch < 64 && (getChan c ch).state == 1 && chanInService c ch && (sd.map fun x => issueOk c ch x).getD false
  eventOn 4 "STROKE_ISSUE" due (match sd with | some x => react (issueStroke c ch x) | none => c) s

/-! Responses (R132). -/

/-- A request leaves the tracker, and its stroke takes the answer; an answer to an aborted stroke is discarded. -/
def settleReq (c : Chip) (r : XReq) (f : Stroke → Stroke) : Chip :=
  let c := { c with xf := { c.xf with reqs := tdel c.xf.reqs r.id } }
  modStroke c r.ch r.sd r.k fun s =>
    let s := { s with out := s.out - 1, reads := s.reads - b2n (!r.write) }
    if s.aborted then s else f s

/-- A request fails with a CLASS of R126: the stroke presents no more. -/
def failReq (c : Chip) (r : XReq) (cls : Nat) : Chip :=
  settleReq c r fun s => if s.err = 0 then { s with err := cls, errRoute := r.route, todo := [], wtodo := [] } else s

/-- The read data of a request, sealed data opened and trimmed to the row's bytes (R99, R114). -/
def readData (c : Chip) (r : XReq) (bs : Bytes) : Bytes :=
  ((if r.sealed then xtsOpen (c.sec.ten.xts.getD 0) r.dva bs else bs).drop r.skip).take r.take

/-- The CLASSES that a route can answer (R126). -/
def clsPossible (r : XReq) (cls : Nat) : Bool :=
  match routePort r.route with
  | some _ => cls == 5 || cls == 6
  | none => if r.route = 7 then cls == 4 || cls == 6 else if r.route = 1 then cls == 3 || cls == 6 else cls == 1 || cls == 6

/-- Can the answer be one to this request? -/
def answerFits (r : XReq) (a : ReqAnswer) : Bool :=
  match a with
  | .data bs => !r.write && bs.length == r.len
  | .ack => r.write
  | .err cls => clsPossible r cls

/-- What an error answer does at the port or at the bridge: CLASS 5 sets Received Master or Target Abort, CLASS 6 is logged as Poisoned TLP
Received, CLASS 3 counts on source 184 (R276, R315, R350). -/
def portError (c : Chip) (r : XReq) (cls : Nat) : Chip :=
  match routePort r.route with
  | some p =>
    if cls = 5 then modPort c p fun s => { s with cfg := { s.cfg with rma := true } }
    else if cls = 6 then aerAdvisory c p 12 else c
  | none => if cls = 3 then raiseEv c 184 0 2 0 else c

/-- An answer arrives (R132). -/
def answerReq (c : Chip) (r : XReq) (a : ReqAnswer) : Chip :=
  match a with
  | .data bs =>
    let c := match routePort r.route with | some p => stat c (0x7012 + portNo p) 2 bs.length | none => c
    let lap := offDie r.route && ((getSd c r.sd).map fun sd => isLapOwner sd.owner).getD false
    let c := if lap then stat c 0x7038 6 r.take else c
    refreshAt (settleReq c r fun s => { s with data := putPiece r.off (readData c r bs) s.data }) r.ch r.sd r.k
  | .ack => settleReq c r fun s => s
  | .err cls => failReq (portError c r cls) r cls

/-- REQUEST_RESPONSE (R132): the entry frees, and what waits is presented. -/
def execRequestResponse (id : Nat) (a : ReqAnswer) (s : State) : Host.Outcome State Fault Refusal :=
  let c := s.toChip
  let r := tget c.xf.reqs id
  eventOn 4 "REQUEST_RESPONSE" ((r.map fun x => answerFits x a).getD false)
    (match r with | some x => shutGo (presentAll (answerReq c x a)) | none => c) s

/-- PEER_REQUEST_TIMEOUT (R265): CLASS 4. -/
def execPeerRequestTimeout (id t : Nat) (s : State) : Host.Outcome State Fault Refusal :=
  let c := s.toChip
  let r := tget c.xf.reqs id
  eventOn 7 "PEER_REQUEST_TIMEOUT" ((r.map fun x => x.route == 7 && x.limit ≤ nowAt c t).getD false)
    (match r with | some x => presentAll (failReq (stat (advance c t) 0x7048 5 1) x 4) | none => c) s

/-! Completion (R79, R113, R120, R148, R149, R151). -/

/-- Saturating U32 sum. -/
def sat32 (a b : Nat) : Nat := min 0xFFFFFFFF (a + b)

/-- A node's conversion result after a stroke (R151). -/
def convAdd (b : Nat) (x : Stroke) (r : ConvRes) : ConvRes :=
  if !dConverts b then r
  else
    { scales := r.scales ++ [(x.k, x.scale)], sat := sat32 r.sat x.sat, unf := sat32 r.unf x.unf, nan := sat32 r.nan x.nan,
      rescaled := r.rescaled || x.redo == 2, escaped := r.escaped || x.redo == 1, trips := if x.trip then r.trips ++ [x.k] else r.trips }

/-- Statistics of a completed stroke (R134, R135, R153). -/
def strokeStats (c : Chip) (ch b : Nat) (x : Stroke) : Chip :=
  let s := if wideWidth b = sideWidth b .src then strokeSpan b .src x.k else strokeSpan b .dst x.k
  let c := stat (stat c (0x3600 + ch) 5 1) 0x7036 1 s.2
  if !dConverts b then c
  else
    let c := stat (stat (stat (stat c 0x7037 1 x.vals) 0x7037 2 x.sat) 0x7037 3 x.unf) 0x7037 4 x.nan
    let c := if x.trip then stat c 0x7037 5 1 else c
    if x.redo = 1 then stat c 0x7037 6 1 else if x.redo = 2 then stat c 0x7037 7 1 else c

/-- CARRY_WRITE (R149): the smallest scale that a stroke of the node used goes to its bank entry. -/
def carryWrite (c : Chip) (x : NodeRt) : Chip :=
  if dConverts x.body && dCarry x.body && x.conv.rescaled then
    match smallestScale ((upFrom 0 16).filterMap fun k => (x.conv.scales.find? fun s => s.1 == k).map (·.2)) with
    | some v => setBank c (dBank x.body) (dScaleIdx x.body) v
    | none => c
  else c

/-- A node raises a mark: it waits for the flush reads on the ports that its strokes wrote, but the home port (R120). -/
def raiseMark (c : Chip) (ch q e n : Nat) (half : Bool) : Chip :=
  modLaunch c q e fun l => match getNode l n with
    | none => l
    | some x =>
      let wrote := if half then x.halfPorts else x.ports
      let ps := [HPort.a, HPort.b].filter fun p => p != homePort c q && wrote / portBit p % 2 == 1
      { l with
        marks := l.marks ++ [⟨n, half, ch, ps, [], false⟩]
        nodes := tmod l.nodes n fun x => if half then { x with half := true } else { x with full := true } }

/-- A node completes: CARRY, Nodes completed, its channel, its full mark, its edges (R113, R120, R129, R149). -/
def nodeDone (c : Chip) (ch q e n : Nat) : Chip :=
  match (getLaunch c q e).bind fun l => getNode l n with
  | none => c
  | some x =>
    let c := stat (unbindDone (carryWrite c x) (.node q e n)) (0x3600 + ch) 4 1
    let c := if dFull x.body && !x.full then raiseMark c ch q e n false else c
    completeNode c q e n

/-- The values that a stroke of a pull brought (R164). -/
def keepPull (c : Chip) (e : Nat) (x : Stroke) : Chip :=
  match c.lap.job.bind fun j => tget j.pulls e with
  | some row => modJob c fun j => { j with got := tset j.got (4 * row + x.k) x.ready }
  | none => c

/-- The bytes that a stroke of a DIGEST read (R232). -/
def keepDigest (c : Chip) (x : Stroke) : Chip :=
  if c.pat.boot = some 6 then { c with pat := { c.pat with bootData := tset c.pat.bootData x.k x.ready } } else c

/-- A stroke of a node has completed (R113, R120, R151). -/
def nodeStroke (c : Chip) (ch q e n : Nat) (b : Nat) (x : Stroke) : Chip :=
  let c := modNode c q e n fun y => { y with done := y.done ++ [x.k], conv := convAdd b x y.conv }
  let c := if q = lapQ then keepPull c e x else if q = 0 then keepDigest c x else c
  match getLaunch c q e with
  | none => c
  | some l => match getNode l n with
    | none => c
    | some y =>
      let c := if dHalf b && !y.half && halfDone y then raiseMark c ch q e n true else c
      if l.final = noFinal && y.done.length = strokeCount b then nodeDone c ch q e n else c

/-- An owner other than a node leaves its channel with its last stroke. -/
def ownStroke (c : Chip) (ch : Nat) (o : Owner) : Chip :=
  if (sdsOf c o).isEmpty then
    let c := bindParts (stat (unbindDone c o) (0x3600 + ch) 4 1)
    match o with | .lap i => lapItemDone c i | _ => c
  else c

/-- Remove a stroke from its channel and from its set descriptor (R79). -/
def dropStroke (c : Chip) (ch : Nat) (x : Stroke) : Chip :=
  let c := modChan c ch fun y => { y with strokes := ldel y.strokes fun s => s.sd == x.sd && s.k == x.k }
  settleSd (modSd c x.sd fun y => { y with live := y.live - 1 }) x.sd

/-- A RETRYING channel none of whose strokes waits to be reissued is ACTIVE again (R129). -/
def retryDone (c : Chip) (ch : Nat) : Chip :=
  modChan c ch fun y =>
    if y.state = 3 && !(y.strokes.any fun s => s.phase == .retry && !s.aborted) then { y with state := 1 } else y

/-- A stroke ends: complete, or aborted (R79, R130). -/
def strokeEnd (c : Chip) (ch : Nat) (sd : SetDesc) (x : Stroke) : Chip :=
  let c := dropStroke c ch x
  let c := if x.aborted then c
    else
      let c := strokeStats c ch sd.body x
      match sd.owner with
      | .node q e n => nodeStroke c ch q e n sd.body x
      | o => ownStroke c ch o
  settleChan (presentAll (retryDone c ch)) ch

/-- Has a stroke ended: every request settled, its writes made or itself aborted? -/
def strokeOver (x : Stroke) : Bool := x.out == 0 && (x.aborted || (x.phase == .writing && x.wtodo.isEmpty && x.err == 0))

/-- STROKE_COMPLETE (R79). -/
def execStrokeComplete (ch sd k : Nat) (s : State) : Host.Outcome State Fault Refusal :=
  let c := s.toChip
  let r := (getStroke c ch sd k).bind fun x => (getSd c sd).map fun d => (x, d)
  eventOn 4 "STROKE_COMPLETE" ((r.map fun x => strokeOver x.1).getD false)
    (match r with | some (x, d) => react (strokeEnd c ch d x) | none => c) s

/-! Errors (R126 to R128). -/

/-- Last error of a channel (R134). -/
def noteErr (c : Chip) (ch : Nat) (o : Owner) (cls route : Nat) : Chip :=
  let qn := match o with | .node q _ n => (q, n % 4096) | .save q _ => (q, 0) | .restore q _ => (q, 0) | _ => (0, 0)
  modChan c ch fun x => { x with lastErr := pack [(cls, 1), (route, 1), (globalQueue c qn.1, 2), (qn.2, 2), (0, 2), (now c, 8)] }

/-- A failed stroke of the scrub: what its set descriptor has not written is filled again by another (DESIGN CHOICE, log 115: R394 does not
say what a failed zero stroke does, and the scrub ends only when all of it is zero). -/
def scrubAgain (c : Chip) (o : Owner) : Chip :=
  let es := (c.xf.sds.filter fun x => x.2.owner == o).flatMap fun x => x.2.dst.entries.map fun e => (e.route, e.addr, e.len)
  abortOwner (modTen c fun t => { t with scrubLeft := t.scrubLeft ++ es }) o

/-- The part whose stroke failed ends its operation (R90, R126, R350): the launch with the status, a copy, or a save or restore with
BUS_ERROR, the running manifest (R170). -/
def ownerFail (c : Chip) (o : Owner) (status : Nat) : Chip :=
  match o with
  | .node q e n => setFinal c q e status (n % 4096)
  | .promote sp seg g => abortOwner { c with geo := { c.geo with copies := (sp, seg, g) :: c.geo.copies } } o
  | .writeBack sp seg g => abortOwner { c with geo := { c.geo with copies := (sp, seg, g) :: c.geo.copies } } o
  | .save q e | .restore q e =>
    let slot := ((getLaunch c q e).map fun l => l.slot).getD 0
    setFinal (raiseEv c (128 + slot) slot 2 0) q e 9 0xFFFF
  | .lap _ => abortOwner { c with lap := { c.lap with failed := true } } o
  | .scrub _ => scrubAgain c o

/-- A channel takes no more work (R128): its owners go back to the binder. -/
def channelDown (c : Chip) (ch st : Nat) : Chip :=
  let os := (getChan c ch).bound
  let c := modChan c ch fun x => { x with state := st }
  bindParts (os.foldl leaveChan c)

/-- CHANNEL_HALT (R128). -/
def channelHalt (c : Chip) (ch : Nat) (o : Owner) : Chip :=
  let c := stat (raiseEv c (48 + ch) ch 2 0) 0x7036 3 1
  channelDown (ownerFail c o 9) ch 4

/-- A stroke that failed presents no more, and leaves when its requests have settled. -/
def dropFailed (c : Chip) (ch : Nat) (x : Stroke) : Chip :=
  modStroke c ch x.sd x.k fun s => { s with aborted := true, todo := [], wtodo := [] }

/-- Mark a stroke aborted (R130): it is counted, presents no more, and ends when its requests have settled. -/
def abortStroke (c : Chip) (ch : Nat) (x : Stroke) : Chip := dropFailed (stat c 0x7036 2 1) ch x

/-- Has the part that a stroke works for ended? -/
def ownerGone (c : Chip) (o : Owner) : Bool :=
  match o with
  | .promote sp seg g => c.geo.copies.contains (sp, seg, g)
  | .writeBack sp seg g => c.geo.copies.contains (sp, seg, g)
  | .scrub _ => false
  | .lap i => c.lap.failed || (tget c.lap.items i).isNone
  | _ => ((ownerLaunch o).bind fun x => (getLaunch c x.1 x.2).map fun l => l.final != noFinal).getD true

/-- Is a CLASS retryable (R126)? -/
def retryable (cls : Nat) : Bool := 1 ≤ cls && cls ≤ 4

/-- A retryable error (R127, R128): the channel stops issuing and the stroke waits to be reissued, or the channel halts. On a channel that is
HALTED or FENCED already the strokes of its other nodes go on as they would, and the channel stays as it is. -/
def retryError (c : Chip) (ch : Nat) (sd : SetDesc) (x : Stroke) : Chip :=
  let c := noteErr c ch sd.owner x.err x.errRoute
  let st := (getChan c ch).state
  if ownerGone c sd.owner then abortStroke c ch x
  else if (sFixed0 sd.body .dst && contigLen sd.body == 0) || obj c (0x3600 + ch) 3 ≤ x.retries then
    if st = 4 || st = 5 then ownerFail (dropFailed c ch x) sd.owner 9 else channelHalt (dropFailed c ch x) ch sd.owner
  else
    let c := modStroke c ch x.sd x.k fun s => { s with phase := .retry }
    modChan c ch fun y => { y with state := if st = 4 || st = 5 then st else 3 }

/-- STROKE_ERROR_RETRYABLE (R127). -/
def execStrokeErrorRetryable (ch sd k cls : Nat) (s : State) : Host.Outcome State Fault Refusal :=
  let c := s.toChip
  let r := (getStroke c ch sd k).bind fun x => (getSd c sd).map fun d => (x, d)
  eventOn 4 "STROKE_ERROR_RETRYABLE"
    ((r.map fun x => x.1.err == cls && retryable cls && !x.1.aborted && x.1.phase != .retry).getD false)
    (match r with | some (x, d) => react (retryError c ch d x) | none => c) s

/-- Reissue a whole stroke from its first byte (R127); the scales stand as read at issue (R145), counters and redo are discarded (R150). -/
def reissue (c : Chip) (ch : Nat) (x : Stroke) : Chip :=
  match getSd c x.sd with
  | none => c
  | some sd =>
    let c := modStroke c ch x.sd x.k fun s => freshStroke c ch sd x.k s.seq (s.retries + 1) s.scales
    settleChan (presentAll (retryDone (stat c (0x3600 + ch) 6 1) ch)) ch

/-- The stroke of a channel whose requests have all settled and that waits to be reissued. -/
def retryStroke (c : Chip) (ch : Nat) : Option Stroke :=
  (getChan c ch).strokes.find? fun s => s.phase == .retry && s.out == 0 && !s.aborted

/-- STROKE_RETRY_REISSUE (R127). -/
def execStrokeRetryReissue (ch : Nat) (s : State) : Host.Outcome State Fault Refusal :=
  let x := retryStroke s.toChip ch
  eventOn 4 "STROKE_RETRY_REISSUE" x.isSome
    (match x with | some y => react (reissue s.toChip ch y) | none => s.toChip) s

/-- A non-retryable error (R126): the launch ends, the channel continues; CLASS 6 raises source 174. -/
def fatalError (c : Chip) (ch : Nat) (sd : SetDesc) (x : Stroke) : Chip :=
  let c := noteErr c ch sd.owner x.err x.errRoute
  let c := if x.err = 6 then raiseEv c 174 ch 2 0 else c
  let c := dropFailed c ch x
  settleChan (if ownerGone c sd.owner then c else ownerFail c sd.owner (if x.err = 7 then 7 else 9)) ch

/-- STROKE_ERROR_FATAL (R126). -/
def execStrokeErrorFatal (ch sd k cls : Nat) (s : State) : Host.Outcome State Fault Refusal :=
  let c := s.toChip
  let r := (getStroke c ch sd k).bind fun x => (getSd c sd).map fun d => (x, d)
  eventOn 4 "STROKE_ERROR_FATAL" ((r.map fun x => x.1.err == cls && 5 ≤ cls && !x.1.aborted).getD false)
    (match r with | some (x, d) => react (fatalError c ch d x) | none => c) s

/-- Has a stroke requests on route PEER? -/
def peerStroke (c : Chip) (ch : Nat) (x : Stroke) : Bool :=
  (x.todo ++ x.wtodo).any (fun r => r.route == 7) || c.xf.reqs.any fun r => r.2.route == 7 && r.2.ch == ch && r.2.sd == x.sd && r.2.k == x.k

/-- The gateway stops (R267): strokes on route PEER of owners that pass a test end what they work for with BUS_ERROR, and are not retried. -/
def peerHalt (c : Chip) (ok : Owner → Bool) : Chip :=
  let xs := c.xf.chans.flatMap fun y => (y.2.strokes.filter fun x => !x.aborted && peerStroke c y.1 x).map fun x => (y.1, x)
  xs.foldl (fun c x => match getSd c x.2.sd with
    | some sd => if ok sd.owner && !ownerGone c sd.owner then ownerFail (dropFailed c x.1 x.2) sd.owner 9 else c
    | none => c) c

/-- Channel control, object 0x3600+c.02 (R129, R134). -/
def channelControl (ch v : Nat) (c : Chip) : Nat × Chip :=
  if v != 1 then (5, c)
  else if (getChan c ch).state != 4 then (7, c)
  else (0, modChan c ch fun x => { x with state := 0 })

/-- CHANNEL_RESUME (R129). -/
def execChannelResume (src : Src) (tag ch v : Nat) (s : State) : Host.Outcome State Fault Refusal :=
  let rq := writeReq tag (0x3600 + ch) 2 (leBytes 1 v)
  event "CHANNEL_RESUME" (ch < 64 && presents s.toChip src rq) (react (bindParts (serve (channelControl ch (v % 256)) src rq s.toChip))) s

/-! Pacing (R118). -/

/-- A node that waits in the binder for its pace. -/
def paceWaits (c : Chip) (q e n k : Nat) : Option NodeRt :=
  match getLaunch c q e with
  | none => none
  | some l =>
    if l.final != noFinal then none
    else (getNode l n).bind fun x => if kindMove x.kind && dPace x.body = k && !x.paceOk && x.st == .ready then some x else none

/-- PACE_AT_TICK_MET (R118). -/
def execPaceAtTickMet (q e n t : Nat) (s : State) : Host.Outcome State Fault Refusal :=
  let c := s.toChip
  eventOn 4 "PACE_AT_TICK_MET" (((paceWaits c q e n 1).map fun x => decide (dPaceTick x.body ≤ nowAt c t)).getD false)
    (react (modNode (advance c t) q e n fun x => { x with paceOk := true })) s

/-- PACE_PERIOD_DUE (R118, R129): the channel that waits for the period tick is ACTIVE again. -/
def execPacePeriodDue (ch t : Nat) (s : State) : Host.Outcome State Fault Refusal :=
  let c := s.toChip
  eventOn 4 "PACE_PERIOD_DUE"
    ((getChan c ch).state == 2 && ((nextIssue c ch).map fun sd => decide (periodTick c sd ≤ nowAt c t)).getD true)
    (settleChan (advance c t) ch) s

/-- PACE_AFTER_CHANNEL_MET (R118): Nodes completed of the pace channel has advanced since the node was handed over. -/
def execPaceAfterChannelMet (q e n : Nat) (s : State) : Host.Outcome State Fault Refusal :=
  let c := s.toChip
  eventOn 4 "PACE_AFTER_CHANNEL_MET"
    (((paceWaits c q e n 3).map fun x => x.paceBase != 0 && obj c (0x3600 + dPaceCh x.body) 4 != x.paceBase - 1).getD false)
    (react (modNode c q e n fun x => { x with paceOk := true })) s

/-! Marks (R120, R121). -/

/-- The first mark that a node has raised: of two the half mark goes first (R120). -/
def firstMark (l : Launch) (n : Nat) : Option Mark := l.marks.find? fun m => m.n == n

/-- May a mark fire now: it is the node's first, its flush reads have returned, and its cross-link flush is done (R120, R278)? -/
def dueMark (q e n : Nat) (half : Bool) (c : Chip) : Bool :=
  match (getLaunch c q e).bind fun l => (firstMark l n).map fun m => (l, m) with
  | some (l, m) => m.half == half && m.ports.isEmpty && m.reads.all (fun i => (tget c.xf.reqs i).isNone) && !waitsLink c l
  | none => false

/-- A mark fires: MARKS of the queue advances and the GFE hears of it (R120, R121, R207); the edges of a later iteration stand as they are. -/
def fireMark (q e n : Nat) (half : Bool) (c : Chip) : Chip :=
  let c := modQueue c q fun x => if half then { x with half := (x.half + 1) % 65536 } else { x with full := (x.full + 1) % 65536 }
  modLaunch c q e fun l => match firstMark l n with
    | some m =>
      let l := { l with marks := l.marks.erase m }
      if m.old then l else resolveEdges l n [if half then 1 else 2] 1
    | none => l

/-- MARK_FIRE (R120). -/
def execMarkFire (q e n : Nat) (half : Bool) (s : State) : Host.Outcome State Fault Refusal :=
  eventOn 4 "MARK_FIRE" (dueMark q e n half s.toChip) (react (fireMark q e n half s.toChip)) s

/-! The scale banks (R144). -/

/-- Is an access to the scale banks allowed: aligned, of 4 or 8 bytes, the Format Converter's clock on (R144, R307)? -/
def bankAllowed (c : Chip) (off size : Nat) : Bool :=
  (size == 4 || size == 8) && off % size == 0 && 0x40000 ≤ off && off + size ≤ 0x80000 && enabled c 5 && c.mode != .rough

/-- Write one entry, or two with a 64-bit access (R144). -/
def bankWrite (off size v : Nat) (c : Chip) : Chip :=
  let i := (off - 0x40000) / 4
  let c := setBank c (i / 1024) i v
  if size = 8 then setBank c ((i + 1) / 1024) (i + 1) (v / 2 ^ 32) else c

/-- SCALE_BANK_WRITE (R144). -/
def execScaleBankWrite (p : HPort) (off size v : Nat) (s : State) : Host.Outcome State Fault Refusal :=
  event "SCALE_BANK_WRITE" (hostPosts s.toChip p) (hostWrite s.toChip p size (bankAllowed s.toChip off size) (bankWrite off size v)) s

end Sys2Proof.Machine
end

