-- ==== Sys2Proof/Machine/Geode.lean ====
section
/-! DEFINITION. The Geode's commands (R84 to R105): map builds, promotions, the sweep, write-backs, quarantine, decay, probes. -/

namespace Sys2Proof.Machine

/-! Quarantine (R94). -/

/-- Close a batch: one drain mark on every Space with a frame in it (R94). -/
def closeBatch (c : Chip) (b : Batch) : Chip :=
  let c := { c with geo := { c.geo with batches := lmod c.geo.batches (·.id == b.id) fun x => { x with closed := true } } }
  b.spaces.foldl (fun c sp => drainMark c sp (.batch b.id)) c

/-- A frame that leaves a grain goes to the open batch, which closes at its frame count (R94). -/
def quarantine (c : Chip) (sp k : Nat) : Chip :=
  let c := useFrame c k .quarantine
  match c.geo.batches.find? fun (b : Batch) => !b.closed with
  | some b =>
    let b' := { b with frames := b.frames ++ [k], spaces := if b.spaces.contains sp then b.spaces else b.spaces ++ [sp] }
    let c := { c with geo := { c.geo with batches := lmod c.geo.batches (·.id == b.id) fun _ => b' } }
    if obj c 0x3500 0xE ≤ b'.frames.length then closeBatch c b' else c
  | none =>
    let b : Batch := ⟨c.geo.nextBatch, [k], [sp], now c, false⟩
    { c with geo := { c.geo with batches := c.geo.batches ++ [b], nextBatch := b.id + 1 } }

/-- QUARANTINE_RELEASE: the last drain mark of a batch has completed and its frames return to their lists (R94). -/
def releaseBatch (c : Chip) (i : Nat) : Chip :=
  if c.sp.bumps.any fun b => b.bys.contains (.batch i) then c
  else match c.geo.batches.find? fun (b : Batch) => b.id == i with
  | some b => b.frames.foldl freeFrame { c with geo := { c.geo with batches := c.geo.batches.filter fun x => x.id != i } }
  | none => c

/-- A grain leaves HBM by eviction (R90): FAR, TALLY 0; its frame goes to quarantine, in DOUBLET once the other unit has acknowledged. -/
def evictGrain (c : Chip) (sp seg g : Nat) (v : Nat) : Chip :=
  let k := eFrame c v
  let c := stat (putEntry c sp seg g (setTally (toFar v) 0)) 0x7035 5 1
  let i := k / 2 ^ 28
  let c := { c with geo := { c.geo with sweeps := tmod c.geo.sweeps i fun s => { s with evicted := true } } }
  if c.mode == .doublet then tellOther (useFrame c k (.returning sp seg g)) sp seg g else quarantine c sp k

/-- QUARANTINE_TIME_EXPIRY is due: the open batch is as old as the Quarantine time (R94). -/
def oldBatch (t : Nat) (c : Chip) : Option Batch :=
  c.geo.batches.find? fun (b : Batch) => !b.closed && b.opened + obj c 0x3500 0xF ≤ nowAt c t

/-- QUARANTINE_TIME_EXPIRY (R94). -/
def execQuarantineTimeExpiry (t : Nat) (s : State) : Host.Outcome State Fault Refusal :=
  let b := oldBatch t s.toChip
  eventOn 3 "QUARANTINE_TIME_EXPIRY" b.isSome (match b with | some x => react (closeBatch (advance s.toChip t) x) | none => s.toChip) s

/-- The other unit has taken a change; an evicted grain's frame enters quarantine (R103). -/
def stateAck (sp seg g : Nat) (c : Chip) : Chip :=
  let c := { c with geo := { c.geo with acks := ldel c.geo.acks (· == (sp, seg, g)) } }
  if c.geo.acks.contains (sp, seg, g) then c
  else (c.geo.frames.filter fun x => x.2 == .returning sp seg g).foldl (fun c x => quarantine c sp x.1) c

/-- A change that the other unit's Geode made reaches this unit's copy of the map, and is acknowledged (R103). -/
def stateTaken (sp seg g v : Nat) (c : Chip) : Chip :=
  emit (setEntry c sp seg g v) (.bridge 21 (leBytes 16 (pack [(sp, 2), (seg, 1), (0, 5), (g, 8)])))

/-- GEODE_STATE_ACK (R103): the acknowledgement of this unit's change, or, with an entry, the other unit's change that this unit
acknowledges. -/
def execGeodeStateAck (sp seg g : Nat) (change : Option Nat) (s : State) : Host.Outcome State Fault Refusal :=
  match change with
  | none => eventOn 3 "GEODE_STATE_ACK" (s.geo.acks.contains (sp, seg, g)) (react (stateAck sp seg g s.toChip)) s
  | some v => eventOn 3 "GEODE_STATE_ACK" (s.mode == .doublet && !manages s.toChip g && (tget s.geo.maps (mapKey sp seg)).isSome)
      (react (stateTaken sp seg g v s.toChip)) s

/-! Map builds (R88). -/

/-- The end of a map fill (R88): at once in BUILDING, by the hard bump in LIVE. -/
def fillEnd (c : Chip) : Chip :=
  let b := c.geo.build
  let c := { c with geo := { c.geo with build := { b with state := 2, filled := grainCount b.desc } } }
  let c := segTake c b.space b.seg b.desc
  mirror c .space b.space none

/-- MAP_BUILD_FILL_DONE (R88). -/
def execMapBuildFillDone (s : State) : Host.Outcome State Fault Refusal :=
  event "MAP_BUILD_FILL_DONE" (s.geo.build.state == 1) (react (fillEnd s.toChip)) s

/-! Promotion (R92). -/

/-- One token in the bucket's unit: 10^9 parts. -/
def tokenUnit : Int := 1000000000

/-- The burst in the bucket's unit. -/
def tokenCap (c : Chip) : Int := (obj c 0x3500 0xC : Int) * tokenUnit

/-- Tokens accrue, cap parts per tick, up to the burst (R92). -/
def accrue (c : Chip) : Chip :=
  let t := min (tokenCap c) (c.geo.tokens + (obj c 0x3500 0xB : Int) * ((now c - c.geo.tokenAt : Nat) : Int))
  { c with geo := { c.geo with tokens := t, tokenAt := now c } }

/-- PROMOTION_TOKEN_ACCRUE (R92): time has passed since the bucket was last brought up to date, and it is not full. -/
def execPromotionTokenAccrue (s : State) : Host.Outcome State Fault Refusal :=
  eventOn 3 "PROMOTION_TOKEN_ACCRUE" (s.geo.tokenAt < now s.toChip && s.geo.tokens < tokenCap s.toChip) (accrue s.toChip) s

/-- Tokens that a promotion of a grain size takes (R92). -/
def tokenCost (grain : Nat) : Int := ((2 ^ (grain - 2) : Nat) : Int) * tokenUnit

/-- Start the sweep of every list of a grain size (R92: POOL_EMPTY at the head). -/
def sweepFor (c : Chip) (grain : Nat) : Chip :=
  (upFrom 0 4).foldl (fun c i =>
    if (listRec c i).2.1 != 0 && (listRec c i).2.2 == grain then
      let s := tgetD c.geo.sweeps i ⟨false, 0, 0, false⟩
      { c with geo := { c.geo with sweeps := tset c.geo.sweeps i { s with on := true, seen := if s.on then s.seen else 0 } } }
    else c) c

/-- The head promotion takes its tokens; one that waits at the head for a frame has taken them (R92). -/
def payTokens (c : Chip) (x : Nat × Nat × Nat) (grain : Nat) : Chip :=
  if c.geo.paid.contains x then c
  else { c with geo := { c.geo with tokens := c.geo.tokens - tokenCost grain, paid := x :: c.geo.paid } }

/-- The head promotion has its frame: DIE, LIST and FRAME are set and its copy strokes begin (R90). -/
def startCopy (c : Chip) (sp seg g k : Nat) : Chip :=
  let s := getSeg (getSpace c sp) seg
  let v := entryOf c sp seg g
  let c := changeEntry c sp seg g (setFrame c v k)
  let geo := { c.geo with queue := c.geo.queue.drop 1, paid := c.geo.paid.filter (· != (sp, seg, g)) }
  let c := ownSd { c with geo := geo } (.promote sp seg g) sp (contigBody 0 0 0 (grainBytes s)) (farEntries s g (eSealed v)) (frameEntries c s k)
  bindBest c (.promote sp seg g)

/-- The head promotion takes its tokens and then a frame; on POOL_EMPTY it stays at the head (R90, R92). `other` is a frame that the other die
gave (R104). -/
def promote (c : Chip) (sp seg g : Nat) (other : Option Nat) : Chip :=
  let s := getSeg (getSpace c sp) seg
  let c := payTokens c (sp, seg, g) s.grain
  match other with
  | some k => startCopy (stat (useFrame c (2 ^ 30 + k) (.grain sp seg g)) 0x7035 9 1) sp seg g (2 ^ 30 + k)
  | none => match takeFrame c s.grain 1 (.grain sp seg g) with
    | (none, c) => sweepFor c s.grain
    | (some k, c) => startCopy c sp seg g k

/-- May the Geode start a copy: it promotes, no scrub runs, the set-descriptor store has room (R18, R102, R106)? -/
def mayCopy (c : Chip) : Bool := promotes c && c.sec.ten.state != 4 && sdRoom c

/-- Has the head promotion its tokens, or the bucket one for it (R92)? -/
def headPays (c : Chip) : Bool :=
  match c.geo.queue with
  | x :: _ => c.geo.paid.contains x || tokenUnit ≤ c.geo.tokens
  | [] => false

/-- May the head promotion ask the other die for a frame (R104): in DOUBLET, every list of its grain size here is below the low watermark, and
the frame is one of a list of that size that nothing here holds? -/
def crossDie (c : Chip) (k : Nat) : Bool :=
  match c.geo.queue with
  | (sp, seg, _) :: _ =>
    let gr := (getSeg (getSpace c sp) seg).grain
    let r := listRec c (4 + k / 2 ^ 28)
    c.mode == .doublet && k < 2 ^ 30 && (tget c.geo.frames (2 ^ 30 + k)).isNone && k % 2 ^ 28 < r.2.1 && r.2.2 == gr
      && (upFrom 0 4).all fun i => (listRec c i).2.1 == 0 || (listRec c i).2.2 != gr || listFree c i < obj c 0x3500 9
  | [] => false

/-- PROMOTION_START (R92, R104): the queue has a head and the bucket holds at least one token. -/
def execPromotionStart (other : Option Nat) (s : State) : Host.Outcome State Fault Refusal :=
  let c := accrue s.toChip
  eventOn 3 "PROMOTION_START" (mayCopy c && headPays c && (other.map (crossDie c)).getD true)
    (match c.geo.queue with | (sp, seg, g) :: _ => promote c sp seg g other | [] => c) s

/-- Is a promotion copy under way: PROMOTING, out of the queue? -/
def copying (c : Chip) (sp seg g : Nat) : Bool := isPromoting (entryOf c sp seg g) && !c.geo.queue.contains (sp, seg, g)

/-- Has an owner's last stroke ended without a failure? -/
def copyOk (c : Chip) (o : Owner) (sp seg g : Nat) : Bool := (sdsOf c o).isEmpty && !c.geo.copies.contains (sp, seg, g)

/-- Has a copy failed and every stroke of it ended? -/
def copyBad (c : Chip) (o : Owner) (sp seg g : Nat) : Bool := (sdsOf c o).isEmpty && c.geo.copies.contains (sp, seg, g)

/-- A failed copy is dealt with: counted, with a Note of source 178 whose element is the list (R90, R350); one that the entry into ROUGH
aborted is no failure. -/
def copyFailed (c : Chip) (sp seg g k : Nat) : Chip :=
  let c := { c with geo := { c.geo with copies := c.geo.copies.filter (· != (sp, seg, g)) } }
  if c.mode = .rough then c else raiseEv (stat c 0x7035 4 1) 178 (k / 2 ^ 28) 1 0

/-- A copy completes (R90): RESIDENT, DIRTY 0, TALLY T. -/
def promoted (sp seg g : Nat) (c : Chip) : Chip :=
  let v := setTally (setBit (setState (entryOf c sp seg g) false true) 34 false) (obj c 0x3500 6)
  tellOther (stat (putEntry c sp seg g v) 0x7035 2 1) sp seg g

/-- PROMOTION_COPY_COMPLETE (R90). -/
def execPromotionCopyComplete (sp seg g : Nat) (s : State) : Host.Outcome State Fault Refusal :=
  eventOn 3 "PROMOTION_COPY_COMPLETE" (copying s.toChip sp seg g && copyOk s.toChip (.promote sp seg g) sp seg g)
    (react (promoted sp seg g s.toChip)) s

/-- A copy fails (R90): FAR, and the frame returns to its list. -/
def promoteFail (sp seg g : Nat) (c : Chip) : Chip :=
  let v := entryOf c sp seg g
  let c := freeFrame (changeEntry c sp seg g (toFar v)) (eFrame c v)
  copyFailed c sp seg g (eFrame c v)

/-- PROMOTION_COPY_FAIL (R90). -/
def execPromotionCopyFail (sp seg g : Nat) (s : State) : Host.Outcome State Fault Refusal :=
  eventOn 3 "PROMOTION_COPY_FAIL" (copying s.toChip sp seg g && copyBad s.toChip (.promote sp seg g) sp seg g)
    (react (promoteFail sp seg g s.toChip)) s

/-! The sweep and write-backs (R90, R93, R101). -/

/-- Start the write-back strokes of a grain, sealing as its segment says (R90). -/
def writeBack (c : Chip) (sp seg g : Nat) : Chip :=
  let s := getSeg (getSpace c sp) seg
  let v := setState (entryOf c sp seg g) true true
  let c := changeEntry c sp seg g v
  let c := ownSd c (.writeBack sp seg g) sp (contigBody 0 0 0 (grainBytes s)) (frameEntries c s (eFrame c v)) (farEntries s g s.sealed)
  bindBest c (.writeBack sp seg g)

/-- Does a refresh open wait on the grain (R90, R163)? -/
def openHeld (c : Chip) (sp seg g : Nat) : Bool :=
  match c.lap.job with
  | some j => tabSpace c j.post.table == sp && j.opening.any fun x => x.1 == seg && x.2.1 == g
  | none => false

/-- The sweep-visit rows of R90 on the grain of a frame. Object 0x7035.07 counts these visits and not the frames that the hand passes over
(DESIGN CHOICE, log 107: the spec leaves its meaning open). -/
def sweepGrain (c : Chip) (sp seg g : Nat) : Chip :=
  let s := getSeg (getSpace c sp) seg
  let v := entryOf c sp seg g
  if !isResident v || !manages c g then c
  else
    let c := stat c 0x7035 7 1
    if !ePrior v && !eFresh v && !openHeld c sp seg g && eTally v < obj c 0x3500 7 then
      if isClean s v then evictGrain c sp seg g v else writeBack c sp seg g
    else putEntry c sp seg g (setTally v (eTally v / 2 ^ obj c 0x3500 8))

/-- The hand goes on; a pass over as many frames as the list has, without an eviction, raises a Note (R93). -/
def sweepNext (c : Chip) (i : Nat) : Chip :=
  let s := tgetD c.geo.sweeps i ⟨false, 0, 0, false⟩
  let n := (listRec c i).2.1
  let hand := if s.hand + 1 ≥ n then 0 else s.hand + 1
  let last := s.seen + 1 ≥ n
  let c := if last && !s.evicted then raiseEv c 178 i 1 0 else c
  let s' : Sweep := if last then ⟨s.on, hand, 0, false⟩ else { s with hand := hand, seen := s.seen + 1 }
  { c with geo := { c.geo with sweeps := tset c.geo.sweeps i s' } }

/-- The frame under the hand: the grain it holds is judged, any other frame is passed over (R93). -/
def sweepVisit (i : Nat) (c : Chip) : Chip :=
  let k := i * 2 ^ 28 + (tgetD c.geo.sweeps i ⟨false, 0, 0, false⟩).hand
  let c := match tget c.geo.frames k with
    | some (.grain sp seg g) => sweepGrain c sp seg g
    | _ => c
  sweepNext c i

/-- SWEEP_VISIT (R93): the sweep of the list runs; not in BOOT or ROUGH (R102), nor while the set-descriptor store is full (R18). -/
def execSweepVisit (list : Nat) (s : State) : Host.Outcome State Fault Refusal :=
  let on := ((tget s.geo.sweeps list).map fun x => x.on).getD false
  eventOn 3 "SWEEP_VISIT" (on && serving s.toChip && sdRoom s.toChip) (react (sweepVisit list s.toChip)) s

/-- Is a grain's write-back under way? -/
def writingBack (c : Chip) (sp seg g : Nat) : Bool := isEvicting (entryOf c sp seg g)

/-- The flush goes on with one of its grains: a grain that waits for a set descriptor and is RESIDENT and not clean begins its write-back
when there is room (R18); one that waits and has become clean, or FAR, needs none (R101). -/
def flushGrain (c : Chip) (g : Nat) : Chip :=
  let sp := c.geo.flush.space
  let seg := c.geo.flush.seg
  let v := entryOf c sp seg g
  if isEvicting v || !c.geo.flush.left.contains g then c
  else if isResident v && !isClean (getSeg (getSpace c sp) seg) v then (if sdRoom c then writeBack c sp seg g else c)
  else flushForget c sp seg g

/-- The flush goes on, and ends with its last grain (R101). -/
def flushNext (c : Chip) : Chip := flushCheck (c.geo.flush.left.foldl flushGrain c)

/-- A grain's part of a flush is over. -/
def flushPart (c : Chip) (sp seg g : Nat) (done : Nat) : Chip :=
  let c := { c with geo := { c.geo with flushing := c.geo.flushing.filter (· != (sp, seg, g)) } }
  if c.geo.flush.space = sp && c.geo.flush.seg = seg && c.geo.flush.left.contains g then
    let fl := { c.geo.flush with left := c.geo.flush.left.filter (· != g), written := c.geo.flush.written + done }
    flushNext { c with geo := { c.geo with flush := fl } }
  else c

/-- A write-back completes (R90): the far copy is current; an eviction ends FAR, a flush RESIDENT. -/
def writtenBack (sp seg g : Nat) (c : Chip) : Chip :=
  let s := getSeg (getSpace c sp) seg
  let v := setBit (setBit (entryOf c sp seg g) 34 false) 35 s.sealed
  let c := stat c 0x7035 6 1
  if c.geo.flushing.contains (sp, seg, g) then
    tellOther (flushPart (putEntry c sp seg g (setState v false true)) sp seg g 1) sp seg g
  else evictGrain c sp seg g v

/-- WRITE_BACK_COMPLETE (R90). -/
def execWriteBackComplete (sp seg g : Nat) (s : State) : Host.Outcome State Fault Refusal :=
  eventOn 3 "WRITE_BACK_COMPLETE" (writingBack s.toChip sp seg g && copyOk s.toChip (.writeBack sp seg g) sp seg g)
    (react (writtenBack sp seg g s.toChip)) s

/-- A write-back fails (R90): RESIDENT, DIRTY 1; a cancelled one leaves the grain as it is. -/
def writeBackFail (sp seg g : Nat) (c : Chip) : Chip :=
  let v := entryOf c sp seg g
  let c := if isEvicting v then changeEntry c sp seg g (setBit (setState v false true) 34 true) else c
  copyFailed (flushPart c sp seg g 0) sp seg g (eFrame c v)

/-- WRITE_BACK_FAIL (R90). -/
def execWriteBackFail (sp seg g : Nat) (s : State) : Host.Outcome State Fault Refusal :=
  eventOn 3 "WRITE_BACK_FAIL" (!isPromoting (entryOf s.toChip sp seg g) && copyBad s.toChip (.writeBack sp seg g) sp seg g)
    (react (writeBackFail sp seg g s.toChip)) s

/-- The grains of a segment that a flush covers: RESIDENT, not clean, managed here (R101, R103). -/
def flushGrains (c : Chip) (sp seg : Nat) : List Nat :=
  let s := getSeg (getSpace c sp) seg
  let es := ((tget c.geo.maps (mapKey sp seg)).map fun m => m.entries).getD []
  (es.filter fun x => isResident x.2 && !isClean s x.2 && manages c x.1).map (·.1)

/-- A write-back request, object 0x3500.12 (R101). -/
def writeBackRequest (v : Nat) (c : Chip) : Nat × Chip :=
  let sp := fld v 0 2
  let seg := fld v 2 1
  if sp > 1023 || seg > 15 || (getSeg (getSpace c sp) seg).kind != 3 then (5, c)
  else if c.geo.flush.state = 1 then (6, c)
  else
    let gs := flushGrains c sp seg
    let fl : Flush := ⟨1, sp, seg, gs, 0⟩
    let c := { c with geo := { c.geo with flush := fl, flushing := c.geo.flushing ++ gs.map fun g => (sp, seg, g) } }
    (0, flushNext c)

/-- WRITE_BACK_REQUEST (R101). -/
def execWriteBackRequest (src : Src) (tag : Nat) (payload : Bytes) (s : State) : Host.Outcome State Fault Refusal :=
  let rq := writeReq tag 0x3500 0x12 payload
  event "WRITE_BACK_REQUEST" (presents s.toChip src rq) (serve (writeBackRequest (leNat payload)) src rq s.toChip) s

/-- A grain probe, object 0x3500.15 (R105). -/
def grainProbe (v : Nat) (c : Chip) : Nat × Chip :=
  let sp := fld v 0 2
  let seg := fld v 2 1
  let s := getSeg (getSpace c sp) seg
  if sp > 1023 || seg > 15 || s.kind != 3 || grainCount s ≤ fld v 8 8 then (5, c)
  else (0, { c with geo := { c.geo with probe := entryOf c sp seg (fld v 8 8) } })

/-- GRAIN_PROBE_REQUEST (R105). -/
def execGrainProbeRequest (src : Src) (tag : Nat) (payload : Bytes) (s : State) : Host.Outcome State Fault Refusal :=
  let rq := writeReq tag 0x3500 0x15 payload
  event "GRAIN_PROBE_REQUEST" (presents s.toChip src rq) (serve (grainProbe (leNat payload)) src rq s.toChip) s

/-! Far decay (R95) and tallies (R103). -/

/-- The Tiered segments with their grain counts. -/
def tieredSegs (c : Chip) : List (Nat × Nat × Nat) :=
  c.sp.spaces.flatMap fun x => (x.2.segs.filter fun s => s.2.kind == 3).map fun s => (x.1, s.1, grainCount s.2)

/-- Grain number `k` counted over the Tiered segments. -/
def grainAt : List (Nat × Nat × Nat) → Nat → Option (Nat × Nat × Nat)
  | [], _ => none
  | (sp, seg, n) :: r, k => if k < n then some (sp, seg, k) else grainAt r (k - n)

/-- FAR_DECAY_VISIT is due: visit `k` of N falls at the period's start + k × period / N (R95). -/
def dueDecay (c : Chip) : Bool :=
  let p := obj c 0x3500 0xD
  let n := (tieredSegs c).foldl (fun m x => m + x.2.2) 0
  p != 0 && n != 0 && serving c && c.geo.decayAt + c.geo.decayGrain * p / n ≤ now c

/-- One visit: a FAR entry's TALLY is halved; after the last entry the next period begins (R95). -/
def decayVisit (c : Chip) : Chip :=
  let p := obj c 0x3500 0xD
  let ts := tieredSegs c
  let n := ts.foldl (fun m x => m + x.2.2) 0
  let k := c.geo.decayGrain
  let c := match grainAt ts k with
    | some (sp, seg, g) =>
      let v := entryOf c sp seg g
      if isFar v && manages c g then
        let k := tallyKey sp seg g
        let c := setEntry c sp seg g (setTally v (eTally v / 2))
        { c with geo := { c.geo with hbmTally := tmod c.geo.hbmTally k (· / 2) } }
      else c
    | none => c
  if k + 1 < n then { c with geo := { c.geo with decayGrain := k + 1 } }
  else { c with geo := { c.geo with decayGrain := 0, decayAt := if c.geo.decayAt + 2 * p ≤ now c then now c else c.geo.decayAt + p } }

/-- FAR_DECAY_VISIT (R95). -/
def execFarDecayVisit (s : State) : Host.Outcome State Fault Refusal :=
  eventOn 3 "FAR_DECAY_VISIT" (dueDecay s.toChip) (decayVisit s.toChip) s

/-! What the other unit's Geode sends (R103, R104). -/

/-- A promotion request of the other unit (R103): a write resolve or a threshold crossing there, judged by the grain's state here. -/
def takeAsk (c : Chip) (x : Nat × Nat × Nat × Bool) : Chip :=
  let sp := x.1
  let seg := x.2.1
  let g := x.2.2.1
  let v := entryOf c sp seg g
  if !manages c g then c
  else if isFar v then (if eFresh v then c else queuePromotion c sp seg g x.2.2.2)
  else if !x.2.2.2 then c
  else if isPromoting v then hastenPromotion c sp seg g
  else if isEvicting v then cancelWriteBack c sp seg g
  else putEntry c sp seg g (setBit v 34 true)

/-- The other unit's promotion engine asks for a frame as requester 2 (R96, R104): the lowest-numbered list of the grain size that stands above
its high watermark gives one, or the answer is POOL_EMPTY. -/
def lendFrame (c : Chip) (x : Nat × Nat × Nat) : Chip :=
  let gr := (getSeg (getSpace c x.1) x.2.1).grain
  let above := (upFrom 0 4).any fun i => (listRec c i).2.1 != 0 && (listRec c i).2.2 == gr && obj c 0x3500 0xA < listFree c i && listGives c i 2
  let r := if above then takeFrame c gr 2 (.lent x.1 x.2.1 x.2.2) else (none, stat c 0x7035 8 1)
  emit r.2 (.bridge 22 (match r.1 with | some k => leBytes 8 (k + 1) | none => zeros 8))

/-- A frame of this die that the other unit returns (R104). -/
def lentBack (c : Chip) (k : Nat) : Chip :=
  match tget c.geo.frames k with
  | some (.lent _ _ _) => freeFrame c k
  | _ => c

/-- What the other unit forwards (R103, R104): counts of accesses, promotion requests, requests for frames, frames that return. -/
def takeForward (m : GeoMsg) (c : Chip) : Chip :=
  let c := m.counts.foldl (fun c x => if manages c x.2.2 then countEntry c x.1 x.2.1 x.2.2 else c) c
  m.backs.foldl lentBack (m.takes.foldl lendFrame (m.asks.foldl takeAsk c))

/-- The counts of this unit's resolves of grains that the other unit manages go to it (R103). -/
def sendTallies (c : Chip) : Chip :=
  let body := c.geo.tallies.flatMap fun x => leBytes 16 (pack [(x.1, 2), (x.2.1, 1), (0, 5), (x.2.2, 8)])
  emit { c with geo := { c.geo with tallies := [] } } (.bridge 5 body)

/-- TALLY_FORWARD (R103): this unit's counts go out, or what the other unit forwards arrives. -/
def execTallyForward (inbound : Option GeoMsg) (s : State) : Host.Outcome State Fault Refusal :=
  match inbound with
  | none => eventOn 3 "TALLY_FORWARD" (s.mode == .doublet && !s.geo.tallies.isEmpty) (sendTallies s.toChip) s
  | some m => eventOn 3 "TALLY_FORWARD" (s.mode == .doublet && bridgeUp s.toChip) (react (takeForward m s.toChip)) s

end Sys2Proof.Machine
end

