-- ==== Sys2Proof/Machine/Lapidary.lean ====
section
/-! DEFINITION. Lapidary's commands (R154 to R175): table control, posts, applying a manifest, quantising a row, commit, publish and release. -/

namespace Sys2Proof.Machine

/-! Table control (R154, R155). -/

/-- Is an FP32 code a clip fraction from 2^-8 to 1.0 (R155)? -/
def clipOk (v : Nat) : Bool := 0x3B800000 ≤ v && v ≤ 0x3F800000

/-- Is a number a power of two? -/
def isPow2 (n : Nat) : Bool := n != 0 && 2 ^ Nat.log2 n == n

/-- Does the definition of a table break a condition of R155 or R157? -/
def tableDefBad (c : Chip) (t : Nat) : Bool :=
  let f := tabFmt c t
  let v := tabValues c t
  let b := tabRowBytes c t
  let e := tabEscSeg c t
  tabSpace c t < 1 || tabSpace c t > 1023 || tabRowSeg c t > 15 || !(e == 0xFF || (e ≤ 15 && e != tabRowSeg c t))
    || f < 3 || f > 6 || v < 1 || v > 32767 || (f == 6 && v % 2 == 1)
    || !isPow2 b || b < 16 || b > 0x200000 || b < 8 + (v * fmtBits f + 7) / 8 || !clipOk (tabClip c t)
    || (if e = 0xFF then tabEscSlots c t != 0 else tabEscSlots c t < 1 || tabEscSlots c t > 16777216)

/-- DEFINE (R154, R155, R392). -/
def tableDefine (t : Nat) (c : Chip) : Nat × Chip :=
  let sp := (getSpace c (tabSpace c t)).state
  if tableDefBad c t then (5, c)
  else if (getTable c t).state != 0 || !(sp == 1 || sp == 2) || c.sec.ten.state != 2 then (7, c)
  else
    let n := roundUp ((tabEscSlots c t + 7) / 8) 0x200000
    if n = 0 then (0, modTable c t fun x => { x with state := 1 })
    else match spAlloc c n with
    | some (a, c) => (0, modTable c t fun x => { x with state := 1, bitmap := some (a, n) })
    | none => (7, stat c 0x7035 8 1)

/-- Does any segment of the table's Space carry its TABLE_ID? -/
def tableCarried (c : Chip) (t : Nat) : Bool := (getSpace c (tabSpace c t)).segs.any fun s => s.2.kind == 3 && s.2.tableId == t

/-- A table becomes UNDEFINED: its bitmap returns (R154). -/
def undefine (c : Chip) (t : Nat) : Chip :=
  let c := match (getTable c t).bitmap with
    | some b => spFree c b.1
    | none => c
  setTable c t Table.reset

/-- UNDEFINE (R154); an UNDEFINED table answers STATE (DEDUCED). -/
def tableUndefine (t : Nat) (c : Chip) : Nat × Chip :=
  let x := getTable c t
  if x.state = 0 || tableCarried c t || c.lap.posts.any (fun p => p.table == t) then (7, c) else (0, undefine c t)

/-- Table control, object 0x3800+t.02 (R174). -/
def tableControl (t v : Nat) (c : Chip) : Nat × Chip :=
  if v = 1 then tableDefine t c else if v = 2 then tableUndefine t c else (5, c)

/-- TABLE_DEFINE (R154). -/
def execTableDefine (src : Src) (tag t : Nat) (s : State) : Host.Outcome State Fault Refusal :=
  let rq := writeReq tag (0x3800 + t) 2 (leBytes 1 1)
  event "TABLE_DEFINE" (1 ≤ t && t < 256 && presents s.toChip src rq) (serve (tableDefine t) src rq s.toChip) s

/-- TABLE_UNDEFINE (R154). -/
def execTableUndefine (src : Src) (tag t : Nat) (s : State) : Host.Outcome State Fault Refusal :=
  let rq := writeReq tag (0x3800 + t) 2 (leBytes 1 2)
  event "TABLE_UNDEFINE" (1 ≤ t && t < 256 && presents s.toChip src rq) (serve (tableUndefine t) src rq s.toChip) s

/-! Posts (R159). -/

/-- A post record out of its 32 bytes. -/
def postOf (v : Nat) : Post := ⟨fld v 0 1, fld v 4 4, fld v 8 8, fld v 16 4⟩

/-- Has a post record a field out of range (R159)? -/
def postBad (p : Post) : Bool := p.table == 0 || p.addr ≥ 2 ^ 56 || p.addr % 64 != 0 || p.len < 160 || p.len > 134217856

/-- A post record (R159): checked and queued. -/
def lapPost (v : Nat) (c : Chip) : Nat × Chip :=
  let p := postOf v
  if postBad p then (5, c)
  else if (getTable c p.table).state != 2 then (7, c)
  else if c.lap.posts.length ≥ 16 then (6, c)
  else (0, { c with lap := { c.lap with posts := c.lap.posts ++ [p] } })

/-- MANIFEST_POST (R159). -/
def execManifestPost (src : Src) (tag : Nat) (payload : Bytes) (s : State) : Host.Outcome State Fault Refusal :=
  let rq := writeReq tag 0x3800 2 payload
  event "MANIFEST_POST" (presents s.toChip src rq) (serve (lapPost (leNat payload)) src rq s.toChip) s

/-! Starting a manifest (R162 steps 1 to 3). -/

/-- A manifest that has just been taken. -/
def newJob (p : Post) : LapJob :=
  { post := p, srcFmt := 0, commitTick := 0, wantDigest := [], extents := [], raw := [], ext := 0, row := 0, opened := [], opening := [],
    taken := [], toFree := [], staging := [], staged := [], pulls := [], got := [], pulled := [], slotWrites := [], run := (0, 0), bufs := [], refused := false, waitFrom := 0, left := [] }

/-- The translation of the manifest's own addresses. Where a HOST_SVA page is not known to the unit, its ATS request is part of the read
(DESIGN CHOICE, log 118). -/
def manifestWay (c : Chip) (p : Post) : ElemRes :=
  cutElem (p.len + 1) c { sp := tabSpace c p.table, write := false, row := false, sink := false, pins := [], scratch := none, direct := false, memo := [], waits := [] }
    p.addr p.len 0 0 none []

/-- Does the head post's manifest wait on a cause of R73? The post stays queued meanwhile (log 118). -/
def manifestHeld (c : Chip) (p : Post) : Bool := match (manifestWay c p).fin with | .wait _ _ _ => true | _ => false

/-- The reads of a manifest: those over a host port or to a peer count under the pull cap (R172, R175). -/
def readManifest (c : Chip) (es : List Entry) : Chip :=
  let n := es.foldl (fun n e => if offDie e.route then n + e.len else n) 0
  es.foldl (fun c e => match routePort e.route with
    | some p => emit c (.hostRead p e.addr e.len)
    | none => nocReads c e.route e.addr e.len) (stat (payPull c n) 0x7038 6 n)

/-- The head post is taken (R162). The post of a table that serves no longer ends with REASON 8 (DEDUCED from R171); a manifest whose address
faults ends with REASON 6. -/
def applyStart (c : Chip) : Chip :=
  match c.lap.posts with
  | [] => c
  | p :: r =>
    let c := { c with lap := { c.lap with posts := r, job := some (newJob p), failed := false } }
    let c := setApply c fun _ => ⟨1, 0, p.table, p.mseq, 0, 0, 0, 0⟩
    if (getTable c p.table).state != 2 then manifestFail c 8
    else
      let w := manifestWay c p
      match w.fin with
      | .fault cause seg => manifestFail (spaceFault w.c (tabSpace c p.table) cause p.addr 0 lapQ seg true) 6
      | _ => readManifest w.c w.es.reverse

/-- Has Lapidary a channel in service (R361)? -/
def lapRuns (c : Chip) : Bool := obj c 0x3800 1 &&& c.toc.channels != 0

/-- MANIFEST_APPLY_START (R162): it starts nothing without a channel in service (R361), nor for a frozen table (R290). -/
def execManifestApplyStart (s : State) : Host.Outcome State Fault Refusal :=
  let c := s.toChip
  eventOn 6 "MANIFEST_APPLY_START" (serving c && enabled c 6 && !followsLead c && lapRuns c && c.lap.job.isNone
    && (c.lap.posts.head?.map fun p => !isFrozen c .table p.table && !manifestHeld c p).getD false) (react (applyStart c)) s

/-! The scan: reaching grains (R161, R162 step 4). -/

/-- The extents out of the bytes that follow the header (R161). -/
def extentsOf (bs : Bytes) : Nat → List Extent
  | 0 => []
  | n + 1 => ⟨bfld bs 0 8, bfld bs 8 4, bfld bs 16 8, bfld bs 24 4⟩ :: extentsOf (bs.drop 32) n

/-- The reason for which a header fails R160, 0 when it passes. The field ranges of EXTENTS are checked with LENGTH (DEDUCED). -/
def headerReason (c : Chip) (p : Post) (bs : Bytes) : Nat :=
  if bfld bs 0 4 != 0x4D50414C || bfld bs 4 1 != p.table || bfld bs 5 1 > 2 then 1
  else if bfld bs 8 4 != p.mseq || p.mseq != ((getTable c p.table).lastSeq + 1) % 2 ^ 32 then 2
  else if bfld bs 12 4 < 1 || bfld bs 12 4 > 4194304 || p.len != 128 + 32 * bfld bs 12 4 then 3
  else 0

/-- What a port logs of a manifest's read (R315): the port of its first bytes. -/
def manifestLog (c : Chip) (r : RdResult) : Chip :=
  match c.lap.job.bind fun j => (manifestWay c j.post).es.getLast?.bind fun e => routePort e.route with
  | some p => logRead c p r
  | none => c

/-- The header and the extents have arrived (R162 steps 1 to 3): the header is checked first, then the memory is taken; while a pool cannot
supply it Lapidary waits, and asks again (R98). A read that fails ends the manifest with REASON 6. -/
def headerArrive (r : RdResult) (c : Chip) : Chip :=
  let c := manifestLog c r
  match c.lap.job, r with
  | some j, .data bs =>
    let why := headerReason c j.post bs
    if why != 0 then manifestFail c why
    else
      let c := memoryGo (modJob c fun j => { j with
        srcFmt := bfld bs 5 1, commitTick := bfld bs 16 8, wantDigest := (bs.drop 32).take 48
        extents := extentsOf (bs.drop 128) (bfld bs 12 4), raw := bs })
      if c.lap.stat.state = 1 then stat c 0x7035 8 1 else c
  | some _, _ => manifestFail c 6
  | none, _ => c

/-- MANIFEST_HEADER_ARRIVE (R162). A read that fails ends the manifest as a failed stroke does. -/
def execManifestHeaderArrive (r : RdResult) (s : State) : Host.Outcome State Fault Refusal :=
  let due := (s.lap.job.map fun j => s.lap.stat.state == 1 && j.raw.isEmpty && rdFits r j.post.len).getD false
  eventOn 6 "MANIFEST_HEADER_ARRIVE" due (react (headerArrive r s.toChip)) s

/-! Opening a grain (R90, R162 step 4). -/

/-- Has the open table room (R170, REASON 10)? -/
def openRoom (j : LapJob) : Bool := j.opened.length < j.run.2 / 16

/-- Is the fresh frame of a grain filled from the current copy (R162 step 4)? -/
def fillNeeded (c : Chip) (j : LapJob) (seg g : Nat) : Bool :=
  let t := j.post.table
  let n := rowsPerGrain c t
  !(seg == tabRowSeg c t && tabEscSeg c t == 0xFF && manifestRows j.extents (g * n) n == n)

/-- A set descriptor of Lapidary's own, on a Lapidary channel. -/
def lapSd (c : Chip) (x : LapItem) (sp body : Nat) (src dst : List Entry) : Chip :=
  let i := c.lap.next % 2 ^ 32
  let c := { c with lap := { c.lap with next := i + 1, items := tset c.lap.items i x } }
  bindBest (ownSd c (.lap i) sp body src dst) (.lap i)

/-- Refresh open on a grain that is FAR or RESIDENT (R90): FRESH sets, a fresh frame is taken as requester 0 and filled from the current copy.
POOL_EMPTY leaves the open waiting. -/
def grainOpen (seg g : Nat) (c : Chip) : Chip :=
  match c.lap.job with
  | none => c
  | some j =>
    let t := j.post.table
    let sp := tabSpace c t
    let s := getSeg (getSpace c sp) seg
    if !openRoom j then manifestFail c 10
    else match takeFrame c s.grain 0 (.fresh t) with
    | (none, c) => modJob c fun j => { j with opening := j.opening.map fun x =>
        if x.1 = seg && x.2.1 = g && x.2.2 = 0 then (seg, g, now c + 1) else x }
    | (some k, c) =>
      let v := entryOf c sp seg g
      let fill := fillNeeded c j seg g
      let c := tellOther (setFresh c sp seg g true) sp seg g
      let c := setApply (stat c 0x7038 8 1) fun a => { a with grains := a.grains + 1 }
      let c := modJob c fun j => { j with
        opened := j.opened ++ [⟨seg, g, k, 0, !fill⟩], opening := j.opening.filter fun x => !(x.1 == seg && x.2.1 == g) }
      if fill then
        lapSd c ⟨none, seg, g, k, 0, 0⟩ sp (contigBody 0 0 0 (grainBytes s))
          (if eRes v then frameEntries c s (eFrame c v) else farEntries s g (eSealed v)) (frameEntries c s k)
      else c

/-- GRAIN_OPEN (R90, R162): the open has been issued and the grain does not migrate. -/
def execGrainOpen (seg grain : Nat) (s : State) : Host.Outcome State Fault Refusal :=
  let c := s.toChip
  let due := (c.lap.job.map fun j => j.opening.any (fun x => x.1 == seg && x.2.1 == grain)
    && !eMigr (entryOf c (tabSpace c j.post.table) seg grain) && sdRoom c).getD false
  eventOn 6 "GRAIN_OPEN" due (react (grainOpen seg grain c)) s

/-! Quantising a row (R158). -/

/-- STEP of a row (R158 steps 1 and 2), from the table's CLIP and format and the largest finite magnitude. -/
def rowStep (clip fmt : Nat) (m : Nat × Nat) : Nat :=
  if m.1 = 0 then 0x3F800000
  else
    let q := fmtLargest fmt
    let r := roundFloat 0 ((clip % 2 ^ 23 + 2 ^ 23) * m.1 * q.2) (2 ^ (150 - clip / 2 ^ 23) * m.2 * q.1)
    if r = 0 then 1 else r

/-- The quantising scale 1 / STEP (R158 step 3). -/
def rowScale (step : Nat) : Nat :=
  match decodeNum 0 step with
  | .fin _ n d => let r := roundFloat 0 d n; if r ≥ 0x7F800000 then 0x7F7FFFFF else r
  | _ => 0x7F7FFFFF

/-- Is a source code an infinity? -/
def isInfNum (x : Num) : Bool := match x with | .inf _ => true | _ => false

/-- What quantising a row gives: STEP, the scale, the codes, the counts, whether it should escape. -/
structure RowResult where
  step : Nat
  scale : Nat
  codes : List Nat
  cnt : ConvCount
  escape : Bool
  deriving DecidableEq, Repr

/-- Quantise the source codes of a row (R158). -/
def quantise (c : Chip) (t sf : Nat) (xs : List Nat) : RowResult :=
  let step := rowStep (tabClip c t) (tabFmt c t) (largestMag sf xs)
  let s := rowScale step
  let r := convertRun sf (tabFmt c t) false (xs.map fun x => (x, s))
  ⟨step, s, r.1, r.2, r.2.sat > tabSatLim c t || r.2.unf > tabUnfLim c t || r.2.nan > 0 || xs.any fun x => isInfNum (decodeNum sf x)⟩

/-- The 8-byte header of a row (R156). -/
def rowHeader (step sat : Nat) (slot : Option Nat) : Nat :=
  packBits [(step, 32), (slot.getD 0, 24), (0, 6), (b2n (sat > 0), 1), (b2n slot.isSome, 1)]

/-- The bytes of an escape slot (R157): owner row, V BF16 values with scale 1.0 in OVERFLOW mode, zeros to EB. -/
def slotValue (c : Chip) (t sf row : Nat) (xs : List Nat) : Bytes :=
  padTo (slotBytes c t) (leBytes 8 row ++ packCodes 1 (convertRun sf 1 true (xs.map fun x => (x, 0x3F800000))).1)

/-- Insert a number in a rising list. -/
def insertNat (n : Nat) : List Nat → List Nat
  | [] => [n]
  | x :: r => if n < x then n :: x :: r else if n = x then x :: r else x :: insertNat n r

/-- The lowest free escape slot of a table, when it has one (R157). -/
def freeSlot (c : Chip) (t : Nat) : Option Nat :=
  let n := lowestGap (getTable c t).slots 0
  if tabEscSeg c t != 0xFF && n < tabEscSlots c t then some n else none

/-- An escape is refused (R157, R158): counted, and one Note for the manifest. -/
def refuseEscape (c : Chip) (t : Nat) : Chip :=
  let first := (c.lap.job.map fun j => !j.refused).getD false
  let c := modJob (stat c 0x7038 5 1) fun j => { j with refused := true }
  if first then raiseEv c 179 t 1 0 else c

/-- A row takes its escape slot: the slot's grain is opened if need be, and the slot is written when it is open (R162 step 7). -/
def takeSlot (c : Chip) (t n : Nat) (bs : Bytes) : Chip :=
  let c := modTable c t fun x => { x with slots := insertNat n x.slots }
  let c := modJob c fun j => { j with taken := n :: j.taken, slotWrites := j.slotWrites ++ [(n, bs)] }
  openEscapes (flushSlots (setApply (stat c 0x7038 4 1) fun a => { a with escaped := a.escaped + 1 }))

/-- The old header's escape slot is marked to be freed at publish (R162 step 6). -/
def markOldSlot (c : Chip) (t old : Nat) : Chip :=
  if tabEscSeg c t != 0xFF && bit old 63 then modJob c fun j => { j with toFree := j.toFree ++ [bits old 32 24] } else c

/-- The transfer descriptor of a row's converting stroke (R162 step 6): SATURATE mode, SCALE_SEL BY_I1, one element a side. -/
def codeBody (sf fmt v : Nat) : Nat :=
  1 + sf * 2 ^ 32 + fmt * 2 ^ 36 + 2 * 2 ^ 68 + v * fmtBits sf / 8 * 2 ^ 352 + v * fmtBits fmt / 8 * 2 ^ 736

/-- A row's values have been pulled (R162 steps 5 to 7): it is quantised, its slot is taken, and its codes go to the fresh frame by a converting
stroke. -/
def rowDone (c : Chip) (j : LapJob) (g : OpenGrain) (row place : Nat) (bs : Bytes) (old : Nat) : Chip :=
  let t := j.post.table
  let v := tabValues c t
  let xs := unpackCodes j.srcFmt bs
  let r := quantise c t j.srcFmt xs
  let slot := if r.escape then freeSlot c t else none
  let c := markOldSlot (modJob c fun j => { j with pulled := tset j.pulled row bs, got := j.got.filter fun x => x.1 / 4 != row }) t old
  let c := match slot with
    | some n => takeSlot c t n (slotValue c t j.srcFmt row xs)
    | none => if r.escape then refuseEscape c t else c
  let a := frameAddr c g.frame + row % rowsPerGrain c t * tabRowBytes c t + 8
  lapSd c ⟨some row, g.seg, g.grain, g.frame, r.scale, rowHeader r.step r.cnt.sat slot⟩ (tabSpace c t) (codeBody j.srcFmt (tabFmt c t) v)
    (runEntries (hbmRoute c place) place 0 false false bs.length) (runEntries (hbmRoute c a) a 0 false false (v * fmtBits (tabFmt c t) / 8))

/-- A row whose values lie in the staging area, not quantised yet: the grain it goes to, filled, and the place (R162). -/
def rowReady (c : Chip) (j : LapJob) (row : Nat) : Option (OpenGrain × Nat) :=
  match tget j.staged row, openedGrain j (tabRowSeg c j.post.table) (row / rowsPerGrain c j.post.table) with
  | some a, some g => if g.filled && (tget j.pulled row).isNone && j.pulls.all (·.2 != row) then some (g, a) else none
  | _, _ => none

/-- The values that the strokes of a row's pull brought. -/
def pullData (j : LapJob) (row : Nat) : Bytes := (j.got.filter fun x => x.1 / 4 == row).flatMap (·.2)

/-- The effect of ROW_PULL_COMPLETE. -/
def rowPull (row : Nat) (r : RdResult) (old : Nat) (c : Chip) : Chip :=
  match c.lap.job, r with
  | some j, .data bs =>
    match rowReady c j row with
    | some x => rowDone c j x.1 row x.2 bs old
    | none => c
  | _, _ => c

/-- ROW_PULL_COMPLETE (R162): the row's grain is open and filled, its values have come; a pull that fails ends before this (R126, R170).
`oldHeader` is the header read from the fresh copy. -/
def execRowPullComplete (row : Nat) (r : RdResult) (oldHeader : Nat) (s : State) : Host.Outcome State Fault Refusal :=
  let c := s.toChip
  let due := (c.lap.job.map fun j => c.lap.stat.state == 2 && (rowReady c j row).isSome && sdRoom c && r == .data (pullData j row)).getD false
  eventOn 6 "ROW_PULL_COMPLETE" due (react (rowPull row r oldHeader c)) s

/-! Commit and publish (R164 to R169). -/

/-- The content digest (R164). -/
def contentDigest (j : LapJob) : Bytes := sha384 (j.pulled.flatMap fun p => p.2)

/-- Is every grain of the manifest complete (R162 step 8)? -/
def allApplied (c : Chip) (j : LapJob) : Bool :=
  j.extents.length ≤ j.ext && j.opening.isEmpty && j.slotWrites.isEmpty && j.opened.all (grainDone c j)

/-- The manifest waits to commit, or fails its digest (R164). -/
def applied (c : Chip) : Chip :=
  match c.lap.job with
  | none => c
  | some j =>
    if j.wantDigest != zeros 48 && contentDigest j != j.wantDigest then manifestFail c 5
    else setApply (modJob c fun j => { j with waitFrom := now c }) fun a => { a with state := 3 }

/-- MANIFEST_APPLIED (R162). -/
def execManifestApplied (s : State) : Host.Outcome State Fault Refusal :=
  eventOn 6 "MANIFEST_APPLIED" (s.lap.stat.state == 2 && (s.lap.job.map (allApplied s.toChip)).getD false && !s.lap.failed) (react (applied s.toChip)) s

/-- Does a grain come before another in a commit (R166)? -/
def grainBefore (a b : OpenGrain) : Bool := a.seg < b.seg || (a.seg == b.seg && a.grain < b.grain)

/-- Insert a grain in commit order. -/
def insertGrain (a : OpenGrain) : List OpenGrain → List OpenGrain
  | [] => [a]
  | b :: r => if grainBefore a b then a :: b :: r else b :: insertGrain a r

/-- The commit sweep begins (R166 step 2). -/
def commitStart (c : Chip) : Chip :=
  setApply (modJob c fun j => { j with left := j.opened.foldl (fun l g => insertGrain g l) [] }) fun a => { a with state := 4 }

/-- COMMIT_START (R166 step 1): COMMIT_TICK has come and no older epoch is live. -/
def execCommitStart (t : Nat) (s : State) : Host.Outcome State Fault Refusal :=
  let c := s.toChip
  let due := (c.lap.job.map fun j => c.lap.stat.state == 3 && !isFrozen c .table j.post.table && j.commitTick ≤ nowAt c t && (getTable c j.post.table).older == 0).getD false
  eventOn 6 "COMMIT_START" due (commitStart (advance c t)) s

/-- The 149 bytes of R169. -/
def lineageBytes (x : Table) (j : LapJob) (e : Nat) : Bytes :=
  padTo 48 x.lineage ++ sha384 j.raw ++ contentDigest j ++ leBytes 1 j.post.table ++ leBytes 4 e

/-- The older epoch's last pin is gone: its release starts with a drain mark (R168). -/
def startRelease (c : Chip) (t : Nat) : Chip :=
  let x := getTable c t
  if x.older = 1 && x.pins1 = 0 then drainMark (setTable c t { x with older := 2 }) (tabSpace c t) (.table t) else c

/-- PUBLISH (R166 step 3): the epoch advances, the lineage digest changes, marked slots are freed. -/
def publish (c : Chip) : Chip :=
  match c.lap.job with
  | none => c
  | some j =>
    let t := j.post.table
    let x := getTable c t
    let e := (x.epoch + 1) % 2 ^ 32
    let c := setTable c t { x with
      epoch := e, newest := e, older := 1, pins1 := x.pins0, pins0 := 0, lastSeq := j.post.mseq, lineage := sha384 (lineageBytes x j e)
      slots := x.slots.filter (fun n => !j.toFree.contains n), priorRun := j.run, publishTick := now c, alerted := false }
    let c := setJob (releaseJob c j true) none
    let c := { c with lap := { c.lap with holding := false } }
    let c := stat (setApply c fun a => { a with state := 5, tick := now c }) 0x7038 1 1
    startRelease c t

/-- In DOUBLET the publish is held until unit 1 acknowledges it (R285): its sequence goes with it (R287). -/
def holdPublish (c : Chip) : Chip :=
  match c.lap.job with
  | none => c
  | some j =>
    let t := j.post.table
    let x := getTable c t
    let n := (seqOf c (mirrorKey .table t) + 1) % 2 ^ 32
    let e := (x.epoch + 1) % 2 ^ 32
    let c := { c with dbl := { c.dbl with seqs := tset c.dbl.seqs (mirrorKey .table t) n }, lap := { c.lap with holding := true } }
    emit c (.bridge 6 (leBytes 16 (pack [(t, 1), (0, 3), (n, 4), (e, 4), (j.post.mseq, 4)]) ++ sha384 (lineageBytes x j e)))

/-- The entry of a grain after its commit (R90): the fresh frame, DIRTY, PRIOR, VERSION + 1; a FAR grain takes TALLY T. -/
def committedEntry (c : Chip) (v k : Nat) : Nat :=
  let w := setBits v 48 16 (bits v 48 16 + 1)
  let w := setFrame c (setState (setBit (setBit (setBit w 34 true) 37 true) 36 false) false true) k
  if isFar v then setTally w (obj c 0x3500 6) else w

/-- Commit one grain (R90, R166): its old entry stays in the prior table, and an old frame passes to it. -/
def commitGrain (c : Chip) (t : Nat) (g : OpenGrain) : Chip :=
  let sp := tabSpace c t
  let v := entryOf c sp g.seg g.grain
  let c := putEntry c sp g.seg g.grain (committedEntry c v g.frame)
  let c := useFrame c g.frame (.grain sp g.seg g.grain)
  let c := if eRes v then useFrame c (eFrame c v) (.prior t) else c
  let c := modTable c t fun x => { x with newest := (x.epoch + 1) % 2 ^ 32, prior := x.prior ++ [{ g with old := v }] }
  tellOther c sp g.seg g.grain

/-- One grain of the commit sweep; after the last one the commit is published (R166). -/
def commitStep (c : Chip) : Chip :=
  match c.lap.job with
  | some j => match j.left with
    | g :: r =>
      let c := modJob (commitGrain c j.post.table g) fun j => { j with left := r }
      if !r.isEmpty then c else if c.mode = .doublet then holdPublish c else publish c
    | [] => c
  | none => c

/-- COMMIT_SWEEP_STEP (R166): the next grain is not migrating. -/
def execCommitSweepStep (s : State) : Host.Outcome State Fault Refusal :=
  let c := s.toChip
  let due := (c.lap.job.map fun j => c.lap.stat.state == 4
    && (j.left.head?.map fun g => !eMigr (entryOf c (tabSpace c j.post.table) g.seg g.grain)).getD false).getD false
  eventOn 6 "COMMIT_SWEEP_STEP" due (react (commitStep c)) s

/-- PUBLISH_ACK (R285). -/
def execPublishAck (s : State) : Host.Outcome State Fault Refusal :=
  eventOn 6 "PUBLISH_ACK" s.lap.holding (react (publish s.toChip)) s

/-! Release (R168). -/

/-- The older epoch ceases to be live; the wait of a commit for it is counted (R168, R175). -/
def releaseEnd (c : Chip) (t : Nat) : Chip :=
  let x := getTable c t
  let c := countWait c t
  let c := if x.priorRun.2 = 0 then c else spFree c x.priorRun.1
  setTable c t { x with older := 0, prior := [], priorRun := (0, 0), relLeft := [], alerted := false }

/-- PRIOR_EPOCH_DRAINED for the next grain of the prior table (R90, R168): PRIOR clears, a prior frame returns to its list. -/
def releaseStep (t : Nat) (c : Chip) : Chip :=
  let x := getTable c t
  match x.relLeft with
  | [] => c
  | g :: r =>
    let sp := tabSpace c t
    let c := tellOther (clearPrior c sp g) sp g.seg g.grain
    let c := if eRes g.old then freeFrame c (eFrame c g.old) else c
    let c := modTable c t fun x => { x with relLeft := r, prior := x.prior.filter (· != g) }
    if r.isEmpty then releaseEnd c t else c

/-- RELEASE_SWEEP_STEP (R168): the table's older epoch reads RELEASING. -/
def execReleaseSweepStep (t : Nat) (s : State) : Host.Outcome State Fault Refusal :=
  eventOn 6 "RELEASE_SWEEP_STEP" ((getTable s.toChip t).older == 3 && !(getTable s.toChip t).relLeft.isEmpty)
    (react (releaseStep t s.toChip)) s

/-! The stall alert and aborts. -/

/-- Is the older epoch of a table live past the Refresh stall alert time (R168)? -/
def epochStalled (c : Chip) (t tick : Nat) : Bool :=
  let x := getTable c t
  x.older != 0 && !x.alerted && x.publishTick + obj c 0x3800 7 ≤ tick

/-- Does a grain open wait that long for a frame? -/
def openStalled (c : Chip) (tick : Nat) (x : Nat × Nat × Nat) : Bool :=
  x.2.2 != 0 && x.2.2 < 2 ^ 65 && x.2.2 - 1 + obj c 0x3800 7 ≤ tick

/-- A grain open of the table's manifest is past the alert time. -/
def jobStalled (c : Chip) (t tick : Nat) : Bool :=
  (c.lap.job.map fun j => j.post.table == t && j.opening.any (openStalled c tick)).getD false

/-- The alert of R168 on source 179; the wait continues. -/
def stallAlert (c : Chip) (t : Nat) : Chip :=
  let tick := now c
  let c := if epochStalled c t tick then modTable c t fun x => { x with alerted := true } else c
  let c := if jobStalled c t tick then
      modJob c fun j => { j with opening := j.opening.map fun x => if openStalled c tick x then (x.1, x.2.1, 2 ^ 65) else x } else c
  raiseEv c 179 t 2 0

/-- REFRESH_STALL_ALERT (R168). -/
def execRefreshStallAlert (t tick : Nat) (s : State) : Host.Outcome State Fault Refusal :=
  let c := s.toChip
  eventOn 6 "REFRESH_STALL_ALERT" (epochStalled c t (nowAt c tick) || jobStalled c t (nowAt c tick)) (stallAlert (advance c tick) t) s

/-- An abort request, object 0x3800.05 (R167, R170, R173). -/
def lapAbort (t : Nat) (c : Chip) : Nat × Chip :=
  let mine := (c.lap.job.map fun j => j.post.table == t).getD false
  if t = 0 || t > 255 then (5, c)
  else if !mine || c.lap.stat.state < 1 || c.lap.stat.state > 3 then (7, c)
  else (0, manifestFail c 7)

/-- LAPIDARY_ABORT_REQUEST (R170). -/
def execLapidaryAbortRequest (src : Src) (tag t : Nat) (s : State) : Host.Outcome State Fault Refusal :=
  let rq := writeReq tag 0x3800 5 (leBytes 1 t)
  event "LAPIDARY_ABORT_REQUEST" (presents s.toChip src rq) (react (serve (lapAbort (t % 256)) src rq s.toChip)) s

/-- Entry into ROUGH (R171): what has not begun to commit ends with REASON 9, queued posts are discarded, sweeps go on. -/
def lapRough (c : Chip) : Chip :=
  let c := if c.lap.job.isSome && c.lap.stat.state < 4 then manifestFail c 9 else c
  { c with lap := { c.lap with posts := [] } }

end Sys2Proof.Machine
end

