-- ==== Sys2Proof/Machine/Belfry.lean ====
section
/-! DEFINITION. Belfry's commands (R176 to R200): doorbells, fetching, completion, queue control, the watchdog. -/

namespace Sys2Proof.Machine

/-! Doorbells (R181, R183). -/

/-- Is the page of a queue live on a port: its home port, and the queue is not FREE (R181)? -/
def pageLive (c : Chip) (p : HPort) (q : Nat) : Bool := homePort c q == p && (getQueue c q).state != 0

/-- A write discarded under R181 is counted. -/
def pageDiscard (c : Chip) : Chip := stat c 0x7020 5 1

/-- Is the page open in this mode: in ROUGH only queue 0's (R363)? -/
def pageOpen (c : Chip) (q : Nat) : Bool := c.mode != .rough || q == 0

/-- Is a write at offset `o` of a page allowed: Belfry's clock is on, and a write of DOORBELL has 32 bits (R181, R307)? -/
def pageAllowed (c : Chip) (p : HPort) (q o size : Nat) : Bool :=
  enabled c 0 && (4 ≤ o || size == 4 || !pageLive c p q || !pageOpen c q)

/-- A write to a queue page (R181, R183, R363): DOORBELL enters the lane; everything else is discarded, and counted when R181 discards it. -/
def pageWrite (c : Chip) (p : HPort) (q o value : Nat) : Chip :=
  if !pageLive c p q then pageDiscard c
  else if !pageOpen c q then c
  else if o = 0 then pushValue c q value true
  else pageDiscard c

/-- DOORBELL_WRITE (R181, R183): a full lane withholds the port's credits. -/
def execDoorbellWrite (p : HPort) (q size value : Nat) (s : State) : Host.Outcome State Fault Refusal :=
  let c := s.toChip
  event "DOORBELL_WRITE" (hostPosts c p && q < 4096)
    (hostWrite c p size (pageAllowed c p q 0 size) fun c => pageWrite c p q 0 value) s

/-! Taking producer values (R184, R185). -/

/-- The ERROR of an OVERRUN takes effect when F has reached the old P (R184); otherwise the idle check (R185). -/
def idleCheck (c : Chip) (q : Nat) : Chip :=
  modQueue c q fun x =>
    if x.overrun && x.f == x.overAt && 1 ≤ x.state && x.state ≤ 3 then { x with overrun := false, state := 3, cause := 5 }
    else if x.state = 2 && x.f == x.p then { x with state := 1 }
    else x

/-- The judgement of R184 on a value of queue `q`. -/
def takeValue (c : Chip) (q d : Nat) : Chip :=
  let c := stat c 0x7020 1 1
  let x := getQueue c q
  let ahead := (d + 2 ^ 32 - x.p) % 2 ^ 32
  if x.state = 0 || x.state > 3 then c
  else if ahead = 0 || 2 ^ 31 ≤ ahead then stat c 0x7020 2 1
  else if (d + 2 ^ 32 - x.shown % 2 ^ 32) % 2 ^ 32 > qSize c q then
    idleCheck (setQueue (stat c 0x7020 3 1) q { x with overrun := true, overAt := if x.overrun then x.overAt else x.p }) q
  else watchRing (setQueue c q { x with p := d, state := if x.state = 1 then 2 else x.state }) q

/-- PRODUCER_VALUE_TAKE (R184). -/
def execProducerValueTake (lane : Nat) (s : State) : Host.Outcome State Fault Refusal :=
  let c := s.toChip
  eventOn 0 "PRODUCER_VALUE_TAKE" (lane < 4 && !(laneOf c lane).isEmpty)
    (match laneOf c lane with | (q, d, _) :: r => takeValue (setLane c lane r) q d | [] => c) s

/-! Fetching (R177, R178, R180). -/

/-- Entries fetched and not yet complete (R181). -/
def inFlight (x : Queue) : Nat := (x.f + 2 ^ 32 - x.completed % 2 ^ 32) % 2 ^ 32 - x.doneSet.length

/-- The index at which fetching stops: P, or the old P of an OVERRUN. -/
def fetchEnd (x : Queue) : Nat := if x.overrun then x.overAt else x.p

/-- Entries of the next ring read (R178): up to 16, within the ring, a 4 KiB block, the limit and the producer index. -/
def fetchCount (c : Chip) (q : Nat) : Nat :=
  let x := getQueue c q
  let slot := x.f % qSize c q
  min (min 16 ((fetchEnd x + 2 ^ 32 - x.f) % 2 ^ 32)) (min (min (qSize c q - slot) (64 - slot % 64)) (qLimit c q - inFlight x))

/-- May Belfry fetch for a queue: ACTIVE, no read of it in flight (DESIGN CHOICE: one at a time), entries to read, a port that can issue? In
ROUGH only queue 0 runs (R193). -/
def canFetch (c : Chip) (q : Nat) : Bool :=
  let x := getQueue c q
  x.state == 2 && x.reading == 0 && fetchCount c q != 0 && canIssue c (homePort c q) && !ideShut c (homePort c q) && enabled c 0
    && (serving c || q == 0)

/-- The fetch arbiter's choice, by rotation (R182). -/
def fetchNext (c : Chip) : Option Nat :=
  let p := c.bel.fetchPtr % 4096
  let qs := (c.bel.queues.map (·.1)).filter fun q => canFetch c q
  match qs.find? fun q => p ≤ q with
  | some q => some q
  | none => qs.head?

/-- Issue the ring read of a queue; the idle check follows (R178, R185). -/
def fetchIssue (c : Chip) (q : Nat) : Chip :=
  let n := fetchCount c q
  let x := getQueue c q
  let c := unitRead c (homePort c q) (qRing c q + x.f % qSize c q * 64) (64 * n)
  let c := setQueue c q { x with f := (x.f + n) % 2 ^ 32, reading := n }
  idleCheck { c with bel := { c.bel with fetchPtr := (q + 1) % 4096 } } q

/-- RING_FETCH_ISSUE (R178). -/
def execRingFetchIssue (s : State) : Host.Outcome State Fault Refusal :=
  let q := fetchNext s.toChip
  eventOn 0 "RING_FETCH_ISSUE" q.isSome (match q with | some q => fetchIssue s.toChip q | none => s.toChip) s

/-- OP of an entry. -/
def enOp (v : Nat) : Nat := bits v 0 2

/-- CMD of a Bootstrap entry (R232). -/
def bCmd (v : Nat) : Nat := fld v 8 1
/-- Operand A of a Bootstrap entry. -/
def bA (v : Nat) : Nat := fld v 16 8
/-- Operand B of a Bootstrap entry. -/
def bB (v : Nat) : Nat := fld v 24 8
/-- Operand C of a Bootstrap entry. -/
def bC (v : Nat) : Nat := fld v 32 8
/-- Operand D of a Bootstrap entry. -/
def bD (v : Nat) : Nat := fld v 40 8

/-- A Bootstrap command that is not listed, an operand out of range, or a reserved field not 0 (R180, R232). -/
def bootFieldBad (c : Chip) (v : Nat) : Bool :=
  let k := bCmd v
  let dva := fun (a : Nat) => a ≥ 2 ^ 56
  fld v 10 6 != 0 || fld v 48 8 != 0 || (k != 2 && fld v 9 1 != 0) || fld v 9 1 > 1 ||
  (if k = 1 then dva (bA v) || dva (bB v) || bC v < 1 || bC v > 2 ^ 40 || bD v != 0
   else if k = 2 then dva (bA v) || bB v != 0 || bC v < 1 || bC v > 2 ^ 40
   else if k = 3 then bA v % 64 != 0 || bB v != 0 || bC v != 0 || bD v != 0
   else if k = 4 then dva (bA v) || fld v 32 1 ≥ clusterCount c || fld v 33 1 > 15 || fld v 34 6 != 0 || bD v != 0
   else if k = 5 then bB v != 0 || bC v != 0 || bD v != 0
   else if k = 6 then dva (bA v) || bC v < 1 || bC v > 2 ^ 32 || bD v != 0
   else true)

/-- A count, size, alignment or reserved field of an entry breaks R179. A Bootstrap entry keeps only bits [63:0]. -/
def entryFieldBad (c : Chip) (q v : Nat) : Bool :=
  bits v 2 2 != 0 || bits v 6 26 != 0 || (enOp v == 2 && bootFieldBad c v) ||
  (q != 0 && (bits v 74 6 != 0 || bits v 89 7 != 0 || bits v 109 147 != 0 || enPatch v > 4096 || enPatch v % 8 != 0 || enHandles v > 256
    || bits v 320 64 % 8 != 0 || (enHandles v == 0 && bits v 320 64 != 0) || bits v 256 64 % 64 != 0 || (enPatch v == 0 && bits v 256 64 != 0)))

/-- The CAUSE of the first check of R180 that an entry fails, 0 when it passes. -/
def entryCause (c : Chip) (q e v : Nat) : Nat :=
  if enOp v = 3 || (enOp v = 1 && q = 0) || (enOp v = 2 && q != 0) then 1
  else if bits v 32 32 != e then 2
  else if entryFieldBad c q v then 3
  else if enRecord v && qRecord c q = 0 then 4
  else 0

/-- The entries of a ring read, in index order: a NOP completes, another entry waits for the GFE, the first failed check stops the queue with
F at that entry (R179, R180). -/
def takeEntries (c : Chip) (q e : Nat) : List Nat → Chip
  | [] => c
  | v :: vs =>
    let why := entryCause c q e v
    if why != 0 then modQueue c q fun x => { x with f := e, state := 3, cause := why }
    else
      let c := if enOp v = 0 then completeEntry c q (entryRecord c e v 0) else modQueue c q fun x => { x with await := x.await ++ [(e, v)] }
      takeEntries c q ((e + 1) % 2 ^ 32) vs

/-- Cut a byte string into 64-byte values. -/
def values64 (bs : Bytes) : Nat → List Nat
  | 0 => []
  | n + 1 => leNat (bs.take 64) :: values64 (bs.drop 64) n

/-- The effect of RING_READ_COMPLETE: in a destroy the read is discarded (R192); a read that fails is RING_ERROR. -/
def ringRead (q : Nat) (r : RdResult) (c : Chip) : Chip :=
  let x := getQueue c q
  let e := (x.f + 2 ^ 32 - x.reading) % 2 ^ 32
  let c := logRead (setQueue c q { x with reading := 0 }) (homePort c q) r
  if x.state = 5 then c
  else match r with
  | .data bs => takeEntries c q e (values64 bs x.reading)
  | _ => modQueue c q fun y => { y with f := e, state := 3, cause := 6 }

/-- Does the data of a ring read agree with the lines of the cache that it was read through (R269)? -/
def ringAgrees (c : Chip) (q : Nat) (r : RdResult) : Bool :=
  let x := getQueue c q
  match r with
  | .data bs => linesAgree c (homePort c q) (qRing c q + (x.f + 2 ^ 32 - x.reading) % 2 ^ 32 % qSize c q * 64) bs
  | _ => true

/-- RING_READ_COMPLETE (R180). -/
def execRingReadComplete (q : Nat) (r : RdResult) (s : State) : Host.Outcome State Fault Refusal :=
  let x := getQueue s.toChip q
  eventOn 0 "RING_READ_COMPLETE" (x.reading != 0 && rdFits r (64 * x.reading) && ringAgrees s.toChip q r) (react (ringRead q r s.toChip)) s

/-! Completion (R188, R189). -/

/-- The completion of a launch (R188): its record, COMPLETED and the mirror; its Pattern's estimate moves (R246). -/
def finishEntry (c : Chip) (l : Launch) : Chip :=
  let c := completeEntry (estimateUpdate c l) l.q (launchRecord l)
  dropLaunch c l.q l.e

/-- Is a launch among those that the flush read in flight on a port serves? -/
def inFlush (c : Chip) (q e : Nat) (p : HPort) : Bool := (two c.bel.flush p).cur.contains (q, e)

/-- Does a launch share the next flush read of a port? -/
def nextFlush (c : Chip) (q e : Nat) (p : HPort) : Bool := (two c.bel.flush p).next.contains (q, e)

/-- COMPLETION_FLUSH_READ_COMPLETE is due: the launch has asked for its flush reads, and one that serves it is in flight or none is left (R189). -/
def dueFlush (c : Chip) (q e : Nat) : Bool :=
  ((getLaunch c q e).map fun l => l.asked && mayFinish c l).getD false
    && (inFlush c q e .a || inFlush c q e .b || !(nextFlush c q e .a || nextFlush c q e .b))

/-- The flush reads in flight that serve a launch return, for every launch that shares them; with none left, its entry completes (R188, R189). -/
def flushDone (c : Chip) (q e : Nat) : Chip :=
  let c := [HPort.a, HPort.b].foldl (fun c p => if inFlush c q e p then modFlush c p fun f => { f with cur := [] } else c) c
  if nextFlush c q e .a || nextFlush c q e .b then c
  else match getLaunch c q e with
  | some l => finishEntry c l
  | none => c

/-- COMPLETION_FLUSH_READ_COMPLETE (R188, R189). -/
def execCompletionFlushReadComplete (q e : Nat) (s : State) : Host.Outcome State Fault Refusal :=
  eventOn 0 "COMPLETION_FLUSH_READ_COMPLETE" (dueFlush s.toChip q e) (react (flushDone s.toChip q e)) s

/-! Queue control (R182, R192, R197, R199). -/

/-- Does a queue configuration break a range, an alignment or its Space's state (R176, R177, R199)? -/
def queueConfBad (c : Chip) (q : Nat) : Bool :=
  let v := qConf c q
  let h := homePort c q
  qRing c q % 4096 != 0 || qRecord c q % 4096 != 0 || qMirror c q % 8 != 0 || qSilent c q % 4 != 0 || qToken c q % 16 != 0 || qToken c q == 0
    || fld v 43 1 != (if q = 0 then 1 else 0) || fld v 44 1 > 1 || qLog c q < 6 || qLog c q > 16 || qLimit c q < 1 || qLimit c q > 64
    || (if q = 0 then qSpace c q != 0 else qSpace c q < 1 || qSpace c q > 1023 || (getSpace c (qSpace c q)).state != 2)
    || (qSilent c q != 0 && ((getPort c h).proto != 1 || (cohFind c h (qSilent c q) 4 (· != 0)).isNone))

/-- Lines pinned in the cache (R186). -/
def pinnedLines (c : Chip) : Nat := (c.coh.lines.filter fun x => x.2.pinned).length

/-- Does a queue take its producer index from a silent doorbell (R186): a launch queue with a SILENT_ADDR? -/
def isSilent (c : Chip) (q : Nat) : Bool := q != 0 && qSilent c q != 0

/-- CREATE (R182, R199, R392). -/
def queueCreate (q : Nat) (c : Chip) : Nat × Chip :=
  let st := (getQueue c q).state
  if queueConfBad c q then (5, c)
  else if !(st == 0 || st == 6) || (homePort c q == .b && (getPort c .b).pool) || (q != 0 && c.sec.ten.state != 2) then (7, c)
  else if isSilent c q && !(tgetD c.coh.lines (silentKey c q) Line.reset).pinned && pinnedLines c ≥ 4096 then (6, c)
  else
    let c := setQueue c q { Queue.reset with state := 1, space := qSpace c q }
    (0, if isSilent c q && cohActive c (homePort c q) (qSilent c q) 4 then pinSilent c q else c)

/-- RESUME (R182): IDLE, then the idle check. -/
def queueResume (q : Nat) (c : Chip) : Nat × Chip :=
  let x := getQueue c q
  if x.state != 3 then (7, c) else (0, idleCheck (setQueue c q { x with state := if x.f = x.p then 1 else 2 }) q)

/-- DESTROY (R182, R192, R199). -/
def queueDestroy (q : Nat) (c : Chip) : Nat × Chip :=
  let st := (getQueue c q).state
  if q = 0 || st < 1 || st > 4 then (7, c) else (0, startDestroy c q 8 false)

/-- REATTACH (R197): held records, COMPLETED and the mirror, P := F. -/
def queueReattach (q : Nat) (c : Chip) : Nat × Chip :=
  let x := getQueue c q
  let p := getPort c (homePort c q)
  if x.state != 4 || !p.attached || p.epoch ≤ x.heldEpoch then (7, c)
  else
    let c := x.held.foldl (fun c r => writeRecord c q r true) c
    (0, showMirror (setQueue c q { x with state := 1, p := x.f, held := [], shown := x.completed }) q)

/-- Queue control, object 0x2000+q.02 (R199). -/
def queueControl (q v : Nat) (c : Chip) : Nat × Chip :=
  if v = 1 then queueCreate q c else if v = 2 then queueResume q c else if v = 3 then queueDestroy q c
  else if v = 4 then queueReattach q c else (5, c)

/-- QUEUE_CREATE (R182). -/
def execQueueCreate (src : Src) (tag q : Nat) (s : State) : Host.Outcome State Fault Refusal :=
  let rq := writeReq tag (0x2000 + q) 2 (leBytes 1 1)
  event "QUEUE_CREATE" (q < 4096 && presents s.toChip src rq) (serve (queueCreate q) src rq s.toChip) s

/-- QUEUE_RESUME (R182). -/
def execQueueResume (src : Src) (tag q : Nat) (s : State) : Host.Outcome State Fault Refusal :=
  let rq := writeReq tag (0x2000 + q) 2 (leBytes 1 2)
  event "QUEUE_RESUME" (q < 4096 && presents s.toChip src rq) (serve (queueResume q) src rq s.toChip) s

/-- QUEUE_DESTROY (R192). -/
def execQueueDestroy (src : Src) (tag q : Nat) (s : State) : Host.Outcome State Fault Refusal :=
  let rq := writeReq tag (0x2000 + q) 2 (leBytes 1 3)
  event "QUEUE_DESTROY" (q < 4096 && presents s.toChip src rq) (react (serve (queueDestroy q) src rq s.toChip)) s

/-- QUEUE_REATTACH (R197). -/
def execQueueReattach (src : Src) (tag q : Nat) (s : State) : Host.Outcome State Fault Refusal :=
  let rq := writeReq tag (0x2000 + q) 2 (leBytes 1 4)
  event "QUEUE_REATTACH" (q < 4096 && presents s.toChip src rq) (serve (queueReattach q) src rq s.toChip) s

/-! The watchdog (R194). -/

/-- A launch has passed its watchdog without a final status (R198: a final status that falls in the same cycle stands). -/
def dueWatchdog (q e t : Nat) (c : Chip) : Bool :=
  match getLaunch c q e with
  | some l => l.final == noFinal && l.expiry != 0 && l.expiry ≤ nowAt c t
  | none => false

/-- The expired launch ends with TIMEOUT; the queue is destroyed with CAUSE 7, but for queue 0 (R193, R194). -/
def watchdog (q e : Nat) (c : Chip) : Chip :=
  let c := raiseEv (setFinal c q e 2 0xFFFF) 180 (globalQueue c q) 1 0
  if q = 0 then c else destroyQueue (stat c 0x7020 8 1) q 7

/-- WATCHDOG_EXPIRY (R194). -/
def execWatchdogExpiry (q e t : Nat) (s : State) : Host.Outcome State Fault Refusal :=
  eventOn 0 "WATCHDOG_EXPIRY" (dueWatchdog q e t s.toChip) (react (watchdog q e (advance s.toChip t))) s

end Sys2Proof.Machine
end

