-- ==== Sys2Proof/Machine/Patterns.lean ====
section
/-! DEFINITION. The Pattern store and its commands (R214 to R217), and the admission of launches (R218 to R221, R247). -/

namespace Sys2Proof.Machine

/-! The store (R215). -/

/-- Granules of the Pattern store: 8 MiB of 256 B. -/
def storeGranules : Nat := 32768

/-- Runs of granules in use. -/
def storeUsed (c : Chip) : List (Nat × Nat) := (c.pat.pats.filter fun x => x.2.granLen != 0).map fun x => (x.2.gran, x.2.granLen)

/-- Free granules of the store. -/
def storeFree (c : Chip) : Nat := storeGranules - (storeUsed c).foldl (fun n u => n + u.2) 0

/-- The run of free granules that begins at a start: up to the next used run. -/
def runFrom (used : List (Nat × Nat)) (a : Nat) : Nat :=
  if used.any fun u => u.1 ≤ a && a < u.1 + u.2 then 0
  else used.foldl (fun n u => if a < u.1 then min n (u.1 - a) else n) (storeGranules - a)

/-- The largest free run of the store, in granules (object 0x44F0.03). -/
def largestRun (c : Chip) : Nat :=
  let u := storeUsed c
  (0 :: u.map fun x => x.1 + x.2).foldl (fun m a => max m (runFrom u a)) 0

/-! Images (R215). -/

/-- May an image be written: the Pattern is FREE or FAILED? -/
def imageOpen (c : Chip) (p : Nat) : Bool := let s := (getPat c p).state; s == 0 || s == 3

/-- The first segment of an image write takes the Pattern's run of 2 MiB (R215): none when the pool has none. -/
def imageRun (c : Chip) (p : Nat) : Option Chip :=
  let x := getPat c p
  if x.run.isSome then some c
  else match spAlloc c 0x200000 with
  | some (a, c) => some (setPat c p { x with run := some (a, 0x200000) })
  | none => none

/-- A whole image has been written (R215). -/
def imageApply (p : Nat) (bs : Bytes) (c : Chip) : Nat × Chip :=
  if imageOpen c p then (0, modPat c p fun x => { x with image := bs }) else (7, c)

/-- A Pattern holds no image and is FREE (R215). -/
def patternGone (c : Chip) (p : Nat) : Chip := freePattern (freeRun c p) p

/-! Pattern control. -/

/-- REGISTER (R215, R392). -/
def patternRegister (p : Nat) (c : Chip) : Nat × Chip :=
  if (getPat c p).state != 0 || c.sec.ten.state != 2 then (7, c) else (0, modPat c p fun x => { x with state := 1, check := 0 })

/-- RETIRE (R217). -/
def patternRetire (p : Nat) (c : Chip) : Nat × Chip :=
  let x := getPat c p
  if x.state != 2 then (7, c)
  else
    let c := patternsChanged (setPat c p { x with state := 4 })
    (0, if x.running = 0 then freePattern c p else c)

/-- CLEAR (R215). -/
def patternClear (p : Nat) (c : Chip) : Nat × Chip := if (getPat c p).state != 3 then (7, c) else (0, patternGone c p)

/-- Pattern control, object 0x4000+p.02 (R233). -/
def patternControl (p v : Nat) (c : Chip) : Nat × Chip :=
  if v = 1 then patternRegister p c else if v = 2 then patternRetire p c else if v = 3 then patternClear p c else (5, c)

/-- PATTERN_REGISTER (R215). -/
def execPatternRegister (src : Src) (tag p : Nat) (s : State) : Host.Outcome State Fault Refusal :=
  let rq := writeReq tag (0x4000 + p) 2 (leBytes 1 1)
  event "PATTERN_REGISTER" (p < 1024 && presents s.toChip src rq) (serve (patternRegister p) src rq s.toChip) s

/-- PATTERN_RETIRE (R217). -/
def execPatternRetire (src : Src) (tag p : Nat) (s : State) : Host.Outcome State Fault Refusal :=
  let rq := writeReq tag (0x4000 + p) 2 (leBytes 1 2)
  event "PATTERN_RETIRE" (p < 1024 && presents s.toChip src rq) (serve (patternRetire p) src rq s.toChip) s

/-- PATTERN_CLEAR (R215). -/
def execPatternClear (src : Src) (tag p : Nat) (s : State) : Host.Outcome State Fault Refusal :=
  let rq := writeReq tag (0x4000 + p) 2 (leBytes 1 3)
  event "PATTERN_CLEAR" (p < 1024 && presents s.toChip src rq) (serve (patternClear p) src rq s.toChip) s

/-- A failed check (R215, R233). -/
def checkFailed (c : Chip) (p : Nat) (r : Nat × Nat × Nat) : Chip :=
  modPat c p fun x => { x with state := 3, check := pack [(r.1, 1), (0, 1), (r.2.1, 2), (r.2.2, 4)] }

/-- The check of an image ends (R215): REGISTERED in the store with the seed estimate (R246), or FAILED. -/
def checkDone (p : Nat) (c : Chip) : Chip :=
  let x := getPat c p
  let r := checkImage x.image (obj c 0x44F0 1) (c.mode == .doublet)
  let n := (x.image.length + 255) / 256
  if r.1 != 0 then checkFailed c p r
  else match firstFit 0 storeGranules n (storeUsed c) with
  | none => checkFailed c p (10, 0, 0)
  | some g =>
    let c := freeRun c p
    patternsChanged (modPat c p fun x => { x with state := 2, gran := g, granLen := n, est := obj c 0x4402 4 * 1000 })

/-- PATTERN_CHECK_COMPLETE (R215). At unit 0 in DOUBLET the entry changes at both units (R287). -/
def execPatternCheckComplete (p : Nat) (s : State) : Host.Outcome State Fault Refusal :=
  event "PATTERN_CHECK_COMPLETE" ((getPat s.toChip p).state == 1) (mirror (checkDone p s.toChip) .pattern p none) s

/-! Admission (R218). -/

/-- A launch that has just been taken from its queue (R218); a Bootstrap command has queue 0. -/
def newLaunch (c : Chip) (q e v : Nat) : Launch :=
  { Launch.new q e with pat := enPattern v, runPat := enPattern v, space := (getQueue c q).space, entry := v, admitted := now c }

/-- The tick at which a launch that starts now expires under its queue's watchdog, 0 for none (R194). -/
def expiryOf (c : Chip) (q : Nat) : Nat := let w := obj c (0x2000 + q) 4; if w = 0 then 0 else now c + w

/-- The queue that an admission pipe serves next: one of its queues with a fetched entry, by rotation (R218, R251). A launch of a frozen
Pattern holds (R290). -/
def pipeNext (c : Chip) (pipe : Nat) : Option (Nat × Nat × Nat) :=
  let held := fun (x : Queue) => (x.await.head?.map fun w => isFrozen c .pattern (enPattern w.2)).getD false
  let qs := c.bel.queues.filter fun x => x.1 != 0 && x.1 % 2 == pipe && !x.2.await.isEmpty && !held x.2
  match (qs.find? fun x => c.pat.pipePtr ≤ x.1).or qs.head? with
  | some x => x.2.await.head?.map fun w => (x.1, w.1, w.2)
  | none => none

/-- A pipe takes a launch and reads its patch block and handle table over the home port (R218 step 1). -/
def admissionStart (c : Chip) (q e v : Nat) : Chip :=
  let c := modQueue c q fun x => { x with await := x.await.drop 1 }
  let c := setLaunch c (newLaunch c q e v)
  let c := { c with pat := { c.pat with reads := c.pat.reads ++ [(q, e)], pipePtr := q + 1 } }
  unitRead (unitRead c (homePort c q) (bits v 256 64) (enPatch v)) (homePort c q) (bits v 320 64) (8 * enHandles v)

/-- ADMISSION_START (R218). -/
def execAdmissionStart (pipe : Nat) (s : State) : Host.Outcome State Fault Refusal :=
  let r := pipeNext s.toChip pipe
  eventOn 1 "ADMISSION_START" (pipe < 2 && r.isSome) (match r with | some x => admissionStart s.toChip x.1 x.2.1 x.2.2 | none => s.toChip) s

/-- Cut a byte string into U64 values. -/
def values8 (bs : Bytes) : Nat → List Nat
  | 0 => []
  | n + 1 => leNat (bs.take 8) :: values8 (bs.drop 8) n

/-- The status that a failed admission read gives (R218): HOST_LOST on a link that is down, BUS_ERROR otherwise; 0 for a read that succeeded. -/
def readStatus (r : RdResult) : Nat := match r with | .data _ => 0 | .linkDown => 7 | _ => 9

/-- The data of a read. -/
def rdBytes (r : RdResult) : Bytes := match r with | .data bs => bs | _ => []

/-- The cause of R221 that rejects a launch, 0 for none, with its relocated nodes. -/
def rejectCause (c : Chip) (l : Launch) : Nat × List (Nat × Nat) :=
  let x := getPat c l.pat
  if c.mode = .rough then (7, [])
  else if x.state != 2 then (1, [])
  else if enHandles l.entry < imgMinHandles x.image || enPatch l.entry < imgPatchMin x.image then (2, [])
  else relocate x.image l.patch l.handles (inSegment c l.space)

/-- LAUNCH_REJECT (R221): recorded, and the launch ends with FAULT_UNRESOLVED. -/
def reject (c : Chip) (q e cause pat : Nat) : Chip :=
  let rec_ := pack [(cause, 1), (0, 1), (globalQueue c q, 2), (pat, 2), (0, 2), (now c, 8)]
  setFinal (stat { c with pat := { c.pat with lastReject := rec_ } } 0x7040 2 1) q e 5 0xFFFF

/-- The group of a queue (R237). -/
def queueGroup (c : Chip) (q : Nat) : Nat := fld (obj c 0x4400 (1 + q / 1024)) (q % 1024) 1

/-- The slot of a queue: its group's (R237), or the next one in service, wrapping at 31 (R361). -/
def queueSlot (c : Chip) (q : Nat) : Nat :=
  let s := fld (obj c 0x4401 1) (queueGroup c q) 1
  (rotate s 32 fun k => bit c.toc.slots k).getD s

/-- A launch that the Deadline Monitor has admitted is queued on its slot, with its queue's group (R218 step 7, R237); one that could join now may
do so in the next cycle (R239). -/
def queueJoin (c : Chip) (q e : Nat) : Chip :=
  let s := queueSlot c q
  let c := modLaunch c q e fun l => { l with ctx := .joining, slot := s, group := queueGroup c q }
  let c := modSlot (stat c 0x7040 1 1) s fun x => { x with joins := x.joins ++ [(q, e)] }
  modLaunch c q e fun l => { l with early := (joinNow s c).isSome }

/-- DEADLINE_DECISION (R247): the full Pattern, the light variant, or DEADLINE. -/
def decide247 (c : Chip) (q e : Nat) : Chip :=
  match getLaunch c q e with
  | none => c
  | some l =>
    let d := enDeadline l.entry
    if d = 2 ^ 64 - 1 || meets c (now c) l.pat d then queueJoin (patternEnter c l.pat) q e
    else match if enNoLight l.entry then none else lightOf c l with
    | some v => if meets c (now c) v.1 d then queueJoin (goLight (patternEnter c l.pat) q e v) q e else setFinal c q e 3 0xFFFF
    | none => setFinal c q e 3 0xFFFF

/-- Pin the tables of a Pattern (R165, R218 step 4). -/
def pinTables (c : Chip) (q e : Nat) (ts : List Nat) : Chip :=
  ts.foldl (fun c t =>
    let r := takePin c t
    modLaunch r.1 q e fun l => { l with pins := l.pins ++ r.2 }) c

/-- Steps 2 to 7 of R218 on a launch whose reads have arrived. -/
def admitLaunch (c : Chip) (q e : Nat) : Chip :=
  match getLaunch c q e with
  | none => c
  | some l =>
    let r := rejectCause c l
    if r.1 != 0 then reject c q e r.1 l.pat
    else
      let img := (getPat c l.pat).image
      let c := setLaunch c { l with nodes := numberNodes 0 r.2, edges := numberEdges 0 (imgEdgeList img), admitted := now c, expiry := expiryOf c q }
      decide247 (pinTables c q e (imgTables img)) q e

/-- The effect of ADMISSION_READS_ARRIVE. -/
def readsArrive (q e : Nat) (patch handles : RdResult) (c : Chip) : Chip :=
  let c := { c with pat := { c.pat with reads := c.pat.reads.filter (· != (q, e)) } }
  let c := logRead (logRead c (homePort c q) patch) (homePort c q) handles
  let st := max (readStatus patch) (readStatus handles)
  if readStatus patch = 7 || readStatus handles = 7 then setFinal c q e 7 0xFFFF
  else if st != 0 then setFinal c q e st 0xFFFF
  else
    let bs := rdBytes handles
    admitLaunch (modLaunch c q e fun l => { l with patch := rdBytes patch, handles := values8 bs (bs.length / 8) }) q e

/-- Is a read result possible for `n` bytes, none of which are read when `n` is 0? -/
def readFits (r : RdResult) (n : Nat) : Bool := if n = 0 then r == .data [] else rdFits r n

/-- Do the patch block and the handle table agree with the lines of the cache that they were read through (R269)? -/
def admitAgrees (c : Chip) (q e : Nat) (patch handles : RdResult) : Bool :=
  let v := ((getLaunch c q e).map fun l => l.entry).getD 0
  linesAgree c (homePort c q) (bits v 256 64) (rdBytes patch) && linesAgree c (homePort c q) (bits v 320 64) (rdBytes handles)

/-- ADMISSION_READS_ARRIVE (R218): launches of one queue are admitted in index order (R178); those of a FROZEN Space hold (R290). -/
def execAdmissionReadsArrive (q e : Nat) (patch handles : RdResult) (s : State) : Host.Outcome State Fault Refusal :=
  let c := s.toChip
  let first := (c.pat.reads.find? fun x => x.1 == q) == some (q, e)
  let due := ((getLaunch c q e).map fun l => l.final == noFinal && readFits patch (enPatch l.entry) && readFits handles (8 * enHandles l.entry)).getD false
  let held := ((getLaunch c q e).map fun l => (getSpace c l.space).state == 4).getD false
  eventOn 1 "ADMISSION_READS_ARRIVE" (first && due && !held && admitAgrees c q e patch handles) (react (readsArrive q e patch handles c)) s

end Sys2Proof.Machine
end

