-- ==== Sys2Proof/Machine/Runs.lean ====
section
/-! DEFINITION. Run nodes on the clusters (R224 to R228, R244, R249), Wait-until-tick and Fence nodes (R211, R212), and the Bootstrap queue
(R231, R232). -/

namespace Sys2Proof.Machine

/-! Cores (R224). -/

/-- The block of a cluster's sequencer; the clusters of the other unit are reached over the bridge (R283, R340). -/
def clusterBlock (k : Nat) : Nat := if k < 8 then 10 + k else 18

/-- Is a core in service (R361)? Those of the other unit's clusters are (R283). -/
def coreUp (c : Chip) (k core : Nat) : Bool := clusterUp c k && (8 ≤ k || bit c.toc.cores (k * 16 + core))

/-- Is a core free and in service? -/
def coreFree (c : Chip) (k core : Nat) : Bool := coreUp c k core && (tget (getClu c k).cores core).isNone

/-- A free core of a cluster, by rotation (R224). -/
def pickCore (c : Chip) (k : Nat) : Option Nat := rotate ((getClu c k).corePtr % 16) 16 (coreFree c k)

/-! The dispatch record (R225, R244). -/

/-- The 80-byte conversion result of a node (R151). -/
def convBytes (r : ConvRes) : Bytes :=
  let trips := r.trips.foldl (fun m k => setBit m (min k 15) true) 0
  leBytes 16 (packBits [(trips, 16), (0, 8), (b2n (!r.trips.isEmpty), 1), (b2n r.escaped, 1), (b2n r.rescaled, 1), (b2n (r.nan > 0), 1),
    (0, 4), (r.sat, 32), (r.unf, 32), (r.nan, 32)])
    ++ (upFrom 0 16).flatMap fun k => leBytes 4 (((r.scales.find? fun s => s.1 == k).map (·.2)).getD 0)

/-- The Loop nodes whose body holds a node, with their iterations. -/
def enclosing (l : Launch) (n : Nat) : List (Nat × NodeRt) := l.nodes.filter fun x => x.2.kind == 6 && inRange n (bodyRange x.1 x.2)

/-- ARGS of a Run node with the iteration of each enclosing loop written at its ITER_OFF (R210, R225). -/
def runArgs (l : Launch) (n : Nat) (x : NodeRt) : Nat :=
  (enclosing l n).foldl (fun a y => if fld y.2.body 8 1 = 0xFF then a else setFld a (fld y.2.body 8 1) 4 y.2.iter) (fld x.body 32 96)

/-- The address word of the scratch block, or 0 (R225). -/
def scratchWord (c : Chip) (l : Launch) : Nat :=
  match l.scratch with
  | some b => packBits [(b.1, 60), (0, 1), (hbmRoute c b.1, 3)]
  | none => 0

/-- The 192-byte argument block (R225). -/
def argBlock (c : Chip) (l : Launch) (n : Nat) (x : NodeRt) : Bytes :=
  let conv := if bit (fld x.body 9 1) 0 then ((getNode l (nodeBase n + fld x.body 10 2)).map fun y => convBytes y.conv).getD (zeros 80) else zeros 80
  leBytes 112 (pack [(runArgs l n x, 96), (scratchWord c l, 8), (globalQueue c l.q, 2), (n % 4096, 2), (l.e, 4)]) ++ conv

/-- The dispatch tag (R244); the slots of unit 1 of a Doublet are 32 to 63 (R283). -/
def dispatchTag (c : Chip) (l : Launch) (n : Nat) : Nat :=
  packBits [(pairSlot c l.slot, 6), (0, 2), (l.place, 6), (0, 18), (n, 12), (0, 4), (((innerLoop l n).map fun x => x.2.iter).getD 0, 16)]

/-- Put a Run node on a core (R224). -/
def dispatchTo (c : Chip) (l : Launch) (n : Nat) (x : NodeRt) (k core : Nat) (args : Bytes) : Chip :=
  let word := (progWord c l.space (fld x.body 0 8)).getD 0
  let c := modClu (stat c 0x7040 5 1) k fun y => { y with
    staged := y.staged.filter fun r => !(r.q == l.q && r.e == l.e && r.n == n), cores := tset y.cores core ⟨l.q, l.e, n, false, 0⟩
    corePtr := (core + 1) % 16 }
  let c := passSwitch (modNode c l.q l.e n fun y => { y with st := .running }) l.q l.e
  emit c (.dispatch k core word (dispatchTag c l n) args)

/-! Cadence (R249). -/

/-- The credits of the children of one arbiter: keys `base × span` to `base × span + span - 1`. -/
def creditsOf (t : Tab Nat) (base span : Nat) : Tab Nat := (t.filter fun x => x.1 / span == base).map fun x => (x.1 % span, x.2)

/-- Replace the credits of one arbiter's children. -/
def putCredits (t : Tab Nat) (base span : Nat) (new : Tab Nat) : Tab Nat :=
  new.foldl (fun t x => tset t (base * span + x.1) x.2) (t.filter fun x => x.1 / span != base)

/-- One grant of a Cadence arbiter (R249): the requesters with their weights, the credits, the pointer; answers the child and the credits.
A child that does not request has no credit; one that starts requesting receives its weight. -/
def cadence (old : Tab Nat) (ptr n : Nat) (reqs : List (Nat × Nat)) : Option Nat × Tab Nat :=
  let held := reqs.map fun r => (r.1, tgetD old r.1 r.2)
  let cr := if held.all fun r => r.2 == 0 then reqs else held
  match rotate ptr n fun k => cr.any fun r => r.1 == k && 1 ≤ r.2 with
  | some k => (some k, cr.foldl (fun t r => tset t r.1 (if r.1 = k then r.2 - 1 else r.2)) [])
  | none => (none, cr.foldl (fun t r => tset t r.1 r.2) [])

/-- The ready queues at a cluster of the competing level, with slot and group (R249). -/
def competing (c : Chip) (rs : List (Nat × Nat × Nat)) : Nat × List (Nat × Nat × Nat) :=
  let all := readyQueues c rs
  (topLevel c all, all.filter fun x => groupPrio c x.2.1 == topLevel c all)

/-- Does a ready node of one queue come before another: the lower entry counted from COMPLETED, then the lower node? -/
def readyBefore (c : Chip) (a b : Nat × Nat × Nat) : Bool :=
  let age := fun (e : Nat) => (e + 2 ^ 32 - (getQueue c a.1).completed % 2 ^ 32) % 2 ^ 32
  age a.2.1 < age b.2.1 || (age a.2.1 == age b.2.1 && a.2.2 < b.2.2)

/-- The three arbiters of a cluster choose the Run node that takes its free core (R249, R251). -/
def arbitrate (c : Chip) (k : Nat) : Option (Nat × Nat × Nat) × Chip :=
  let c := creditsAt c k
  let rs := readyAt c k
  let y := getClu c k
  let m := competing c rs
  let a := cadence (creditsOf y.slotCredit m.1 64) (y.slotPtr % 32) 32 (weights (m.2.map (·.1)))
  match a.1 with
  | none => (none, c)
  | some slot =>
    let base := m.1 * 64 + slot
    let gs := (m.2.filter fun x => x.1 == slot).map fun x => x.2.1
    let b := cadence (creditsOf y.grpCredit base 256) (tgetD y.grpPtr slot 0) 256 (weights gs)
    match b.1 with
    | none => (none, c)
    | some g =>
      let qs := (m.2.filter fun x => x.1 == slot && x.2.1 == g).map fun x => x.2.2
      match rotate (tgetD y.qPtr g 0) 4096 fun q => qs.contains q with
      | none => (none, c)
      | some q =>
        let best := (rs.filter fun r => r.1 == q).foldl (fun m r => match m with | none => some r | some b => if readyBefore c r b then some r else m)
          (none : Option (Nat × Nat × Nat))
        (best, modClu c k fun z => { z with
          slotCredit := putCredits z.slotCredit m.1 64 a.2, slotPtr := (slot + 1) % 32
          grpCredit := putCredits z.grpCredit base 256 b.2, grpPtr := tset z.grpPtr slot ((g + 1) % 256)
          qPtr := tset z.qPtr g ((q + 1) % 4096) })

/-! RUN_DISPATCH. -/

/-- The Bootstrap RUN that waits for a core, with the core it names (R224, R232). -/
def bootRun (c : Chip) (k : Nat) : Option (Launch × NodeRt × Nat) :=
  match (queueLaunches c 0).find? fun l => l.final == noFinal with
  | none => none
  | some l => match getNode l 0 with
    | none => none
    | some x => if x.kind = 1 && x.st == .ready && fld x.body 8 1 = k then some (l, x, fld x.body 9 1) else none

/-- The re-dispatch that goes ahead at a cluster (R227). -/
def redispatch (c : Chip) (k : Nat) : Option Staged2 := (getClu c k).staged.find? fun r => r.re

/-- Dispatch a node of a launch on a core. -/
def dispatchNode (c : Chip) (q e n k core : Nat) : Chip :=
  match (getLaunch c q e).bind fun l => (getNode l n).map fun x => (l, x) with
  | some (l, x) => dispatchTo c l n x k core (argBlock c l n x)
  | none => c

/-- What takes a core of a cluster now: the Bootstrap RUN on the core it names, a re-dispatch, the arbiters' choice (R224, R227, R249). -/
def runDispatch (c : Chip) (k : Nat) : Option Chip :=
  match (bootRun c k).filter fun b => coreFree c k b.2.2 with
  | some (l, x, core) => some (dispatchTo c l 0 x k core c.pat.bootArg)
  | none => match pickCore c k with
    | none => none
    | some core => match redispatch c k with
      | some r => some (dispatchNode (stat c 0x7040 6 1) r.q r.e r.n k core)
      | none =>
        let a := arbitrate c k
        a.1.map fun r => dispatchNode a.2 r.1 r.2.1 r.2.2 k core

/-- RUN_DISPATCH (R224). -/
def execRunDispatch (cluster : Nat) (s : State) : Host.Outcome State Fault Refusal :=
  let r := if cluster < 16 then runDispatch s.toChip cluster else none
  eventOn (clusterBlock cluster) "RUN_DISPATCH" r.isSome (react (r.getD s.toChip)) s

/-! RUN_RESULT (R226). -/

/-- A core no longer runs a node. -/
def coreDone (c : Chip) (k core : Nat) : Chip := modClu c k fun x => { x with cores := tdel x.cores core }

/-- The effect of a result word on the node's launch: nothing more once it has a final status. -/
def runResult (c : Chip) (r : CoreRun) (word : Nat) : Chip :=
  match getLaunch c r.q r.e with
  | none => c
  | some l =>
    if l.final != noFinal then c
    else if bits word 0 8 = 0 then completeNode (modNode c r.q r.e r.n fun x => { x with value := bits word 16 16 }) r.q r.e r.n
    else setFinal c r.q r.e 5 (r.n % 4096)

/-- RUN_RESULT (R226). -/
def execRunResult (cluster core word : Nat) (s : State) : Host.Outcome State Fault Refusal :=
  let r := tget (getClu s.toChip cluster).cores core
  eventOn (clusterBlock cluster) "RUN_RESULT" r.isSome (match r with | some x => react (runResult (coreDone s.toChip cluster core) x word) | none => s.toChip) s

/-! Fenced cores (R227, R228). -/

/-- Has a cluster a core in service? -/
def anyCore (c : Chip) (k : Nat) : Bool := (upFrom 0 16).any fun i => coreUp c k i

/-- What a fenced core leaves: an aborted node has ended; a Bootstrap RUN ends with CORE_FENCED; another node is dispatched again on its
cluster, or ends its launch (R224, R227, R228, R232). The node of a launch with a final status ends. -/
def dropCore (c : Chip) (k core : Nat) : Chip :=
  match tget (getClu c k).cores core with
  | none => c
  | some r =>
    let c := coreDone c k core
    if r.aborted || ((getLaunch c r.q r.e).map fun l => l.final != noFinal).getD true then c
    else if r.q = 0 || !anyCore c k then setFinal c r.q r.e 6 (r.n % 4096)
    else
      let c := modClu c k fun x => { x with staged := x.staged ++ [⟨r.q, r.e, r.n, true, now c + obj c 0x44F0 7⟩] }
      modNode c r.q r.e r.n fun x => { x with st := .ready }

/-- A Bootstrap RUN that waits for a core that is not in service ends with CORE_FENCED (R232). -/
def bootFenced (c : Chip) : Chip :=
  match (upFrom 0 16).findSome? fun k => (bootRun c k).map fun b => (k, b) with
  | some (k, l, _, core) => if coreUp c k core then c else setFinal c 0 l.e 6 0
  | none => c

/-- The re-dispatches that wait at a cluster without a core in service end their launches (R227). -/
def endStranded (c : Chip) (k : Nat) : Chip :=
  if anyCore c k then c
  else ((getClu c k).staged.filter (·.re)).foldl (fun c r => setFinal c r.q r.e 6 (r.n % 4096)) c

/-- Fence a core (R361): it leaves service; a core already fenced is left as it is. Of a cluster of the other unit only what it runs for this
unit is known here (R283). -/
def fenceCore (c : Chip) (k core : Nat) : Chip :=
  if 8 ≤ k then dropCore c k core
  else if !bit c.toc.cores (k * 16 + core) then c
  else
    let c := stat c 0x7050 3 1
    bootFenced (endStranded (dropCore { c with toc := { c.toc with cores := setBit c.toc.cores (k * 16 + core) false } } k core) k)

/-- REDISPATCH_WAIT_EXPIRY is due: the wait has passed and no core of the cluster is free (R227, R230). -/
def redispatchLate (c : Chip) (q e n t : Nat) : Bool :=
  c.pat.clusters.any fun k => k.2.staged.any fun r =>
    r.re && r.q == q && r.e == e && r.n == n && r.until_ ≤ nowAt c t && (pickCore c k.1).isNone

/-- REDISPATCH_WAIT_EXPIRY (R227). -/
def execRedispatchWaitExpiry (q e n t : Nat) (s : State) : Host.Outcome State Fault Refusal :=
  eventOn 1 "REDISPATCH_WAIT_EXPIRY" (redispatchLate s.toChip q e n t) (react (setFinal (advance s.toChip t) q e 6 (n % 4096))) s

/-- ABORT_WAIT_EXPIRY (R228): the core is fenced and counts on source 120 + k of its unit; the node ends. -/
def execAbortWaitExpiry (cluster core t : Nat) (s : State) : Host.Outcome State Fault Refusal :=
  let c := s.toChip
  let due := ((tget (getClu c cluster).cores core).map fun r => r.aborted && r.abortAt ≤ nowAt c t).getD false
  eventOn (clusterBlock cluster) "ABORT_WAIT_EXPIRY" due (react (let d := fenceCore (advance c t) cluster core
      if cluster < 8 then raiseEv d (120 + cluster) core 2 0 else d)) s

/-! Wait-until-tick and Fence nodes (R211, R212). -/

/-- A node of a kind that is ready in a launch whose graph runs. -/
def readyNode (c : Chip) (q e n kind : Nat) : Option (Launch × NodeRt) :=
  match getLaunch c q e with
  | none => none
  | some l => match getNode l n with
    | none => none
    | some x => if runs l && x.kind = kind && x.st == .ready then some (l, x) else none

/-- The target of a Wait-until-tick node (R205). -/
def waitTarget (l : Launch) (x : NodeRt) : Nat := if fld x.body 8 1 = 1 then l.admitted + fld x.body 0 8 else fld x.body 0 8

/-- WAIT_TICK_REACHED (R211). -/
def execWaitTickReached (q e n t : Nat) (s : State) : Host.Outcome State Fault Refusal :=
  let c := s.toChip
  eventOn 1 "WAIT_TICK_REACHED" (((readyNode c q e n 7).map fun r => decide (waitTarget r.1 r.2 ≤ nowAt c t)).getD false)
    (react (completeNode (advance c t) q e n)) s

/-- FENCE_NODE_COMPLETE is due: the node's move nodes have completed, its flush reads have gone out and return with the command, and its
cross-link flush is done (R212, R278). -/
def dueFence (q e n : Nat) (c : Chip) : Bool :=
  ((readyNode c q e n 8).map fun r => fenceOver r.2 && r.2.asked && !waitsLink c r.1).getD false

/-- FENCE_NODE_COMPLETE (R212). -/
def execFenceNodeComplete (q e n : Nat) (s : State) : Host.Outcome State Fault Refusal :=
  eventOn 1 "FENCE_NODE_COMPLETE" (dueFence q e n s.toChip) (react (completeNode s.toChip q e n)) s

/-! The Bootstrap queue (R231, R232). -/

/-- The Bootstrap command that may start now: the head of queue 0 with the CMD, when every command before it has a final status (R231). -/
def bootNext (c : Chip) (cmd : Nat) : Option (Nat × Nat) :=
  if (queueLaunches c 0).any fun l => l.final == noFinal then none
  else match (getQueue c 0).await.head? with
    | some (e, v) => if bCmd v = cmd then some (e, v) else none
    | none => none

/-- A Bootstrap command starts with its nodes. -/
def bootStart (c : Chip) (e v : Nat) (nodes : Tab NodeRt) : Chip :=
  let c := modQueue (stat c 0x7040 7 1) 0 fun x => { x with await := x.await.drop 1 }
  setLaunch c { newLaunch c 0 e v with space := 0, expiry := expiryOf c 0, nodes := nodes }

/-- One node of a Bootstrap command. -/
def bootNode (kind body : Nat) : Tab NodeRt := [(0, nodeFresh kind body)]

/-- A Bootstrap command of a CMD: due when it is next, with its effect. -/
def bootEvent (name : String) (cmd : Nat) (f : Nat → Nat → Chip → Chip) (s : State) : Host.Outcome State Fault Refusal :=
  let r := bootNext s.toChip cmd
  eventOn 1 name r.isSome (match r with | some (e, v) => react (f e v s.toChip) | none => s.toChip) s

/-- COPY: one Transfer without conversion. -/
def bootCopy (e v : Nat) (c : Chip) : Chip := bootStart c e v (bootNode 2 (contigBody 0 (bA v) (bB v) (bC v)))

/-- BOOTSTRAP_COPY (R232). -/
def execBootstrapCopy (s : State) : Host.Outcome State Fault Refusal := bootEvent "BOOTSTRAP_COPY" 1 bootCopy s

/-- FILL: zero or pattern strokes (R117). -/
def bootFill (e v : Nat) (c : Chip) : Chip :=
  bootStart c e v (bootNode 2 (if bit (fld v 9 1) 0 then contigBody 1 0 (bA v) (bC v) else contigBody 2 (bD v) (bA v) (bC v)))

/-- BOOTSTRAP_FILL (R232). -/
def execBootstrapFill (s : State) : Host.Outcome State Fault Refusal := bootEvent "BOOTSTRAP_FILL" 2 bootFill s

/-- Remember what a Bootstrap command waits for: 3 a descriptor, 4 an argument block, 6 a digest. -/
def bootWait (c : Chip) (k : Nat) : Chip := { c with pat := { c.pat with boot := some k } }

/-- DESCRIPTOR: the read of the descriptor goes out. -/
def bootDescriptor (e v : Nat) (c : Chip) : Chip := emit (bootWait (bootStart c e v []) 3) (.hostRead (homePort c 0) (bA v) 128)

/-- BOOTSTRAP_DESCRIPTOR (R232). -/
def execBootstrapDescriptor (s : State) : Host.Outcome State Fault Refusal := bootEvent "BOOTSTRAP_DESCRIPTOR" 3 bootDescriptor s

/-- RUN: rejected in ROUGH; PROGRAM must translate; the core must be in service; the argument block is read (R224, R231, R232). -/
def bootRunStart (e v : Nat) (c : Chip) : Chip :=
  let c := bootStart c e v []
  if c.mode = .rough then reject c 0 e 7 0
  else if (progWord c 0 (bA v)).isNone then faultEnd c 0 e 0 1 (bA v) 0xFF
  else if !coreUp c (fld v 32 1) (fld v 33 1) then setFinal c 0 e 6 0
  else emit (bootWait c 4) (.hostRead (homePort c 0) (bB v) 192)

/-- BOOTSTRAP_RUN (R232). -/
def execBootstrapRun (s : State) : Host.Outcome State Fault Refusal := bootEvent "BOOTSTRAP_RUN" 4 bootRunStart s

/-- WAIT: a Wait-until-tick node of its own (R211). -/
def bootWaitTick (e v : Nat) (c : Chip) : Chip := bootStart c e v (bootNode 7 (bA v))

/-- BOOTSTRAP_WAIT (R232). -/
def execBootstrapWait (s : State) : Host.Outcome State Fault Refusal := bootEvent "BOOTSTRAP_WAIT" 5 bootWaitTick s

/-- DIGEST: the range is translated and read by strokes as a move's source is, whatever its segments; its destination goes nowhere. -/
def bootDigest (e v : Nat) (c : Chip) : Chip := bootWait (bootStart c e v (bootNode (2 + 2 ^ 11) (contigBody 0 (bA v) 0 (bC v)))) 6

/-- BOOTSTRAP_DIGEST (R232). -/
def execBootstrapDigest (s : State) : Host.Outcome State Fault Refusal := bootEvent "BOOTSTRAP_DIGEST" 6 bootDigest s

/-- The running Bootstrap command, while it waits for `k`. -/
def bootWaits (c : Chip) (k : Nat) : Option Launch :=
  if c.pat.boot = some k then (queueLaunches c 0).find? fun l => l.final == noFinal else none

/-- The wait is over. -/
def bootGo (c : Chip) : Chip := { c with pat := { c.pat with boot := none } }

/-- The digest of the range is finished: every stroke of a DIGEST has brought its bytes. -/
def digestReady (c : Chip) : Option Launch := (bootWaits c 6).filter fun l => l.nodes.all fun x => nodeEnded x.2

/-- The bytes of a DIGEST's range. -/
def digestBytes (c : Chip) : Bytes := c.pat.bootData.flatMap (·.2)

/-- The digest is written without RO, and the command ends with DONE (R232); on a link that is down it ends with HOST_LOST, on a port that may not
issue with BUS_ERROR, as a stroke would (R126). -/
def digestDone (c : Chip) : Chip :=
  match digestReady c with
  | some l =>
    let h := homePort c 0
    if canIssue c h then setFinal (plainWrite (bootGo c) h (bB l.entry) (sha384 (digestBytes c))) 0 l.e 0 0xFFFF
    else setFinal (bootGo c) 0 l.e (if linkIsUp c h then 9 else 7) 0xFFFF
  | none => c

/-- BOOTSTRAP_DIGEST_COMPLETE (R232). -/
def execBootstrapDigestComplete (s : State) : Host.Outcome State Fault Refusal :=
  eventOn 1 "BOOTSTRAP_DIGEST_COMPLETE" (digestReady s.toChip).isSome (react (digestDone s.toChip)) s

/-- The read of a descriptor or an argument block ends: executed when it is good (R232, R315). -/
def bootRead (r : RdResult) (c : Chip) : Chip :=
  let c := logRead c (homePort c 0) r
  match (bootWaits c 3).or (bootWaits c 4), r with
  | some l, .data bs =>
    if c.pat.boot = some 3 then
      let b := leNat bs
      if dOp b = 0 || !descOk b then setFinal (bootGo c) 0 l.e 5 0xFFFF
      else modLaunch (bootGo c) 0 l.e fun l => { l with nodes := bootNode (dOp b + 1) b }
    else
      let v := l.entry
      let c := { bootGo c with pat := { (bootGo c).pat with bootArg := bs } }
      bootFenced (modLaunch c 0 l.e fun l => { l with nodes := bootNode 1 (pack [(bA v, 8), (fld v 32 1, 1), (fld v 33 1, 1)]) })
  | some l, r => setFinal (bootGo c) 0 l.e (readStatus r) 0xFFFF
  | none, _ => c

/-- BOOTSTRAP_READ_COMPLETE (R232). -/
def execBootstrapReadComplete (r : RdResult) (s : State) : Host.Outcome State Fault Refusal :=
  let c := s.toChip
  let due := ((bootWaits c 3).isSome && rdFits r 128) || ((bootWaits c 4).isSome && rdFits r 192)
  eventOn 1 "BOOTSTRAP_READ_COMPLETE" due (react (bootRead r c)) s

end Sys2Proof.Machine
end

