-- ==== Sys2Proof/Machine/Peers.lean ====
section
/-! DEFINITION. The Peer Gateway (R255 to R267) and the commands of coherent windows (R268 to R272). -/

namespace Sys2Proof.Machine

/-! Peer windows (R256 to R259). -/

/-- FBASE of a window record (R256). -/
def wBase (v : Nat) : Nat := bits v 0 60
/-- LENGTH of a window record. -/
def wLen (v : Nat) : Nat := bits v 64 40
/-- DVA of a window record. -/
def wDva (v : Nat) : Nat := bits v 128 56
/-- SPACE of a window record. -/
def wSpace (v : Nat) : Nat := bits v 192 10
/-- KIND of a window record: 0 OFF, 1 DATA, 2 POST. -/
def wKind (v : Nat) : Nat := bits v 208 4
/-- TABLE of a window record. -/
def wTable (v : Nat) : Nat := bits v 216 8
/-- SRC_NODE of a window record. -/
def wNode (v : Nat) : Nat := bits v 224 16

/-- A reserved field of a window record is not 0. -/
def winReserved (v : Nat) : Bool :=
  bits v 60 4 != 0 || bits v 104 24 != 0 || bits v 184 8 != 0 || bits v 202 6 != 0 || bits v 212 4 != 0 || bits v 240 16 != 0

/-- The bytes and bits of a window record that are no reserved field (R256), as (first bit, width). -/
def winFields : List (Nat × Nat) := [(0, 60), (64, 40), (128, 56), (192, 10), (208, 4), (216, 8), (224, 16)]

/-- Does a shadow record break R257? A record with KIND = OFF is accepted even where its reserved bits are not 0 (DESIGN CHOICE, log 104: the
rule's first bullet refuses it, its last sentence accepts it). -/
def shadowBad (v : Nat) : Bool :=
  let k := wKind v
  k != 0 && (k > 2 || winReserved v || wBase v % 4096 != 0 || wLen v % 4096 != 0 || wDva v % 4096 != 0 || wLen v == 0
    || wBase v + wLen v > 2 ^ 60 || wDva v + wLen v > 2 ^ 56
    || (k == 1 && (wTable v != 0 || wSpace v == 0)) || (k == 2 && (wTable v == 0 || wSpace v != 0 || wDva v != 0 || wLen v != 4096)))

/-- A write of a shadow record (R257). -/
def peerShadow (w v : Nat) (c : Chip) : Nat × Chip :=
  if shadowBad v then (5, c) else (0, modWin c w fun x => { x with shadow := keepBits winFields v })

/-- Can two windows match the same node on overlapping ranges (R259)? -/
def winClash (a b : Nat) : Bool :=
  wKind a != 0 && wKind b != 0 && overlaps (wBase a) (wLen a) (wBase b) (wLen b)
    && (wNode a == wNode b || wNode a == 0xFFFF || wNode b == 0xFFFF)

/-- The segment of a Space that is Fixed, of class HBM or CLUSTER, and covers a range (R259, R260). -/
def fixedSeg (c : Chip) (sp dva n : Nat) : Option Seg :=
  ((getSpace c sp).segs.find? fun s => s.2.kind == 1 && (s.2.cls == 1 || s.2.cls == 6) && s.2.start ≤ dva && dva + n ≤ s.2.start + s.2.len).map (·.2)

/-- The first check of R259 that shadow `w` fails, 0 for none. -/
def commitReason (c : Chip) (w : Nat) : Nat :=
  let v := (getWin c w).shadow
  if c.peer.wins.any fun x => x.1 != w && winClash v x.2.shadow then 1
  else if wKind v = 1 && (getSpace c (wSpace v)).state != 2 then 2
  else if wKind v = 1 && (fixedSeg c (wSpace v) (wDva v) (wLen v)).isNone then 3
  else if wKind v = 2 && (getTable c (wTable v)).state = 0 then 4
  else 0

/-- The shadows become the active records of the next set (R258 step 2). -/
def flipSet (c : Chip) : Chip :=
  let ws := c.peer.wins.map fun x => (x.1, { x.2 with active := x.2.shadow })
  commitDrained { c with peer := { c.peer with wins := ws, setNo := (c.peer.setNo + 1) % 2 ^ 32, status := 1, reason := 0, window := 0 } }

/-- A commit request, object 0x12F0.01 (R258, R259, R392). -/
def peerCommit (v : Nat) (c : Chip) : Nat × Chip :=
  if v != 1 then (5, c)
  else if c.sec.ten.state != 2 && c.peer.wins.any fun x => wKind x.2.shadow != 0 then (7, c)
  else if c.peer.status = 1 then (6, c)
  else match (c.peer.wins.map (·.1)).find? fun w => commitReason c w != 0 with
  | some w => (0, { c with peer := { c.peer with status := 3, reason := commitReason c w, window := w } })
  | none => (0, flipSet c)

/-- PEER_WINDOW_COMMIT (R258). -/
def execPeerWindowCommit (src : Src) (tag v : Nat) (s : State) : Host.Outcome State Fault Refusal :=
  let rq := writeReq tag 0x12F0 1 (leBytes 1 v)
  event "PEER_WINDOW_COMMIT" (presents s.toChip src rq) (serve (peerCommit (v % 256)) src rq s.toChip) s

/-! Inbound packets (R260 to R264). -/

/-- The window of the current set that matches a packet's source and whole range (R260). -/
def winMatch (c : Chip) (node fab len : Nat) : Option (Nat × Nat) :=
  (c.peer.wins.find? fun x =>
    let v := x.2.active
    wKind v != 0 && (wNode v == node || wNode v == 0xFFFF) && wBase v ≤ fab && fab + len ≤ wBase v + wLen v).map fun x => (x.1, x.2.active)

/-- A packet is accepted through a window: counted (R273, R275). -/
def acceptStats (c : Chip) (w len : Nat) : Chip :=
  modWin (stat (stat c 0x7048 1 1) 0x7048 2 len) w fun x => { x with accepted := x.accepted + 1 }

/-- A DATA packet (R260): it counts in the Space's generation and its lines go out to HBM of either die or to cluster memory (R261). -/
def dataPacket (c : Chip) (w v node fab len : Nat) (write : Bool) (bs : Bytes) : Chip :=
  let sp := wSpace v
  let dva := wDva v + (fab - wBase v)
  match fixedSeg c sp dva len with
  | none => refuse c node 2 0 (some w)
  | some s =>
    let a := s.target + (dva - s.start)
    let g := (getSpace c sp).gen
    let c := drainInc (acceptStats c w len) sp g
    let c := track c ⟨c.peer.nextPkt, w, c.peer.setNo, node, write, sp, g, true, a, len⟩
    let route := if s.cls = 1 then hbmRoute c a else 2
    if write then nocWrites c route a bs else nocReads c route a len

/-- Apply status, object 0x3800.04 (R173). -/
def applyValue (c : Chip) : Nat :=
  let a := c.lap.stat
  pack [(a.state, 1), (a.reason, 1), (a.table, 1), (0, 1), (a.mseq, 4), (a.rows, 4), (a.grains, 4), (a.escaped, 4), (0, 4), (a.tick, 8)]

/-- What a READ of a POST window returns (R264). -/
def postRead (c : Chip) (v off len : Nat) : Bytes :=
  let t := getTable c (wTable v)
  if off = 0x40 && len = 32 then leBytes 32 (applyValue c)
  else if off = 0x60 && len = 8 then leBytes 8 (pack [(t.epoch, 4), (t.lastSeq, 4)])
  else zeros len

/-- Serve a post that the Peer Gateway presents: a write of object 0x3800.02 (R264). -/
def servePost (c : Chip) (bs : Bytes) : Chip := serve (lapPost (leNat bs)) .peer (writeReq 0 0x3800 2 bs) c

/-- PEER_POST_WRITE (R264): the post is presented to the dictionary service, which serves it now when its turn has come; otherwise it waits
and is served as a MANIFEST_POST of the gateway. -/
def postWrite (c : Chip) (w v node : Nat) (bs : Bytes) : Chip :=
  if bfld bs 0 1 != wTable v then refuse c node 4 7 (some w)
  else
    let id := c.peer.nextPkt
    let c := track (acceptStats c w 32) ⟨id, w, c.peer.setNo, node, true, 0, 0, false, 0, 32⟩
    let c := { c with peer := { c.peer with posts := c.peer.posts ++ [(id, now c, bs)] } }
    if presents c .peer (writeReq 0 0x3800 2 bs) then servePost c bs else c

/-- A POST packet (R264). -/
def postPacket (c : Chip) (w v node fab len : Nat) (write : Bool) (bs : Bytes) : Chip :=
  let off := fab - wBase v
  if !write then emit (acceptStats c w len) (.peerResponse node 0 0 (postRead c v off len))
  else if off = 0 && len = 32 then postWrite c w v node bs
  else refuse c node 3 0 (some w)

/-- Does a packet break R261: its length, its boundary, its opcode? -/
def packetBad (fab len : Nat) (op : PktOp) : Bool := len < 1 || len > 2048 || fab % 4096 + len > 4096 || op == .other

/-- A packet header arrives (R260 to R264): DISABLED, then FORMAT, then the window (DEDUCED: the order of R262 is not stated). -/
def inbound (node fab len : Nat) (op : PktOp) (bs : Bytes) (c : Chip) : Chip :=
  if !serving c || !enabled c 7 then refuse c node 5 0 ((winMatch c node fab len).map (·.1))
  else if packetBad fab len op then refuse c node 3 0 ((winMatch c node fab len).map (·.1))
  else match winMatch c node fab len with
  | none => refuse c node 1 0 none
  | some (w, v) =>
    if wKind v = 1 then dataPacket c w v node fab len (op == .write) bs else postPacket c w v node fab len (op == .write) bs

/-- INBOUND_PACKET (R260): a full tracker withholds credits (R255, R267). A WRITE brings its payload. -/
def execInboundPacket (node fabric len : Nat) (op : PktOp) (payload : Bytes) (s : State) : Host.Outcome State Fault Refusal :=
  event "INBOUND_PACKET" (s.peer.packets.length < 1024 && (op != .write || payload.length == len))
    (inbound node fabric len op payload s.toChip) s

/-- Can the answer of its lines be one to this packet, a DATA packet? The answer of a post is the dictionary service's. -/
def packetFits (x : Inbound) (a : ReqAnswer) : Bool :=
  x.counted &&
  match a with
  | .data bs => !x.write && bs.length == x.len
  | .ack => x.write
  | .err _ => true

/-- The one response of a packet is sent, and the packet leaves the count (R260, R262). An error answer is code 6, and counts as a refusal. -/
def inboundDone (c : Chip) (x : Inbound) (a : ReqAnswer) : Chip :=
  let c := match a with
    | .data bs => emit c (.peerResponse x.node 0 0 bs)
    | .ack => emit c (.peerResponse x.node 0 0 [])
    | .err _ => refuse c x.node 6 0 (some x.win)
  drainDec (untrack c x.id) x.space x.gen

/-- INBOUND_RESPONSE (R262). -/
def execInboundResponse (id : Nat) (a : ReqAnswer) (s : State) : Host.Outcome State Fault Refusal :=
  let x := getPacket s.toChip id
  eventOn 7 "INBOUND_RESPONSE" ((x.map fun y => packetFits y a).getD false)
    (match x with | some y => inboundDone s.toChip y a | none => s.toChip) s

/-! Coherent windows (R268, R271). -/

/-- Set the state of a coherent window. -/
def setCoh (c : Chip) (w st : Nat) : Chip := { c with coh := { c.coh with wins := tput c.coh.wins 0 w st } }

/-- Is CXL.cache running on a port: CXL mode, the link up, enabled by the host? -/
def cacheUp (c : Chip) (p : HPort) : Bool := (getPort c p).proto == 1 && linkIsUp c p && (getPort c p).cfg.cacheEn

/-- Does the configuration of a coherent window break R268? -/
def cohBad (c : Chip) (w : Nat) : Bool :=
  cohBase c w % 4096 != 0 || cohLen c w % 4096 != 0 || cohBase c w + cohLen c w > 2 ^ 64
    || c.coh.wins.any (fun x => x.1 != w && x.2 != 0 && cohPort c x.1 == cohPort c w
        && overlaps (cohBase c w) (cohLen c w) (cohBase c x.1) (cohLen c x.1))

/-- The rings of the ACTIVE queues of a port are watched where they lie in ACTIVE windows (R269). -/
def watchRings (c : Chip) (p : HPort) : Chip :=
  ((c.bel.queues.filter fun x => x.2.state == 2 && homePort c x.1 == p).map (·.1)).foldl watchRing c

/-- ENABLE (R268, R392): ACTIVE, or SUSPENDED while CXL.cache does not run (DEDUCED). -/
def windowEnable (w : Nat) (c : Chip) : Nat × Chip :=
  let p := cohPort c w
  if cohBad c w then (5, c)
  else if (getPort c p).proto != 1 || (p == .b && (getPort c p).pool) || tgetD c.coh.wins w 0 != 0 || c.sec.ten.state != 2 then (7, c)
  else (0, if cacheUp c p then watchRings (setCoh c w 1) p else setCoh c w 2)

/-- Does a line lie in window `w`? -/
def lineIn (c : Chip) (w k : Nat) : Bool :=
  linePort k == cohPort c w && cohBase c w ≤ lineAddr k && lineAddr k < cohBase c w + cohLen c w

/-- Silent doorbells whose lines pass a test become inactive (R187). -/
def silentOff (c : Chip) (ok : Nat → Bool) : Chip :=
  ((c.bel.queues.filter fun x => x.2.silent && ok (silentKey c x.1)).map (·.1)).foldl unpinSilent c

/-- Lines that pass a test become Invalid and leave the cache; reads in flight complete (R271), and one that a snoop has met is discarded (R272). -/
def dropLines (c : Chip) (ok : Nat → Bool) : Chip :=
  let late := (c.coh.lines.filter fun x => ok x.1 && x.2.reading).map fun x => (x.1, x.2.again)
  { c with coh := { c.coh with lines := c.coh.lines.filter (fun x => !ok x.1), late := c.coh.late ++ late } }

/-- A window goes OFF (R271): its lines become Invalid, its silent-doorbell lines are unpinned. -/
def windowOff (c : Chip) (w : Nat) : Chip := setCoh (dropLines (silentOff c (lineIn c w)) (lineIn c w)) w 0

/-- DISABLE (R271). -/
def windowDisable (w : Nat) (c : Chip) : Nat × Chip := (0, windowOff c w)

/-- Window control, object 0x4840+w.02 (R274). -/
def windowControl (w v : Nat) (c : Chip) : Nat × Chip :=
  if v = 1 then windowEnable w c else if v = 2 then windowDisable w c else (5, c)

/-- WINDOW_ENABLE (R268). -/
def execWindowEnable (src : Src) (tag w : Nat) (s : State) : Host.Outcome State Fault Refusal :=
  let rq := writeReq tag (0x4840 + w) 2 (leBytes 1 1)
  event "WINDOW_ENABLE" (w < 64 && presents s.toChip src rq) (serve (windowEnable w) src rq s.toChip) s

/-- WINDOW_DISABLE (R271). -/
def execWindowDisable (src : Src) (tag w : Nat) (s : State) : Host.Outcome State Fault Refusal :=
  let rq := writeReq tag (0x4840 + w) 2 (leBytes 1 2)
  event "WINDOW_DISABLE" (w < 64 && presents s.toChip src rq) (serve (windowDisable w) src rq s.toChip) s

/-- The windows of a port that are not OFF. -/
def portWindows (c : Chip) (p : HPort) : List (Nat × Nat) := c.coh.wins.filter fun x => x.2 != 0 && cohPort c x.1 == p

/-- WINDOW_SUSPEND (R271): the port's ACTIVE windows become SUSPENDED. -/
def suspendWindows (c : Chip) (p : HPort) : Chip :=
  let onPort := fun (k : Nat) => linePort k == p
  let ws := (portWindows c p).filter fun x => x.2 == 1
  if ws.isEmpty then c
  else ws.foldl (fun c x => stat (setCoh c x.1 2) 0x7049 6 1) (dropLines (silentOff c onPort) onPort)

/-- An FLR, or BME cleared, makes every window of the port OFF (R271). -/
def windowsOff (c : Chip) (p : HPort) : Chip := (portWindows c p).foldl (fun c x => windowOff c x.1) c

/-- In ROUGH the windows stop and their lines become Invalid; the objects keep their values (R272). -/
def cohRough (c : Chip) : Chip := dropLines (silentOff c fun _ => true) fun _ => true

/-- The windows of a port return to ACTIVE, and every silent-doorbell line is pinned and read (R271). -/
def resumeWindows (c : Chip) (p : HPort) : Chip :=
  let c := (portWindows c p).foldl (fun c x => setCoh c x.1 1) c
  watchRings (((c.bel.queues.filter fun x => 1 ≤ x.2.state && x.2.state ≤ 4 && !x.2.silent && isSilent c x.1 && homePort c x.1 == p
      && cohActive c p (qSilent c x.1) 4).map (·.1)).foldl pinSilent c) p

/-- WINDOW_RESUME (R271). -/
def execWindowResume (p : HPort) (s : State) : Host.Outcome State Fault Refusal :=
  let c := s.toChip
  event "WINDOW_RESUME" (cacheUp c p && serving c && (portWindows c p).any fun x => x.2 == 2) (resumeWindows c p) s

/-! Snoops and line reads (R186, R270, R272). -/

/-- One more read of a line is counted: a silent-doorbell read for a pinned line, a watch read for a watched one (R200, R275). -/
def countAgain (c : Chip) (l : Line) : Chip := if l.pinned then stat c 0x7020 4 1 else if l.watched then stat c 0x7049 4 1 else c

/-- What a snoop does to a line (R270, R272): an invalidated watched line is read again; a line whose read is in flight is read once more. -/
def snoopLine (c : Chip) (k : Nat) (invalidate : Bool) : Chip :=
  match tget c.coh.lines k with
  | none => c
  | some l =>
    if l.reading then modLine c k fun x => { x with again := true }
    else if !invalidate then c
    else
      let c := modLine c k fun x => { x with shared := false }
      if l.watched || l.pinned then readLine (countAgain c l) k else c

/-- A snoop is counted and answered, without data (R270). -/
def snoop (c : Chip) (k : Nat) (invalidate : Bool) : Chip :=
  emit (snoopLine (stat c 0x7049 3 1) k invalidate) (.snoopResponse (linePort k) (lineAddr k))

/-- SNOOP (R270). -/
def execSnoop (p : HPort) (addr : Nat) (invalidate : Bool) (s : State) : Host.Outcome State Fault Refusal :=
  eventOn 8 "SNOOP" (cacheUp s.toChip p && addr < 2 ^ 64) (snoop s.toChip (lineKey p addr) invalidate) s

/-- The queues that take a value from the read of a line (R186): those with an active silent doorbell in it, and those whose window was
SUSPENDED while the read was in flight, whose data is used (R271). -/
def valueQueues (c : Chip) (k : Nat) : List Nat :=
  (c.bel.queues.filter fun x => silentKey c x.1 == k && (x.2.silent ||
    (1 ≤ x.2.state && x.2.state ≤ 3 && isSilent c x.1 && c.mode != .rough && (cohFind c (homePort c x.1) (qSilent c x.1) 4 (· == 2)).isSome))).map (·.1)

/-- Silent-doorbell values enter their lanes (R186). -/
def silentValues (c : Chip) (k : Nat) (bs : Bytes) : Chip :=
  (valueQueues c k).foldl (fun c q => pushValue c q (bfld bs (qSilent c q % 64) 4) false) c

/-- The line is Shared, and its silent-doorbell values enter their lanes (R186). -/
def lineArrives (c : Chip) (k : Nat) (bs : Bytes) : Chip :=
  let shared := cohActive c (linePort k) (lineAddr k) 64
  silentValues (modLine c k fun x => { x with shared := shared, reading := false, wanted := false, data := leNat bs }) k bs

/-- The data of a line read arrives: one whose line has been dropped gives its silent-doorbell values alone (R271); a snoop in the meantime
causes one further read (R272). -/
def lineReadDone (c : Chip) (k : Nat) (bs : Bytes) : Chip :=
  match c.coh.late.find? fun x => x.1 == k with
  | some x =>
    let c := { c with coh := { c.coh with late := ldel c.coh.late (· == x) } }
    if x.2 then c else silentValues c k bs
  | none =>
    let l := tgetD c.coh.lines k Line.reset
    if l.again then emit (countAgain (modLine c k fun x => { x with again := false }) l) (.cacheRead (linePort k) (lineAddr k))
    else lineArrives c k bs

/-- LINE_READ_COMPLETE (R186, R270): the intake lanes have room for the values that the line brings (R183). -/
def execLineReadComplete (p : HPort) (addr : Nat) (line : Bytes) (s : State) : Host.Outcome State Fault Refusal :=
  let c := s.toChip
  let k := lineKey p addr
  let flying := (c.coh.late.any fun x => x.1 == k) || (tgetD c.coh.lines k Line.reset).reading
  eventOn 8 "LINE_READ_COMPLETE" (flying && line.length == 64 && lanesTake c (valueQueues c k)) (lineReadDone c k line) s

end Sys2Proof.Machine
end

