-- ==== Sys2Proof/Machine/Ports.lean ====
section
/-! DEFINITION. The host ports (R299 to R325): resets, link events, FLR and shutdowns, configuration writes, attach, power states, the optical
engine, the ROM window and the host reads and writes with rows of their own. -/

namespace Sys2Proof.Machine

/-! What a reset, an FLR or a shutdown does to the unit (R318). -/

/-- The IDE streams of a port end and its keys are discarded; its DOE is aborted and its sessions end (R318, R387). -/
def endStreams (c : Chip) (p : HPort) : Chip :=
  let k := portNo p
  let s := c.sec.spdm
  { c with sec := { c.sec with spdm := { s with
    streams := setBits s.streams (5 * k) 5 0, keys := s.keys.filter fun x => x.1 / 100 != k, sessions := s.sessions.set k 0,
    handshakes := s.handshakes.set k 0 } } }

/-- Every Space whose SVA binding names the port takes a hard bump; queued ATS invalidations are discarded (R318). -/
def svaBump (c : Chip) (p : HPort) : Chip :=
  let drop := fun (b : BumpBy) => match b with | .ats o _ => o != p | _ => true
  let c := { c with sp := { c.sp with bumps := c.sp.bumps.map fun b => { b with bys := b.bys.filter drop }, invQueued := setTwo c.sp.invQueued p 0 } }
  let ts := (spaceTags c).filter fun sp => svaEn c sp && svaPort c sp == p && ((getSpace c sp).state == 2 || (getSpace c sp).state == 4)
  ts.foldl (fun c sp => requestBump c sp true (.portReset p) .none) c

/-- The reads of strokes on a port. -/
def portReads (c : Chip) (p : HPort) : List XReq :=
  (c.xf.reqs.filter fun r => !r.2.write && routePort r.2.route == some p).map (·.2)

/-- Unit reads on a port that is reset end at once as CLASS 7 (R318). -/
def endReads (c : Chip) (p : HPort) : Chip := (portReads c p).foldl (fun c r => failReq c r 7) c

/-- Strokes with a read outstanding on a port in an FLR or shutdown are aborted, and the launches of other queues end with BUS_ERROR (R318,
R320). -/
def abortReads (c : Chip) (p : HPort) : Chip :=
  (portReads c p).foldl (fun c r =>
    match getStroke c r.ch r.sd r.k, getSd c r.sd with
    | some x, some d =>
      if x.aborted then c
      else
        let c := abortStroke c r.ch x
        if ownerGone c d.owner then c else ownerFail c d.owner 9
    | _, _ => c) c

/-- The port's registers and mailbox at reset, and its attach cleared (R38, R318). -/
def portRegisters (c : Chip) (p : HPort) : Chip :=
  resetMbox (modPort c p fun s => { s with intxEn := 0, mgmt := false, attached := false, latched := false }) p

/-- Page requests and their stop after Response Failure end with the function's PRI state (R77, R318). -/
def resetPri (c : Chip) (p : HPort) : Chip :=
  { c with sp := { c.sp with priOff := setTwo c.sp.priOff p false, priOut := setTwo c.sp.priOut p 0 } }

/-- The fundamental-reset and hot-reset columns of R318: `cfg` gives configuration space, `link` the link state. A link that was up counts as
a link down and raises source 17 + 8p (R322, R409). A hot reset keeps protocol and role in force, as R299 and the Link row of R318 have it, although
R27 returns the V objects of the port to their defaults (DEDUCED, log 126). -/
def portReset (c : Chip) (p : HPort) (link : Nat) (cfg : CfgSpace → CfgSpace) : Chip :=
  let k := portNo p
  let c := if linkIsUp c p then raiseEv (stat c (0x7012 + k) 4 1) (17 + 8 * k) 0 2 0 else c
  let c := modPort c p fun s => { s with
    link := link, rate := 0, width := 0, flitRefused := false, cfg := cfg s.cfg, ready := false }
  let c := resetPri (portRegisters c p) p
  let c := endReads (suspendWindows (hostLost c p) p) p
  react (presentAll (endStreams (svaBump c p) p))

/-- Configuration space after a hot reset or link down: defaults but for the sticky AER bits (R318). -/
def hotConfig (s : CfgSpace) : CfgSpace := { CfgSpace.reset with aerUnc := s.aerUnc, aerCor := s.aerCor }

/-- PERST_ASSERT (R318): the fundamental-reset column; the link stays down. -/
def execPerstAssert (p : HPort) (s : State) : Host.Outcome State Fault Refusal :=
  let c := portReset s.toChip p 5 fun _ => CfgSpace.reset
  event "PERST_ASSERT" (!(getPort s.toChip p).perst) (modPort c p fun x => { x with perst := true }) s

/-- What a port takes at the end of a fundamental reset: the protocol, the role and the subsystem IDs (R299, R324). -/
def portStrap (c : Chip) (p : HPort) : Chip :=
  let i := 0x1210 + portNo p
  modPort c p fun s => { s with
    proto := obj c i 1, pool := obj c i 2 == 1 && p == .b, subVid := obj c 0x1200 1, subId := obj c 0x1200 2 }

/-- PERST_DEASSERT (R318): the link trains with the protocol and role that now take effect. -/
def execPerstDeassert (p : HPort) (s : State) : Host.Outcome State Fault Refusal :=
  let c := portStrap s.toChip p
  event "PERST_DEASSERT" (getPort s.toChip p).perst (modPort c p fun x => { x with perst := false, link := 1 }) s

/-- HOT_RESET (R318): the link goes down and retrains. -/
def execHotReset (p : HPort) (s : State) : Host.Outcome State Fault Refusal :=
  event "HOT_RESET" (linkIsUp s.toChip p) (portReset s.toChip p 1 hotConfig) s

/-- LINK_DOWN (R322). -/
def execLinkDown (p : HPort) (s : State) : Host.Outcome State Fault Refusal :=
  event "LINK_DOWN" (linkIsUp s.toChip p) (portReset s.toChip p 0 hotConfig) s

/-- LOSS_OF_LIGHT_TIMEOUT (R322): 4,000 OECLK cycles, 40,000 ticks, without light on every active lane. -/
def execLossOfLightTimeout (p : HPort) (t : Nat) (s : State) : Host.Outcome State Fault Refusal :=
  event "LOSS_OF_LIGHT_TIMEOUT" (linkIsUp s.toChip p && domainRuns s.toChip (9 + portNo p) && 40000 ≤ nowAt s.toChip t) (portReset (advance s.toChip t) p 0 hotConfig) s

/-- Rates in GT/s at which a port can train: every rate of the standard up to that of its protocol (R300, R301); 2 stands for 2.5. -/
def rateOk (proto rate : Nat) : Bool := [2, 5, 8, 16, 32, 64].contains rate || (proto == 0 && rate == 128)

/-- Widths at which a port can train (R300). -/
def widthOk (w : Nat) : Bool := [1, 2, 4, 8, 16].contains w

/-- Does a port train: PERST is deasserted, the link is down, and LCLK and TXCLK run (R302, R343, R399)? -/
def canTrain (c : Chip) (p : HPort) : Bool :=
  let s := getPort c p
  !s.perst && s.link ≤ 1 && c.boot.mclkRuns && pllState c 1 == 2 && domainRuns c (3 + portNo p)

/-- The link reaches L0; configuration space is ready, but not while MODE reads BOOT (R319). A partner without flit mode, rate 0, leaves the
link training with FLIT_REFUSED (R300). -/
def linkUp (p : HPort) (rate width : Nat) (c : Chip) : Chip :=
  if rate = 0 then modPort c p fun s => { s with link := 1, flitRefused := true }
  else modPort c p fun s => { s with
    link := 2, rate := rate, width := width, flitRefused := false, ready := c.mode != .boot }

/-- LINK_UP (R319). -/
def execLinkUp (p : HPort) (rate width : Nat) (s : State) : Host.Outcome State Fault Refusal :=
  event "LINK_UP" (canTrain s.toChip p && (rate == 0 || (rateOk (getPort s.toChip p).proto rate && widthOk width)))
    (linkUp p rate width s.toChip) s

/-- LINK_RECOVERY (R322): the return to L0 is counted; nothing is lost. -/
def execLinkRecovery (p : HPort) (s : State) : Host.Outcome State Fault Refusal :=
  event "LINK_RECOVERY" (linkIsUp s.toChip p) (modPort (stat s.toChip (0x7012 + portNo p) 3 1) p fun x => { x with link := 2 }) s

/-! FLR, shutdowns and configuration writes (R319 to R321). -/

/-- Is a configuration request answered: the space is ready and no FLR runs (R319, R320)? -/
def cfgAnswers (c : Chip) (p : HPort) : Bool := (getPort c p).ready && (getPort c p).shut != 1

/-- A configuration request completes with RRS (status 2) and has no effect. -/
def sendRrs (c : Chip) (p : HPort) : Chip := emit (stat c (0x7012 + portNo p) 8 1) (.completion p 2 [])

/-- A configuration write: RRS, or its effect and a successful completion. -/
def cfgWrite (c : Chip) (p : HPort) (f : Chip → Chip) : Chip :=
  if cfgAnswers c p then f (emit c (.completion p 0 [])) else sendRrs c p

/-- The queues homed on a port that are not FREE start the destroy of R195. -/
def flrQueues (c : Chip) (p : HPort) : Chip :=
  ((c.bel.queues.filter fun x => x.2.state != 0 && homePort c x.1 == p).map (·.1)).foldl flrQueue c

/-- Step 1 of R320, which shutdowns share (R321): the port issues nothing, queues are destroyed with CAUSE 9, coherent windows go OFF, reads
outstanding are accepted and discarded. -/
def startShut (c : Chip) (p : HPort) (kind : Nat) : Chip :=
  let c := modPort c p fun s => { s with shut := kind, attached := false }
  let c := windowsOff (abortReads (flrQueues c p) p) p
  react (presentAll (svaBump c p))

/-- Initiate FLR (R320). The link stays up, so its state, rate, width, protocol and role (objects 0x1210+p.03 and .04) stand, although R27 returns the
V objects of the port to their defaults (DEDUCED, log 126). -/
def initiateFlr (p : HPort) (c : Chip) : Chip := startShut (endStreams (resetPri (portRegisters c p) p) p) p 1

/-- INITIATE_FLR (R320). -/
def execInitiateFlr (p : HPort) (s : State) : Host.Outcome State Fault Refusal :=
  event "INITIATE_FLR" (linkIsUp s.toChip p) (cfgWrite s.toChip p (initiateFlr p)) s

/-- Bus Master Enable is cleared: the shutdown of R321 starts when it was set. -/
def bmeClear (p : HPort) (c : Chip) : Chip :=
  let s := getPort c p
  if !s.cfg.bme then c
  else
    let c := modPort c p fun s => { s with cfg := { s.cfg with bme := false } }
    if s.shut = 0 then startShut c p 2 else c

/-- BME_CLEAR (R321). -/
def execBmeClear (p : HPort) (s : State) : Host.Outcome State Fault Refusal :=
  event "BME_CLEAR" (linkIsUp s.toChip p) (cfgWrite s.toChip p (bmeClear p)) s

/-- The function enters D3hot (R321). -/
def d3hotEntry (p : HPort) (c : Chip) : Chip :=
  let s := getPort c p
  if s.cfg.d3 then c
  else
    let c := modPort c p fun s => { s with cfg := { s.cfg with d3 := true } }
    if s.shut = 0 then startShut c p 3 else c

/-- D3HOT_ENTRY (R321). -/
def execD3hotEntry (p : HPort) (s : State) : Host.Outcome State Fault Refusal :=
  event "D3HOT_ENTRY" (linkIsUp s.toChip p) (cfgWrite s.toChip p (d3hotEntry p)) s

/-- Change the configuration space of a port. -/
def modCfg (c : Chip) (p : HPort) (f : CfgSpace → CfgSpace) : Chip := modPort c p fun s => { s with cfg := f s.cfg }

/-- A write of the Command register (R303): Memory Space Enable, Parity Error Response, SERR# Enable and Interrupt Disable, then Bus Master
Enable. -/
def writeCommand (p : HPort) (v : Nat) (c : Chip) : Chip :=
  let c := modCfg c p fun g => { g with mse := bit v 1, parity := bit v 6, serr := bit v 8, intDisable := bit v 10 }
  if bit v 2 then modCfg c p fun g => { g with bme := true } else bmeClear p c

/-- Is a configuration write held off by a running shutdown: it would set Bus Master Enable or return the function to D0 (R321)? -/
def heldOff (c : Chip) (p : HPort) (reg : CfgReg) (v : Nat) : Bool :=
  let s := getPort c p
  s.shut != 0 && match reg with
    | .command => bit v 2 && !s.cfg.bme
    | .powerState => v % 4 == 0 && s.cfg.d3
    | _ => false

/-- Max Payload Size by its code; codes above 2 act as 512 B (PRESUMED: the PCIe standard reserves them). -/
def mpsOf (v : Nat) : Nat := if v = 0 then 128 else if v = 1 then 256 else 512

/-- The effect of a configuration write (R303, R304, R313, R316). The codes are those of the PCIe standard (PRESUMED). -/
def configWrite (p : HPort) (reg : CfgReg) (v : Nat) (c : Chip) : Chip :=
  match reg with
  | .command => writeCommand p v c
  | .powerState =>
    if v % 4 = 3 then d3hotEntry p c else if v % 4 = 0 then modCfg c p fun g => { g with d3 := false } else c
  | .maxPayload => modCfg c p fun g => { g with mps := mpsOf v }
  | .maxReadReq => modCfg c p fun g => { g with mrrs := 128 * 2 ^ min v 5 }
  | .relaxedOrder => modCfg c p fun g => { g with roEn := bit v 0 }
  | .idoRequest => modCfg c p fun g => { g with idoEn := bit v 0 }
  | .completionTimeout => modCfg c p fun g => { g with ctv := v % 16 }
  | .ptmEnable => modCfg c p fun g => { g with ptmEn := bit v 0 }
  | .priEnable =>
    let c := if bit v 0 && !(getPort c p).cfg.priEn then { c with sp := { c.sp with priOff := setTwo c.sp.priOff p false } } else c
    sendNextPri (modCfg c p fun g => { g with priEn := bit v 0 }) p
  | .priAllocation => sendNextPri (modCfg c p fun g => { g with priAlloc := min v 512 }) p
  | .cxlCache =>
    let c := modCfg c p fun g => { g with cacheEn := bit v 0 && (getPort c p).proto == 1 }
    if bit v 0 then c else suspendWindows c p
  | .aspm => modCfg c p fun g => { g with aspm := v % 4 }
  | .bar0 => modCfg c p fun g => { g with bar0 := v % 2 ^ 32 / 2 ^ 20 * 2 ^ 20 }
  | .bar2 => modCfg c p fun g => { g with bar2 := v % 2 ^ 32 / 2 ^ 24 * 2 ^ 24 }
  | .romBar => modCfg c p fun g => { g with rom := v % 2 ^ 32 / 2 ^ 24 * 2 ^ 24 + v % 2 }
  | .aerUncorrectable => modCfg c p fun g => { g with aerUnc := g.aerUnc - (g.aerUnc &&& v) }
  | .aerCorrectable => modCfg c p fun g => { g with aerCor := g.aerCor - (g.aerCor &&& v) }
  | .other => c

/-- CONFIG_WRITE (R319, R321). -/
def execConfigWrite (p : HPort) (reg : CfgReg) (v : Nat) (s : State) : Host.Outcome State Fault Refusal :=
  event "CONFIG_WRITE" (linkIsUp s.toChip p)
    (if heldOff s.toChip p reg v then sendRrs s.toChip p else cfgWrite s.toChip p (configWrite p reg v)) s

/-! Attach (R317). -/

/-- ATTACH (R317, R389): through the port's own mailbox. A running shutdown counts as a cleared Bus Master Enable (DEDUCED). -/
def portAttach (src : Src) (p : HPort) (c : Chip) : Nat × Chip :=
  let s := getPort c p
  if src != .mbox p || !s.cfg.mse || !s.cfg.bme || s.cfg.d3 || s.shut != 0 || s.pool || s.attached || ideShut c p then (7, c)
  else (0, modPort c p fun x => { x with attached := true, epoch := (x.epoch + 1) % 2 ^ 32 })

/-- DETACH (R317). -/
def portDetach (p : HPort) (c : Chip) : Nat × Chip := (0, modPort c p fun x => { x with attached := false })

/-- Attach request, object 0x1210+p.08 (R324). -/
def attachRequest (src : Src) (p : HPort) (v : Nat) (c : Chip) : Nat × Chip :=
  if v = 1 then portAttach src p c else if v = 2 then portDetach p c else (5, c)

/-- PORT_ATTACH (R317). -/
def execPortAttach (src : Src) (tag : Nat) (p : HPort) (s : State) : Host.Outcome State Fault Refusal :=
  let rq := writeReq tag (0x1210 + portNo p) 8 (leBytes 1 1)
  event "PORT_ATTACH" (presents s.toChip src rq) (serve (portAttach src p) src rq s.toChip) s

/-- PORT_DETACH (R317). -/
def execPortDetach (src : Src) (tag : Nat) (p : HPort) (s : State) : Host.Outcome State Fault Refusal :=
  let rq := writeReq tag (0x1210 + portNo p) 8 (leBytes 1 2)
  event "PORT_DETACH" (presents s.toChip src rq) (serve (portDetach p) src rq s.toChip) s

/-! Timeouts and errors (R315, R316). -/

/-- A read has passed its timeout: CLASS 2, logged, with a Note of source 20 + 8p (R315, R316). -/
def completionTimeout (r : XReq) (p : HPort) (c : Chip) : Chip := react (presentAll (failReq (logRead c p .timeout) r 2))

/-- COMPLETION_TIMEOUT (R316). -/
def execCompletionTimeout (id t : Nat) (s : State) : Host.Outcome State Fault Refusal :=
  let r := (tget s.xf.reqs id).bind fun x => (routePort x.route).map fun p => (x, p)
  event "COMPLETION_TIMEOUT" ((r.map fun x => !x.1.write && decide (x.1.limit ≤ nowAt s.toChip t)).getD false)
    (match r with | some (x, p) => completionTimeout x p (advance s.toChip t) | none => s.toChip) s

/-- An uncorrectable link error: logged as fatal, and counted on source 16 + 8p (R315). -/
def linkUncorrectable (c : Chip) (p : HPort) (b : Nat) : Chip := raiseEv (aerUncorrectable c p b 0x33) (16 + 8 * portNo p) 0 2 0

/-- What the port does on a link error (R315). The bits are those of the AER capability (PRESUMED: the PCIe standard). -/
def linkError (p : HPort) (kind : LinkErr) (c : Chip) : Chip :=
  match kind with
  | .correctable => aerCorrectable c p 0
  | .malformedTlp => linkUncorrectable c p 18
  | .flowControl => linkUncorrectable c p 13
  | .receiverOverflow => linkUncorrectable c p 17
  | .dataLink => linkUncorrectable c p 4
  | .unexpectedCompletion => if (getPort c p).shut != 0 then c else aerAdvisory c p 16

/-- LINK_ERROR (R315). -/
def execLinkError (p : HPort) (kind : LinkErr) (s : State) : Host.Outcome State Fault Refusal :=
  event "LINK_ERROR" (linkIsUp s.toChip p) (linkError p kind s.toChip) s

/-! Link power (R311). -/

/-- L0P_ENTRY (R311): the host has enabled the state (bit 0 of the model's Link Control field) and the port has been idle that long. -/
def execL0pEntry (p : HPort) (t : Nat) (s : State) : Host.Outcome State Fault Refusal :=
  let x := getPort s.toChip p
  event "L0P_ENTRY" (x.link == 2 && bit x.cfg.aspm 0 && 4 < x.width && obj s.toChip (0x1210 + portNo p) 5 ≤ nowAt s.toChip t)
    (modPort (advance s.toChip t) p fun y => { y with link := 3 }) s

/-- Is a PTM Request due on the port at a tick (R311, R323, R330)? -/
def ptmDue (c : Chip) (p : HPort) (t : Nat) : Bool := obj c 0x1300 2 == portNo p + 1 && decide (c.clk.disc.ptmNext ≤ t)

/-- Is a queue homed on the port ACTIVE? -/
def activeQueue (c : Chip) (p : HPort) : Bool := c.bel.queues.any fun x => x.2.state == 2 && homePort c x.1 == p

/-- L1_ENTRY (R311). -/
def execL1Entry (p : HPort) (t : Nat) (s : State) : Host.Outcome State Fault Refusal :=
  let c := s.toChip
  let x := getPort c p
  event "L1_ENTRY" ((x.link == 2 || x.link == 3) && bit x.cfg.aspm 1 && obj c (0x1210 + portNo p) 6 ≤ nowAt c t && readsOn c p == 0
      && !activeQueue c p && !ptmDue c p (nowAt c t))
    (modPort (stat (advance c t) (0x7012 + portNo p) 5 1) p fun y => { y with link := 4 }) s

/-- LINK_POWER_EXIT (R311). -/
def execLinkPowerExit (p : HPort) (s : State) : Host.Outcome State Fault Refusal :=
  let x := getPort s.toChip p
  event "LINK_POWER_EXIT" (x.link == 3 || x.link == 4) (modPort s.toChip p fun y => { y with link := 2 }) s

/-! The optical engine (R302). -/

/-- OPTICAL_POLL (R302): every 100,000 ticks the unit takes the engine's report. -/
def execOpticalPoll (p : HPort) (light faults temp st t : Nat) (s : State) : Host.Outcome State Fault Refusal :=
  let c := s.toChip
  let n := nowAt c t
  event "OPTICAL_POLL" (c.boot.mclkRuns && domainRuns c (9 + portNo p) && (getPort c p).oeNext ≤ n)
    (modPort (advance c t) p fun x => { x with
      oeLight := light % 65536, oeFault := faults % 65536, oeTemp := temp % 256, oeState := st % 3, oeNext := n + 100000 }) s

/-- An engine fault (R302): the optical source is raised with the lane mask; a link that lost lanes retrains at what remains, and is down when
none remains (R323). -/
def opticalFault (p : HPort) (lanes width : Nat) (c : Chip) : Chip :=
  let c := modPort c p fun x => { x with oeFault := x.oeFault ||| lanes % 65536, oeState := 2, oeTick := now c }
  let c := raiseEv c (18 + 8 * portNo p) 0 2 (lanes % 65536)
  if !linkIsUp c p then c
  else if width = 0 then portReset c p 0 hotConfig
  else if width < (getPort c p).width then modPort (stat c (0x7012 + portNo p) 3 1) p fun x => { x with link := 2, width := width }
  else c

/-- OPTICAL_ENGINE_FAULT (R302). -/
def execOpticalEngineFault (p : HPort) (lanes width : Nat) (s : State) : Host.Outcome State Fault Refusal :=
  event "OPTICAL_ENGINE_FAULT" (s.boot.mclkRuns && domainRuns s.toChip (9 + portNo p) && (width == 0 || widthOk width)) (opticalFault p lanes width s.toChip) s

/-! The ROM window (R308, R372, R383). -/

/-- BLOCKS of a bundle. -/
def bunBlocks (b : Bytes) : Nat := bfld b 16 4

/-- LENGTH of a bundle. -/
def bunLength (b : Bytes) : Nat := bfld b 12 4

/-- Where the body of a bundle begins (R372). -/
def bunBody (b : Bytes) : Nat := roundUp (160 + 48 * bunBlocks b) 4096

/-- Block `k` of the body, its last block padded with zeros. -/
def bunBlock (b : Bytes) (k : Nat) : Bytes := padTo 4096 ((b.drop (bunBody b + 4096 * k)).take 4096)

/-- Does block `k` match its digest (R374)? -/
def blockOk (b : Bytes) (k : Nat) : Bool := sha384 (bunBlock b k) == (b.drop (160 + 48 * k)).take 48

/-- The section of a KIND: offset and length in the body; the table ends at a KIND of 0 (R372). -/
def sectionOf (b : Bytes) (kind i : Nat) : Nat → Option (Nat × Nat)
  | 0 => none
  | n + 1 =>
    let o := bunBody b + 16 * i
    if bfld b o 4 = 0 then none
    else if bfld b o 4 = kind then some (bfld b (o + 4) 4, bfld b (o + 8) 4)
    else sectionOf b kind (i + 1) n

/-- The bytes of a section, with OFFSET counted from the start of the body (DESIGN CHOICE: R372 does not say from where). -/
def sectionBytes (b : Bytes) (kind : Nat) : Bytes :=
  match sectionOf b kind 0 256 with
  | some x => (b.drop (bunBody b + x.1)).take x.2
  | none => []

/-- Is a bundle visible in the staged-bundle region: STAGED or ACTIVATING (R373)? -/
def stagedShown (c : Chip) : Bool := c.sec.fw.state == 3 || c.sec.fw.state == 5

/-- The log region (R383): header, then the ring; entry `i` ever written stands at `i` mod 8,191. -/
def logRegion (c : Chip) : Bytes :=
  let m := c.sec.meas
  let n := min m.logTotal 8191
  let head := padTo 64 (leBytes 12 (pack [(0x474F4C4D, 4), (m.logTotal, 4), (m.logTotal % 8191, 4)]))
  head ++ (upFrom 0 n).flatMap fun k =>
    let age := (m.logTotal + 8191 - 1 - k) % 8191
    padTo 128 (m.log.getD age [])

/-- The directory (R308). -/
def romDirectory (c : Chip) : Bytes :=
  let f := c.sec.fw
  padTo 64 (leBytes 20 (pack [(0x4D4F524A, 4), ((sectionBytes f.running 2).length, 4), (bunLength f.running, 4),
    (if stagedShown c then bunLength f.staged else 0, 4), (64 + 128 * min c.sec.meas.logTotal 8191, 4)]))

/-- The region of the window that holds an offset: its bytes and where it begins. -/
def romRegion (c : Chip) (o : Nat) : Bytes × Nat :=
  let f := c.sec.fw
  if o < 0x200000 then (sectionBytes f.running 2, 0)
  else if o < 0x800000 then (f.running, 0x200000)
  else if o < 0xE00000 then (if stagedShown c then f.staged else [], 0x800000)
  else if o < 0xF00000 then (logRegion c, 0xE00000)
  else (romDirectory c, 0xF00000)

/-- One byte of the window; bytes past a region's contents read as zero. -/
def romByte (c : Chip) (o : Nat) : Byte := let r := romRegion c o; r.1.getD (o - r.2) 0

/-- The 4 KiB blocks of the running bundle's body that an access meets. -/
def romBlocks (c : Chip) (o n : Nat) : List Nat :=
  let b := c.sec.fw.running
  (upFrom 0 (bunBlocks b)).filter fun k => overlaps o n (0x200000 + bunBody b + 4096 * k) 4096

/-- A read of the ROM window (R308): a block of the running bundle that fails its digest is returned poisoned (status 3) with an Alert of
source 186. -/
def romRead (p : HPort) (o n : Nat) (c : Chip) : Chip :=
  match (romBlocks c o n).find? fun k => !blockOk c.sec.fw.running k with
  | some k => complete (raiseEv c 186 k 2 0) p 3 ((upFrom o n).map (romByte c))
  | none => complete c p 0 ((upFrom o n).map (romByte c))

/-- Is a read of the window allowed: enabled, inside 16 MiB, at most 4 KiB and aligned to its size (R305, R307, R308)? -/
def romAllowed (c : Chip) (p : HPort) (o n : Nat) : Bool :=
  bit (getPort c p).cfg.rom 0 && 0 < n && n ≤ 4096 && o + n ≤ 0x1000000 && o % n == 0

/-- ROM_READ (R308). -/
def execRomRead (p : HPort) (o n : Nat) (s : State) : Host.Outcome State Fault Refusal :=
  let c := s.toChip
  event "ROM_READ" (hostReach c p) (if hostDecodes c p && romAllowed c p o n then romRead p o n c else urRead c p) s

/-! Registers with rows of their own (R310, R327). -/

/-- CARILLON_NOW_LOW_READ (R327): the low half is returned, the upper half latched for the port. -/
def execCarillonNowLowRead (p : HPort) (s : State) : Host.Outcome State Fault Refusal :=
  event "CARILLON_NOW_LOW_READ" (hostReach s.toChip p)
    (hostRead s.toChip p true fun c =>
      (leBytes 4 (now c), modPort c p fun x => { x with latched := true, latch := now c / 2 ^ 32 })) s

/-- CARILLON_NOW_HIGH_READ (R327): the latched upper half, or the live one. -/
def execCarillonNowHighRead (p : HPort) (s : State) : Host.Outcome State Fault Refusal :=
  event "CARILLON_NOW_HIGH_READ" (hostReach s.toChip p)
    (hostRead s.toChip p true fun c =>
      let x := getPort c p
      (leBytes 4 (if x.latched then x.latch else now c / 2 ^ 32), modPort c p fun y => { y with latched := false })) s

/-- INTX_MGMT_CLEAR (R310). -/
def execIntxMgmtClear (p : HPort) (s : State) : Host.Outcome State Fault Refusal :=
  event "INTX_MGMT_CLEAR" (hostPosts s.toChip p) (hostWrite s.toChip p 4 true fun c => modPort c p fun x => { x with mgmt := false }) s

end Sys2Proof.Machine
end

