-- ==== Sys2Proof/Machine/Clocks.lean ====
section
/-! DEFINITION. Carillon's discipline, the PLLs, the clock domains, their monitors, gates and multiplexers, and the frequency meter (R326 to
R349). -/

namespace Sys2Proof.Machine

/-! Sources and domains (R336, R339). -/

/-- Change the clock system. -/
def modClk (c : Chip) (f : ClkSt → ClkSt) : Chip := { c with clk := f c.clk }

/-- Change the discipline. -/
def modDisc (c : Chip) (f : Disc → Disc) : Chip := modClk c fun k => { k with disc := f k.disc }

/-- Set the state of PLL `k`. -/
def setPll (c : Chip) (k st : Nat) : Chip := modClk c fun x => { x with pll := x.pll.set k st }

/-- Set a domain's selection and multiplexer status. -/
def setMux (c : Chip) (d : Nat) (fb : Bool) (st : Nat) : Chip :=
  modClk c fun k => { k with sel := setBit k.sel (d - 1) fb, mux := k.mux.set (d - 1) st }

/-- The nominal frequency of a domain's current source in kHz (object 0x1320+d.03); FIRC ÷ 4 for OECLK, ÷ 2 for DCLK (R339). TXCLK runs at
the lane rate divided by 128 (R302). -/
def domainFreq (c : Chip) (d : Nat) : Nat :=
  if hasMux d && onFallback c d then
    (if d = 9 || d = 10 then 100000 else if d = 24 then 200000 else if d = 21 then 12500 else 400000)
  else if 5 ≤ d && d ≤ 8 then
    let r := (getPort c (if d % 2 = 1 then .a else .b)).rate
    if r = 64 then 500000 else domainNominal d
  else domainNominal d

/-! The discipline (R329 to R335). -/

/-- Is KCLK on its FIRC fallback? -/
def kclkFirc (c : Chip) : Bool := onFallback c 22

/-- Time source, object 0x1300.02. -/
def timeSource (c : Chip) : Nat := obj c 0x1300 2

/-- Does the unit ignore its own time inputs: unit 1 while joined (R291)? -/
def followsPartner (c : Chip) : Bool := c.mode == .doublet && c.unit1

/-- Holdover stability S in ppb (R334). -/
def holdS (c : Chip) : Nat := if kclkFirc c then 30000000 else obj c 0x1300 0xB

/-- Age A and bound B of the holdover status (R334); kept after HOLDOVER until the next entry (R333). -/
def holdStatus (c : Chip) : Nat × Nat :=
  let d := c.clk.disc
  if d.state = 3 then
    let a := now c - d.holdTick
    (a, d.holdB0 + (a * holdS c + 999999999) / 1000000000)
  else (d.holdAge, d.holdBound)

/-- Enter HOLDOVER: steering is frozen, B0 and the entry tick are recorded (R333, R334). -/
def enterHoldover (c : Chip) : Chip :=
  if c.clk.disc.state = 3 then c
  else modDisc (stat c 0x7014 3 1) fun d => { d with
    state := 3, good := 0, holdTick := now c, holdB0 := d.lastOff.natAbs + 20 }

/-- Leave HOLDOVER for ACQUIRING: its status is kept. -/
def leaveHoldover (c : Chip) : Chip :=
  let h := holdStatus c
  modDisc c fun d => { d with state := 1, good := 0, holdAge := h.1, holdBound := h.2, since := now c }

/-- The state after a valid sample (R333). -/
def sampleState (c : Chip) (off : Int) : Chip :=
  let d := c.clk.disc
  let thr := obj c 0x1300 8
  let near := decide (off.natAbs ≤ thr)
  if d.state = 1 then
    let g := if near then d.good + 1 else 0
    modDisc c fun x => { x with good := if g = 8 then 0 else g, state := if g = 8 then 2 else 1 }
  else if d.state = 2 then (if 4 * thr < off.natAbs then modDisc c fun x => { x with state := 1, good := 0 } else c)
  else if d.state = 3 then leaveHoldover c
  else c

/-- The reference of PLL `k` in Hz, nominal: XREF0, XREF1 or FIRC. -/
def pllRef (v : Nat) : Nat := let r := fld v 0 1; if r = 0 then 100000000 else if r = 1 then 25000000 else 400000000

/-- FBDIV.FRAC, in units of 2^-32, at which KCLK counts one tick per nanosecond of its reference: a VCO of 4 GHz divided by 4 (R339). -/
def kclkUnity (v : Nat) : Nat := 4000000000 * fld v 1 1 * 2 ^ 32 / pllRef v

/-- The steering after a valid sample: how the discipline chooses it is not given, so it is a free value within the Slew limit, and FBDIV
and FRAC of PLL-K, which belong to it, are free values that keep the tick rate within that limit too (R332, R337). -/
def steer (c : Chip) : Chip :=
  if c.clk.disc.state = 0 then c
  else
    let lim := obj c 0x1300 7
    let r := takeFree c 32
    let f := takeFree r.2 64
    let v := obj f.2 0x1313 1
    let w := kclkUnity v * lim / 1000000000
    let n := kclkUnity v - w + f.1 % (2 * w + 1)
    let c := setObj f.2 0x1313 1 (setFld (setFld v 2 2 (n / 2 ^ 32)) 4 4 (n % 2 ^ 32))
    modDisc c fun d => { d with steer := ((r.1 % (2 * lim + 1) : Nat) : Int) - (lim : Int) }

/-- Is this the first ROUGH entry after reset (R15, R332)? -/
def firstRough (c : Chip) : Bool := c.mode == .rough && c.rough.kind == 1

/-- A valid sample: source time minus Carillon (R330 to R333). An armed Align steps Carillon to the source time, while the first Rough entry lasts
(DEDUCED, log 127: R332 makes slewing the only correction after it). -/
def validSample (c : Chip) (off : Int) : Chip :=
  let c := stat c 0x7014 4 1
  let c := if obj c 0x1300 0xE < off.natAbs then raiseEv c 8 0 2 0 else c
  let c := sampleState c off
  let c := if c.clk.disc.align && firstRough c then
      modDisc (modClk c fun k => { k with carillon := toTwos 64 ((k.carillon : Int) + off) }) fun d => { d with align := false, ppsOpen := false }
    else c
  steer (modDisc c fun d => { d with lastOff := off, lastTick := now c, since := now c })

/-- An invalid sample is counted and otherwise ignored (R330, R331). -/
def invalidSample (c : Chip) : Chip := stat c 0x7014 5 1

/-- The port that PTM uses. -/
def ptmPort (c : Chip) : Option HPort := if timeSource c = 1 then some .a else if timeSource c = 2 then some .b else none

/-- May a dialogue run on a port: PTM Enable set, link in L0 or L0p (R330)? -/
def ptmUsable (c : Chip) (p : HPort) : Bool := let s := getPort c p; s.cfg.ptmEn && (s.link == 2 || s.link == 3)

/-- The PTM period elapses (R330): a request goes out, or, when none can, its sample is invalid. -/
def ptmRequest (c : Chip) (p : HPort) : Chip :=
  let c := modDisc c fun d => { d with ptmNext := now c + obj c 0x1300 0xA }
  if ptmUsable c p then modDisc (emit c (.ptmRequest p)) fun d => { d with ptmOut := true, ptmSent := now c }
  else invalidSample c

/-- PTM_REQUEST (R330): no sample is taken while KCLK is on FIRC (R335); a port in L1 leaves it first (R311). -/
def execPtmRequest (t : Nat) (s : State) : Host.Outcome State Fault Refusal :=
  let c := s.toChip
  let ok := (ptmPort c).map fun p => (getPort c p).link != 4
  event "PTM_REQUEST" (ok.getD false && c.boot.mclkRuns && !kclkFirc c && !followsPartner c && c.clk.disc.ptmNext ≤ nowAt c t)
    (match ptmPort c with | some p => ptmRequest (advance c t) p | none => c) s

/-- The sample of a PTM Response: the master time, with the link delay removed, plus Offset, minus Carillon (R330). -/
def ptmOffset (c : Chip) (master : Nat) : Int := (master : Int) + sext 64 (obj c 0x1300 4) - (now c : Int)

/-- A PTM Response that arrives in time (R330). -/
def ptmResponse (c : Chip) (master : Nat) : Chip :=
  let c := modDisc c fun d => { d with ptmOut := false }
  match ptmPort c with
  | some p => if ptmUsable c p && !kclkFirc c then validSample c (ptmOffset c master) else invalidSample c
  | none => c

/-- PTM_RESPONSE (R330). -/
def execPtmResponse (master t : Nat) (s : State) : Host.Outcome State Fault Refusal :=
  let c := s.toChip
  event "PTM_RESPONSE" (c.clk.disc.ptmOut && nowAt c t ≤ c.clk.disc.ptmSent + 100000) (ptmResponse (advance c t) (master % 2 ^ 64)) s

/-- PTM_RESPONSE_TIMEOUT (R330). -/
def execPtmResponseTimeout (t : Nat) (s : State) : Host.Outcome State Fault Refusal :=
  let c := s.toChip
  event "PTM_RESPONSE_TIMEOUT" (c.clk.disc.ptmOut && c.clk.disc.ptmSent + 100000 < nowAt c t)
    (invalidSample (modDisc (advance c t) fun d => { d with ptmOut := false })) s

/-- A rising edge of CARILLON_PPS, judged in runs (R331). -/
def ppsEdge (c : Chip) : Chip :=
  let d := c.clk.disc
  let t := now c
  let taken := modDisc c fun x => { x with ppsLast := t, ppsOpen := true, ppsNext := (x.ppsNext + 1000000000) % 2 ^ 64 }
  if !d.ppsSet then invalidSample c
  else if d.ppsOpen && t < d.ppsLast + 900000000 then invalidSample c
  else if d.ppsOpen && t ≤ d.ppsLast + 1100000000 then validSample taken ((d.ppsNext : Int) - (t : Int))
  else taken

/-- PPS_EDGE (R331): edges are judged while Time source reads PPS and KCLK is not on FIRC (R335). -/
def execPpsEdge (t : Nat) (s : State) : Host.Outcome State Fault Refusal :=
  let c := advance s.toChip t
  event "PPS_EDGE" s.boot.fircOn (if timeSource c = 3 && !kclkFirc c && !followsPartner c then ppsEdge c else c) s

/-- A write of Time step (R332). -/
def timeStep (v : Nat) (c : Chip) : Nat × Chip :=
  if !firstRough c then (7, c)
  else (0, modDisc (modClk c fun k => { k with carillon := v % 2 ^ 64 }) fun d => { d with ppsOpen := false })

/-- TIME_STEP (R332). -/
def execTimeStep (src : Src) (tag v : Nat) (s : State) : Host.Outcome State Fault Refusal :=
  let rq := writeReq tag 0x1300 6 (leBytes 8 v)
  event "TIME_STEP" (presents s.toChip src rq) (serve (timeStep v) src rq s.toChip) s

/-- A write of Align (R332). -/
def alignWrite (v : Nat) (c : Chip) : Nat × Chip :=
  if v != 1 then (5, c) else if !firstRough c then (7, c) else (0, modDisc c fun d => { d with align := true })

/-- ALIGN (R332). -/
def execAlign (src : Src) (tag v : Nat) (s : State) : Host.Outcome State Fault Refusal :=
  let rq := writeReq tag 0x1300 0xF (leBytes 1 v)
  event "ALIGN" (presents s.toChip src rq) (serve (alignWrite (v % 256)) src rq s.toChip) s

/-- A write of Time source (R329, R333). -/
def timeSourceWrite (v : Nat) (c : Chip) : Nat × Chip :=
  if v > 3 then (5, c)
  else
    let c := setObj c 0x1300 2 v
    let c := modDisc c fun d => { d with ppsOpen := false }
    let h := holdStatus c
    if v = 0 then (0, if kclkFirc c then c else modDisc c fun d => { d with state := 0, good := 0, holdAge := h.1, holdBound := h.2 })
    else if c.clk.disc.state = 0 then (0, modDisc c fun d => { d with state := 1, good := 0, since := now c })
    else (0, c)

/-- Holdover entry time passes without a valid sample (R333). -/
def holdoverExpiry (c : Chip) : Chip :=
  if c.clk.disc.state = 1 then modDisc c fun d => { d with state := 0, good := 0 } else enterHoldover c

/-- HOLDOVER_ENTRY_EXPIRY (R333). -/
def execHoldoverEntryExpiry (t : Nat) (s : State) : Host.Outcome State Fault Refusal :=
  let c := s.toChip
  let d := c.clk.disc
  event "HOLDOVER_ENTRY_EXPIRY" ((d.state == 1 || d.state == 2) && d.since + obj c 0x1300 9 ≤ nowAt c t) (holdoverExpiry (advance c t)) s

/-! PLLs (R337, R338). -/

/-- Does a PLL configuration leave its ranges (R337, R348)? -/
def pllConfigBad (v : Nat) : Bool :=
  let pre := fld v 1 1
  let fb := fld v 2 2
  let n := fb * 2 ^ 32 + fld v 4 4
  fld v 0 1 > 2 || pre < 1 || pre > 8 || fb < 20 || fb > 200 || pllRef v < 10000000 * pre || pllRef v > 100000000 * pre
    || pllRef v * n < 2800000000 * pre * 2 ^ 32 || pllRef v * n > 4200000000 * pre * 2 ^ 32

/-- A write of PLL configuration (R337). -/
def pllConfigWrite (k v : Nat) (c : Chip) : Nat × Chip :=
  if pllConfigBad v then (5, c) else if pllState c k != 0 then (7, c) else (0, setObj c (0x1310 + k) 1 (v % 2 ^ 64))

/-- START (R337); a PLL that is not OFF answers STATE (DEDUCED). -/
def pllStart (k : Nat) (c : Chip) : Nat × Chip :=
  if pllState c k != 0 then (7, c) else (0, modClk (setPll c k 1) fun x => { x with pllAt := x.pllAt.set k x.carillon })

/-- Does a domain run on PLL `k` as its normal source? TXCLK does while its PLL runs (DEDUCED). -/
def pllInUse (c : Chip) (k : Nat) : Bool :=
  (upFrom 1 25).any fun d => domainPll d == some k && (if hasMux d then !onFallback c d else pllState c k == 2)

/-- STOP (R337): OFF, and the PLL's monitor is disarmed. -/
def pllStop (k : Nat) (c : Chip) : Nat × Chip :=
  if pllInUse c k then (7, c) else (0, modClk (setPll c k 0) fun x => { x with armed := setBit x.armed (3 + k) false })

/-- PLL control, object 0x1310+k.02 (R348). -/
def pllControl (k v : Nat) (c : Chip) : Nat × Chip :=
  if v = 1 then pllStart k c else if v = 2 then pllStop k c else (5, c)

/-- PLL_START (R337). -/
def execPllStart (src : Src) (tag k : Nat) (s : State) : Host.Outcome State Fault Refusal :=
  let rq := writeReq tag (0x1310 + k) 2 (leBytes 1 1)
  event "PLL_START" (k < 4 && presents s.toChip src rq) (serve (pllStart k) src rq s.toChip) s

/-- PLL_STOP (R337). -/
def execPllStop (src : Src) (tag k : Nat) (s : State) : Host.Outcome State Fault Refusal :=
  let rq := writeReq tag (0x1310 + k) 2 (leBytes 1 2)
  event "PLL_STOP" (k < 4 && presents s.toChip src rq) (serve (pllStop k) src rq s.toChip) s

/-- PLL_LOCK_TIMEOUT (R337). -/
def execPllLockTimeout (k t : Nat) (s : State) : Host.Outcome State Fault Refusal :=
  let c := s.toChip
  event "PLL_LOCK_TIMEOUT" (k < 4 && pllState c k == 1 && c.clk.pllAt.getD k 0 + 1000000 ≤ nowAt c t) (setPll (advance c t) k 3) s

/-! Monitors and forced switches (R342, R343, R345). -/

/-- A window's count against the count expected: (expected, its divisor). PLL monitors count the VCO divided by 16 (DESIGN CHOICE). -/
def monitorExpect (c : Chip) (m : Nat) : Nat × Nat :=
  if m = 0 then (4000, 1) else if m = 1 then (1000, 1) else if m = 2 then (250, 1)
  else
    let v := obj c (0x1310 + (m - 3)) 1
    (pllRef v * (fld v 2 2 * 2 ^ 32 + fld v 4 4), fld v 1 1 * 2 ^ 32 * 1600000)

/-- Does a count depart from the expected one by more than 5 % (R342)? -/
def monitorBad (c : Chip) (m count : Nat) : Bool :=
  let e := monitorExpect c m
  e.1 < 20 * (if count * e.2 < e.1 then e.1 - count * e.2 else count * e.2 - e.1)

/-- The held response of a Domain source write is posted (R344). -/
def answerHeld (c : Chip) (d : Nat) : Chip :=
  match c.clk.held.find? fun x => x.1 == d with
  | some x => post (modClk c fun k => { k with held := k.held.filter fun y => y.1 != d }) x.2.1 x.2.2 0 0 []
  | none => c

/-- A forced switch of one domain (R343, R345, R347): it ends on its fallback with FORCED; a software switch in progress ends with it. -/
def forceDomain (c : Chip) (d : Nat) : Chip :=
  let moved := !onFallback c d
  let hung := muxOf c d == 1
  let c := if moved then stat c 0x7014 2 1 else c
  let c := if moved || hung then setMux c d true 2 else c
  let c := if hung then raiseEv (stat c 0x7014 6 1) 9 d 1 0 else c
  let c := answerHeld c d
  if d = 22 && moved then enterHoldover c else c

/-- Both links go down when TXCLK stops (R343). -/
def dropLinks (c : Chip) : Chip :=
  let go := fun (c : Chip) (p : HPort) => if linkIsUp c p then portReset c p 0 hotConfig else c
  go (go c .a) .b

/-- A PLL that is not OFF reads FAILED. -/
def failPll (c : Chip) (k : Nat) : Chip := if pllState c k = 0 then c else setPll c k 3

/-- A domain on a source that has failed for good stops until unit reset, with a Fatal of source 7 (R343, R350). -/
def stopDomain (c : Chip) (d : Nat) : Chip :=
  if bit c.clk.stopped (d - 1) then c else raiseEv (modClk c fun k => { k with stopped := setBit k.stopped (d - 1) true }) 7 d 4 0

/-- FIRC has failed (R343): SBCLK goes to XREF0 ÷ 8, or stops; domains on FIRC stop. -/
def fircFails (c : Chip) : Chip :=
  let c := modClk c fun k => { k with firc := false }
  let c := if onFallback c 21 then c else if c.clk.xref0 then forceDomain c 21 else stopDomain c 21
  ((upFrom 1 25).filter fun d => d != 21 && hasMux d && onFallback c d).foldl stopDomain c

/-- The forced switches of a failed monitor and their other effects (R343). A source whose monitor failed is READY again only after a new
ready count (DESIGN CHOICE). -/
def monitorEffect (c : Chip) (m : Nat) : Chip :=
  if m = 0 then fircFails c
  else if m = 1 then
    let c := modClk c fun k => { k with xref0 := false }
    let c := [1, 2, 3, 4, 9, 10, 11, 20, 24, 25].foldl forceDomain (failPll (failPll (failPll c 0) 1) 2)
    dropLinks (if onFallback c 21 then stopDomain c 21 else c)
  else if m = 2 then forceDomain (failPll (modClk c fun k => { k with xref1 := false }) 3) 22
  else if m = 3 then [1, 2, 20, 24, 25].foldl forceDomain (failPll c 0)
  else if m = 4 then dropLinks ([3, 4].foldl forceDomain (failPll c 1))
  else if m = 5 then forceDomain (failPll c 2) 11
  else forceDomain (failPll c 3) 22

/-- A failed window (R342): the monitor reads FAILED and its source is raised once; a failing window of a monitor that reads FAILED already
only restarts the count of passes (DEDUCED). -/
def monitorFail (c : Chip) (m count : Nat) : Chip :=
  let again := bit c.clk.monFail m
  let c := modClk c fun k => { k with
    monFail := setBit k.monFail m true, monPass := k.monPass.set m 0,
    lastFail := pack [(m, 1), (0, 3), (count, 4), (k.carillon, 8)] }
  if again then c else monitorEffect (raiseEv (stat c 0x7014 1 1) m 0 3 0) m

/-- A passed window: after 16 in a row the monitor no longer reads FAILED (R342). -/
def monitorPass (c : Chip) (m : Nat) : Chip :=
  if !bit c.clk.monFail m then c
  else
    let n := c.clk.monPass.getD m 0 + 1
    modClk c fun k => { k with monPass := k.monPass.set m (if n = 16 then 0 else n), monFail := if n = 16 then setBit k.monFail m false else k.monFail }

/-- MONITOR_WINDOW_END (R342, R343). FIRC is counted against SIRC, the others against FIRC, or XREF0 after FIRC has failed. -/
def execMonitorWindowEnd (m count : Nat) (s : State) : Host.Outcome State Fault Refusal :=
  let c := s.toChip
  event "MONITOR_WINDOW_END" (m < 7 && bit c.clk.armed m && (m == 0 || c.clk.firc || c.clk.xref0))
    (react (if monitorBad c m count then monitorFail c m count else monitorPass c m)) s

/-! Switching domains (R344, R345). -/

/-- Judge a Domain source write: RANGE, then STATE (R344, R348). A second write while the multiplexer switches is BUSY (DEDUCED). -/
def domainSourceStatus (d v : Nat) (c : Chip) : Nat :=
  if !hasMux d || v > 1 then 5
  else if v = 0 && !normalReady c d then 7
  else if muxOf c d = 1 then 6
  else 0

/-- A Domain source write (R344): with the source already selected it is done; otherwise the multiplexer switches, and the response waits for
it, but for MCLK. -/
def domainSourceWrite (src : Src) (rq : Req) (d v : Nat) (c : Chip) : Chip :=
  let st := if check c src rq != 0 then check c src rq else domainSourceStatus d v c
  if st != 0 then respond c src rq st 0 []
  else if onFallback c d == (v == 1) then respond (setMux c d (v == 1) 0) src rq 0 0 []
  else
    let c := modClk c fun k => { k with mux := k.mux.set (d - 1) 1, want := k.want.set (d - 1) v }
    if d = 20 then respond c src rq 0 0 [] else modClk (grantTurn c src) fun k => { k with held := k.held ++ [(d, src, rq)] }

/-- DOMAIN_SOURCE_WRITE (R344). -/
def execDomainSourceWrite (src : Src) (tag d v : Nat) (s : State) : Host.Outcome State Fault Refusal :=
  let rq := writeReq tag (0x1320 + d) 1 (leBytes 1 v)
  event "DOMAIN_SOURCE_WRITE" (1 ≤ d && d ≤ 25 && presents s.toChip src rq) (domainSourceWrite src rq d (v % 256) s.toChip) s

/-- A multiplexer finishes (R344): KCLK back on PLL-K after a forced switch takes the discipline from HOLDOVER to ACQUIRING (R335). -/
def muxDone (c : Chip) (d : Nat) : Chip :=
  let v := c.clk.want.getD (d - 1) 0
  let c := answerHeld (setMux c d (v == 1) 0) d
  if d = 22 && v = 0 && c.clk.disc.state = 3 then leaveHoldover c else c

/-- MUX_SWITCH_DONE (R344): both the old and the new clock run; with a stopped old clock the switch hangs (R345). -/
def execMuxSwitchDone (d : Nat) (s : State) : Host.Outcome State Fault Refusal :=
  let c := s.toChip
  event "MUX_SWITCH_DONE" (1 ≤ d && d ≤ 25 && muxOf c d == 1 && normalReady c d && fallbackRuns c d) (muxDone c d) s

/-! The frequency meter (R346). -/

/-- Is a code one of the meter's clocks (R346)? -/
def meterCode (x : Nat) : Bool := x ≤ 7 || (0x11 ≤ x && x ≤ 0x29)

/-- A meter request (R346). -/
def meterRequest (v : Nat) (c : Chip) : Nat × Chip :=
  let w := fld v 4 4
  if !meterCode (fld v 0 1) || !meterCode (fld v 1 1) || w < 1 || w > 2 ^ 24 then (5, c)
  else if c.clk.meter = 1 then (6, c)
  else (0, modClk c fun k => { k with meter := 1, meterW := w, meterM := fld v 0 1, meterR := fld v 1 1, meterCount := 0 })

/-- METER_REQUEST (R346). -/
def execMeterRequest (src : Src) (tag : Nat) (payload : Bytes) (s : State) : Host.Outcome State Fault Refusal :=
  let rq := writeReq tag 0x1350 1 payload
  event "METER_REQUEST" (presents s.toChip src rq) (serve (meterRequest (leNat payload)) src rq s.toChip) s

/-- Does a clock of the meter run? FIRC from its start, a VCO unless its PLL is OFF, a domain while it is clocked, TXCLK with PLL-L (R339); of SIRC
and the external references the model knows no stop. -/
def meterRuns (c : Chip) (x : Nat) : Bool :=
  if x = 0 then c.boot.fircOn else if x < 4 then true else if x < 8 then pllState c (x - 4) != 0
  else domainRuns c (x - 0x10) && (!(x == 0x17 || x == 0x18) || pllState c 1 == 2)

/-- The window of the meter ends: a stopped measured clock counts 0 (R346). -/
def meterEnd (count : Nat) (c : Chip) : Chip :=
  modClk c fun k => { k with meter := 2, meterCount := if meterRuns c k.meterM then count % 2 ^ 32 else 0 }

/-- METER_WINDOW_END (R346): the reference runs. -/
def execMeterWindowEnd (count : Nat) (s : State) : Host.Outcome State Fault Refusal :=
  event "METER_WINDOW_END" (s.clk.meter == 1 && meterRuns s.toChip s.clk.meterR) (meterEnd count s.toChip) s

/-- METER_STALL (R346). -/
def execMeterStall (s : State) : Host.Outcome State Fault Refusal :=
  event "METER_STALL" (s.clk.meter == 1) (modClk s.toChip fun k => { k with meter := 3 }) s

/-! Gating (R340, R341). -/

/-- Is any set descriptor live or any stroke issued? -/
def transfersBusy (c : Chip) : Bool := !c.xf.sds.isEmpty || c.xf.chans.any fun x => !x.2.strokes.isEmpty

/-- Does any launch or Bootstrap command lack a final status? -/
def launchesBusy (c : Chip) : Bool := c.pat.launches.any fun x => x.2.q != lapQ && x.2.final == noFinal

/-- Is a block busy (R341)? The scrub keeps the Transfer Engine busy (DEDUCED from R394). -/
def blockBusy (c : Chip) (b : Nat) : Bool :=
  if b = 0 then c.bel.queues.any fun x => x.2.state != 0 && x.2.state != 6
  else if b = 1 || (10 ≤ b && b ≤ 17) then launchesBusy c
  else if b = 2 || b = 5 then transfersBusy c
  else if b = 4 then transfersBusy c || c.sec.ten.state == 4
  else if b = 3 then c.sp.spaces.any fun x => x.1 != 0 && x.2.state != 0
  else if b = 6 then c.lap.tables.any fun x => x.2.state != 0
  else if b = 7 then c.peer.wins.any fun x => wKind x.2.active != 0
  else if b = 8 then c.coh.wins.any fun x => x.2 != 0
  else if b = 9 then c.sec.spdm.streams != 0 || c.sec.ten.xts.isSome
  else if b = 18 then c.dbl.state == 1 || c.dbl.state == 2 || c.dbl.state == 4
  else if b = 19 then obj c 0x5100 8 == 1
  else false

/-- Block busy, object 0x1100.04. -/
def blocksBusy (c : Chip) : Nat := (upFrom 0 20).foldl (fun m b => setBit m b (blockBusy c b)) 0

/-- A write of Clock enables (R340, R341): STATE when it would clear the bit of a busy block. A gated Peer Gateway
ends the strokes on route PEER (R267), a gated bridge port is DOWN. -/
def clockEnables (v : Nat) (c : Chip) : Nat × Chip :=
  let w := v % 2 ^ 20
  if (upFrom 0 20).any fun b => enabled c b && !bit w b && blockBusy c b then (7, c)
  else
    let c := if enabled c 7 && !bit w 7 then peerHalt c fun _ => true else c
    let c := if enabled c 18 && !bit w 18 then { c with dbl := { c.dbl with bridge := 0 } } else c
    (0, modClk c fun k => { k with enables := w })

/-- CLOCK_ENABLE_SET (R340). -/
def execClockEnableSet (src : Src) (tag v : Nat) (s : State) : Host.Outcome State Fault Refusal :=
  let rq := writeReq tag 0x1100 3 (leBytes 4 v)
  event "CLOCK_ENABLE_SET" (presents s.toChip src rq) (react (serve (clockEnables v) src rq s.toChip)) s

/-- CLOCK_ENABLE_CLEAR (R341). -/
def execClockEnableClear (src : Src) (tag v : Nat) (s : State) : Host.Outcome State Fault Refusal :=
  let rq := writeReq tag 0x1100 3 (leBytes 4 v)
  event "CLOCK_ENABLE_CLEAR" (presents s.toChip src rq) (react (serve (clockEnables v) src rq s.toChip)) s

end Sys2Proof.Machine
end

