-- ==== Sys2Proof/Machine/Security.lean ====
section
/-! DEFINITION. The root-of-trust interface, the firmware banks, verification and activation, and measurement (R372 to R387), with the SPDM
responses that need the root of trust. -/

namespace Sys2Proof.Machine

/-- Change the firmware's state. -/
def modFw (c : Chip) (f : FwSt → FwSt) : Chip := { c with sec := { c.sec with fw := f c.sec.fw } }

/-- Change the measurement state. -/
def modMeas (c : Chip) (f : MeasSt → MeasSt) : Chip := { c with sec := { c.sec with meas := f c.sec.meas } }

/-! The root-of-trust interface (R375 to R378). -/

/-- Bytes 0 to 63 and the digest list, which the signature covers (R372). -/
def signedPart (b : Bytes) : Bytes := b.take 64 ++ (b.drop 160).take (48 * bunBlocks b)

/-- The bundle under verification: the active bank while the unit boots, the staged bank otherwise (R374). -/
def verifyBundle (c : Chip) : Bytes := if c.mode == .boot then c.sec.fw.running else c.sec.fw.staged

/-- 48 bytes that the spec leaves open: the digest of an SPDM transcript. -/
def freeDigest (c : Chip) : Bytes × Chip :=
  (upFrom 0 6).foldl (fun r _ => let x := takeFree r.2 64; (r.1 ++ leBytes 8 x.1, x.2)) (([] : Bytes), c)

/-- Send a request (R375, R376): opcode, SELECT and payload by what it is for. -/
def rotSend (c : Chip) (by_ : RotFor) : Chip :=
  let tag := (c.sec.rotTag + 1) % 65536
  let c := { c with sec := { c.sec with rot := some ⟨tag, by_, now c⟩, rotTag := tag } }
  match by_ with
  | .serial => emit c (.rot 1 0 tag [])
  | .keyDigest => emit c (.rot 1 1 tag [])
  | .cert _ off _ => emit c (.rot 1 2 tag (leBytes 4 off))
  | .verifySig => emit c (.rot 2 0 tag (sha384 (signedPart (verifyBundle c)) ++ ((verifyBundle c).drop 64).take 96))
  | .sign _ _ _ _ => let d := freeDigest c; emit d.2 (.rot 3 0 tag d.1)
  | .counterRead => emit c (.rot 4 0 tag [])
  | .tenancyRead => emit c (.rot 4 1 tag [])
  | .counterRaise => emit c (.rot 5 0 tag (leBytes 4 c.sec.fw.runSvn))
  | .tenancyRaise => emit c (.rot 5 1 tag (leBytes 4 (c.sec.ten.epoch + 1)))
  | .keySeed => emit c (.rot 6 0 tag [])
  | .random _ _ _ => emit c (.rot 7 32 tag [])

/-- Ask for a request: it goes out when none is outstanding, and waits in order otherwise (R375). -/
def rotAsk (c : Chip) (by_ : RotFor) : Chip :=
  if c.sec.rot.isNone then rotSend c by_ else { c with sec := { c.sec with rotQueue := c.sec.rotQueue ++ [by_] } }

/-- The interface is free: the next waiting request goes out. -/
def rotNext (c : Chip) : Chip :=
  match c.sec.rot, c.sec.rotQueue with
  | none, x :: r => rotSend { c with sec := { c.sec with rotQueue := r } } x
  | _, _ => c

/-- Is a request of a kind outstanding or waiting? -/
def rotPending (c : Chip) (ok : RotFor → Bool) : Bool :=
  ((c.sec.rot.map fun r => ok r.by_).getD false) || c.sec.rotQueue.any ok

/-! SPDM (R384): responses. -/

/-- Send an SPDM response; the codes are those of the SPDM standard (PRESUMED). -/
def spdmSend (c : Chip) (t : Transport) (code : Nat) (data : Bytes) : Chip := emit c (.spdm t code data)

/-- An SPDM ERROR with an error code. -/
def spdmError (c : Chip) (t : Transport) (e : Nat) : Chip := spdmSend c t 0x7F [BitVec.ofNat 8 e]

/-- The index of a transport in object 0x6010.03. -/
def transNo (t : Transport) : Nat := match t with | .doe .a => 0 | .doe .b => 1 | .sideband => 2

/-- SHA-384 over the records of every SERVING table in ascending order, zeros when none is (block 5, R385). -/
def tablesDigest (c : Chip) : Bytes :=
  let ts := c.lap.tables.filter fun x => x.2.state == 2
  if ts.isEmpty then zeros 48 else sha384 (ts.flatMap fun x => leBytes 1 x.1 ++ leBytes 4 x.2.epoch ++ padTo 48 x.2.lineage)

/-- The digest of a bundle: bytes 0 to LENGTH − 1 (R372). -/
def bundleDigest (b : Bytes) : Bytes := sha384 (b.take (bunLength b))

/-- The value of a measurement block (R385); under the recovery loader blocks 2 to 6 read zeros (R387). -/
def blockValue (c : Chip) (i : Nat) : Bytes :=
  let f := c.sec.fw
  let m := c.sec.meas
  let bare := f.loader && 2 ≤ i && i ≤ 6
  if i = 1 then
    bundleDigest f.running ++ leBytes 4 f.runVersion ++ leBytes 4 (if f.state = 3 then 1 else if f.state = 5 then 2 else 0)
      ++ (if stagedShown c then bundleDigest f.staged else zeros 48)
  else if i = 6 then
    if bare then zeros 56
    else leBytes 8 (pack [(c.sec.ten.epoch, 4), (c.sec.ten.state, 1)]) ++ leBytes 48 (obj c 0x6020 3)
  else if bare then zeros 48
  else if i = 2 then padTo 48 m.storeDigest
  else if i = 3 then padTo 48 m.block3
  else if i = 4 then padTo 48 m.block4
  else if i = 5 then tablesDigest c
  else if i = 7 then leBytes 48 Config.loaderDigest.toNat
  else if i = 8 then padTo 48 m.chain
  else []

/-- The measurement blocks that a GET_MEASUREMENTS names: one, or all with 0xFF (PRESUMED: the SPDM standard). -/
def measured (c : Chip) (arg : Nat) : Bytes :=
  if arg = 0xFF then (upFrom 1 8).flatMap (blockValue c) else blockValue c arg

/-- A signed answer: the nonce, the measurements of a MEASUREMENTS response, the signature. -/
def signedAnswer (c : Chip) (t : Transport) (code arg : Nat) (nonce sig : Bytes) : Chip :=
  let c := if code = 0x64 then
      { c with sec := { c.sec with spdm := { c.sec.spdm with
        handshakes := c.sec.spdm.handshakes.set (transNo t) (c.sec.spdm.handshakes.getD (transNo t) 0 + 1) } } }
    else c
  spdmSend c t code ((if code = 0x60 then measured c arg else []) ++ nonce ++ sig)

/-! Answers of the root of trust. -/

/-- A request failed for good: the operation ends as its rule states (R378); REFUSED does not count on source 187. -/
def rotFail (c : Chip) (by_ : RotFor) (refused : Bool) : Chip :=
  let c := if refused then c else raiseEv c 187 0 2 0
  match by_ with
  | .verifySig => modFw c fun f => { f with sigOk := if refused then 2 else 3 }
  | .counterRead => modFw c fun f => { f with sigOk := if refused || f.sigOk = 2 || (f.state != 2 && c.mode != .boot) then f.sigOk else 3 }
  | .counterRaise => modFw c fun f => { f with raise := !refused, raiseAt := now c + 100000000 }
  | .tenancyRaise | .keySeed => modTen c fun t => { t with attaching := false }
  | .cert t _ _ | .random t _ _ | .sign t _ _ _ => spdmError c t 5
  | _ => c

/-- The tenancy's state changes: block 6 follows (R385). -/
def setTenancy (c : Chip) (st : Nat) : Chip := blockChanged (modTen c fun t => { t with state := st }) 6

/-- The seed has arrived: the key pair is made (the spec does not say how it is derived from the seed: 64 free bytes, log 97), bits 4 and 9 of Clock enables are set, and the tenancy is OCCUPIED (R391). -/
def tenantKeys (c : Chip) : Chip :=
  let k := takeWords c 8
  let c := modTen k.2 fun t => { t with xts := some k.1, attaching := false }
  let c := modClk c fun k => { k with enables := setBit (setBit k.enables 4 true) 9 true }
  logAdd (setTenancy c 2) 4 6 c.sec.ten.epoch []

/-- A response with status OK: what the request was for goes on (R376). -/
def rotOk (c : Chip) (by_ : RotFor) (bs : Bytes) : Chip :=
  match by_ with
  | .serial => { c with boot := { c.boot with serial := bfld bs 0 16, serialFetched := true } }
  | .keyDigest => { c with boot := { c.boot with keyDigest := bfld bs 0 48, keyFetched := true } }
  | .verifySig => modFw c fun f => { f with sigOk := if bfld bs 0 1 = 0 then 1 else 2 }
  | .counterRead => modFw c fun f => { f with counter := bfld bs 0 4 }
  | .tenancyRead => modTen c fun t => { t with epoch := bfld bs 0 4 }
  | .counterRaise => modFw c fun f => { f with counter := bfld bs 0 4, raise := false }
  | .tenancyRaise => rotAsk (modTen c fun t => { t with epoch := bfld bs 0 4 }) .keySeed
  | .keySeed => tenantKeys c
  | .cert t _ len => spdmSend c t 2 (bs.take len)
  | .random t code arg => rotAsk c (.sign t code arg bs)
  | .sign t code arg nonce => signedAnswer c t code arg nonce bs

/-- A response frame (R375): another TAG is discarded; a status other than OK carries no payload. -/
def rotResponse (tag status : Nat) (payload : Bytes) (c : Chip) : Chip :=
  match c.sec.rot with
  | some r =>
    if r.tag != tag then c
    else
      let c := { c with sec := { c.sec with rot := none } }
      rotNext (if status = 0 then rotOk c r.by_ payload else rotFail c r.by_ (status == 2))
  | none => c

/-- ROT_RESPONSE (R375). -/
def execRotResponse (tag status : Nat) (payload : Bytes) (s : State) : Host.Outcome State Fault Refusal :=
  event "ROT_RESPONSE" (s.boot.mclkRuns && status < 4 && payload.length ≤ 4096 && (status == 0 || payload.isEmpty))
    (rotResponse tag status payload s.toChip) s

/-- ROT_TIMEOUT (R378). -/
def execRotTimeout (t : Nat) (s : State) : Host.Outcome State Fault Refusal :=
  let c := advance s.toChip t
  event "ROT_TIMEOUT" ((s.sec.rot.map fun r => decide (r.sent + 100000000 ≤ nowAt s.toChip t)).getD false)
    (match s.sec.rot with
      | some r => rotNext (rotFail { c with sec := { c.sec with rot := none } } r.by_ false)
      | none => c) s

/-! Staging (R379). -/

/-- Is a tenant end running: ENDING or SCRUBBING? -/
def tenantEnding (c : Chip) : Bool := c.sec.ten.state == 3 || c.sec.ten.state == 4

/-- Firmware state changes; block 1 follows a change into or out of STAGED (R385). -/
def setFwState (c : Chip) (st reason : Nat) : Chip :=
  let was := c.sec.fw.state
  let c := modFw c fun f => { f with state := st, reason := reason }
  if (was == 3) != (st == 3) then blockChanged c 1 else c

/-- Does the staged bank take a write: no write, verification or activation runs, and no tenant end (R379, R395)? The status otherwise. -/
def stageStatus (c : Chip) : Nat :=
  if tenantEnding c then 7
  else let s := c.sec.fw.state; if s = 1 || s = 2 || s = 5 then 6 else 0

/-- A Stage request (R379, R397): the unit reads LENGTH bytes over the port. -/
def stageRequest (v : Nat) (c : Chip) : Nat × Chip :=
  let a := fld v 0 8
  let n := fld v 8 4
  let p := fld v 12 1
  if a % 4096 != 0 || n = 0 || n > 6291456 || p > 1 then (5, c)
  else if stageStatus c != 0 then (stageStatus c, c)
  else
    let c := setFwState c 1 0
    let c := modFw c fun f => { f with staged := [], stagePort := portOf (p == 1), stageLen := n }
    (0, if canIssue c (portOf (p == 1)) then emit c (.hostRead (portOf (p == 1)) a n) else c)

/-- STAGE_REQUEST (R379). -/
def execStageRequest (src : Src) (tag : Nat) (payload : Bytes) (s : State) : Host.Outcome State Fault Refusal :=
  let rq := writeReq tag 0x6000 2 payload
  event "STAGE_REQUEST" (presents s.toChip src rq) (serve (stageRequest (leNat payload)) src rq s.toChip) s

/-- A Stage chunk (R379): written into the bank at the Stage offset when its LAST segment arrives. -/
def stageChunk (bs : Bytes) (c : Chip) : Nat × Chip :=
  if stageStatus c != 0 then (stageStatus c, c)
  else
    let c := setFwState c 1 0
    (0, modFw c fun f => { f with staged := (overlay f.staged (obj c 0x6000 4) bs).take 6291456, stageLen := 0 })

/-- The bytes have been written: the bank is no longer WRITING. A host read that fails leaves FAILED, whose REASON the spec does not give. -/
def stageDone (r : RdResult) (c : Chip) : Chip :=
  let c := if c.sec.fw.stageLen = 0 then c else logRead c c.sec.fw.stagePort r
  match r with
  | .data bs => setFwState (if c.sec.fw.stageLen = 0 then c else modFw c fun f => { f with staged := bs }) 0 0
  | _ => let x := takeFree c 8; setFwState x.2 4 x.1

/-- STAGE_WRITE_COMPLETE (R379). -/
def execStageWriteComplete (r : RdResult) (s : State) : Host.Outcome State Fault Refusal :=
  event "STAGE_WRITE_COMPLETE" (s.sec.fw.state == 1 && rdFits r s.sec.fw.stageLen) (stageDone r s.toChip) s

/-! Verification (R374). -/

/-- Is a section table well formed: known kinds, sections inside the bundle and within their limits? -/
def sectionsOk (b : Bytes) (i : Nat) : Nat → Bool
  | 0 => true
  | n + 1 =>
    let o := bunBody b + 16 * i
    let k := bfld b o 4
    k = 0 || ((k = 1 || k = 2) && bunBody b + bfld b (o + 4) 4 + bfld b (o + 8) 4 ≤ bunLength b
      && bfld b (o + 8) 4 ≤ (if k = 1 then 0x400000 else 0x200000) && bfld b (o + 12) 4 = 0 && sectionsOk b (i + 1) n)

/-- REASON 1 (R372, R374): MAGIC, LENGTH, BLOCKS, reserved bytes and the section table. -/
def bundleFormed (b : Bytes) : Bool :=
  bfld b 0 4 == 0x4C444E42 && bunLength b ≤ 6291456 && 1 ≤ bunBlocks b && bunBlocks b ≤ 1517 && (b.drop 21).take 43 == zeros 43
    && bunBody b < bunLength b && bunLength b ≤ bunBody b + 4096 * bunBlocks b && bunLength b ≤ b.length && sectionsOk b 0 256

/-- REASON 4: every body block matches its digest. -/
def blocksOk (b : Bytes) : Bool := (upFrom 0 (bunBlocks b)).all (blockOk b)

/-- The first check of R374 that fails, 0 when every check passes. A root of trust that did not answer is check 7. -/
def verifyReason (c : Chip) (b : Bytes) (flashOk : Bool) : Nat :=
  let f := c.sec.fw
  if !bundleFormed b then 1 else if f.sigOk = 2 then 2 else if bfld b 8 4 < f.counter then 3 else if !blocksOk b then 4
  else if bfld b 20 1 > 0x11 then 5 else if !flashOk then 6 else if f.sigOk != 1 then 7 else 0

/-- VERIFY (R379): a write, verification or activation that runs answers STATE (DEDUCED). The signature check and the counter are requested. -/
def firmwareVerify (c : Chip) : Nat × Chip :=
  let s := c.sec.fw.state
  if s = 1 || s = 2 || s = 5 then (7, c)
  else (0, rotAsk (rotAsk (modFw (setFwState c 2 0) fun f => { f with sigOk := 0 }) .verifySig) .counterRead)

/-- FIRMWARE_VERIFY (R379). -/
def execFirmwareVerify (src : Src) (tag : Nat) (s : State) : Host.Outcome State Fault Refusal :=
  let rq := writeReq tag 0x6000 5 (leBytes 1 1)
  event "FIRMWARE_VERIFY" (presents s.toChip src rq) (serve firmwareVerify src rq s.toChip) s

/-- Is a request for the signature or the firmware counter outstanding or waiting? -/
def verifyPending (c : Chip) : Bool := rotPending c fun b => b == .verifySig || b == .counterRead

/-- The checks end (R374): STAGED or FAILED. -/
def verifyComplete (flashOk : Bool) (c : Chip) : Chip :=
  let b := c.sec.fw.staged
  let r := verifyReason c b flashOk
  let c := modFw c fun f => { f with version := bfld b 4 4, svn := bfld b 8 4 }
  setFwState c (if r = 0 then 3 else 4) r

/-- VERIFY_COMPLETE (R374). -/
def execVerifyComplete (flashOk : Bool) (s : State) : Host.Outcome State Fault Refusal :=
  event "VERIFY_COMPLETE" (s.sec.fw.state == 2 && !verifyPending s.toChip) (verifyComplete flashOk s.toChip) s

/-! Activation (R380 to R382). -/

/-- ACTIVATE (R380, R395). In DOUBLET the other unit's state is a fact of that unit, which the model holds as a free value. -/
def firmwareActivate (c : Chip) : Nat × Chip :=
  if c.sec.fw.state != 3 || c.mode == .boot || tenantEnding c then (7, c)
  else if c.mode == .doublet then
    let x := takeFree c 1
    if c.unit1 || x.1 = 0 then (7, x.2) else (0, emit (blockChanged (setFwState x.2 5 0) 1) (.bridge 8 []))
  else (0, blockChanged (setFwState c 5 0) 1)

/-- FIRMWARE_ACTIVATE (R380). -/
def execFirmwareActivate (src : Src) (tag : Nat) (s : State) : Host.Outcome State Fault Refusal :=
  let rq := writeReq tag 0x6000 5 (leBytes 1 2)
  event "FIRMWARE_ACTIVATE" (presents s.toChip src rq) (serve firmwareActivate src rq s.toChip) s

/-- DISCARD (R379). -/
def firmwareDiscard (c : Chip) : Nat × Chip :=
  if c.sec.fw.state != 3 && c.sec.fw.state != 4 then (7, c)
  else (0, modFw (setFwState c 0 0) fun f => { f with staged := [], version := 0, svn := 0 })

/-- FIRMWARE_DISCARD (R379). -/
def execFirmwareDiscard (src : Src) (tag : Nat) (s : State) : Host.Outcome State Fault Refusal :=
  let rq := writeReq tag 0x6000 5 (leBytes 1 3)
  event "FIRMWARE_DISCARD" (presents s.toChip src rq) (serve firmwareDiscard src rq s.toChip) s

/-- Firmware control, object 0x6000.05 (R397). -/
def firmwareControl (v : Nat) (c : Chip) : Nat × Chip :=
  if v = 1 then firmwareVerify c else if v = 2 then firmwareActivate c else if v = 3 then firmwareDiscard c else (5, c)

/-- The in-memory check ends (R380): the window opens, the bank flips and SPDM sessions end (R381), or the state reads FAILED with REASON 8. -/
def activationChecked (ok : Bool) (c : Chip) : Chip :=
  if !ok then logAdd (blockChanged (raiseEv (setFwState c 4 8) 186 0 2 0) 1) 7 1 8 []
  else
    let c := modFw c fun f => { f with
      window := true, running := f.staged, staged := f.running, bank := 1 - f.bank, runVersion := f.version, runSvn := f.svn, loader := false }
    { c with sec := { c.sec with spdm := { c.sec.spdm with sessions := [0, 0, 0], handshakes := [0, 0, 0] } } }

/-- ACTIVATION_LOAD_CHECKED (R380). -/
def execActivationLoadChecked (ok : Bool) (s : State) : Host.Outcome State Fault Refusal :=
  event "ACTIVATION_LOAD_CHECKED" (s.sec.fw.state == 5 && !s.sec.fw.window) (activationChecked ok s.toChip) s

/-- The window closes (R380 to R382): the log records the activation, the counter is raised when the running SVN exceeds it, and frames
captured in the window that no command can carry are answered. -/
def windowClose (c : Chip) : Chip :=
  let c := modFw (setFwState c 0 0) fun f => { f with window := false, staged := [], version := 0, svn := 0 }
  let c := logAdd (blockChanged c 1) 1 1 c.sec.fw.runVersion (bundleDigest c.sec.fw.running)
  let c := if c.sec.fw.counter < c.sec.fw.runSvn then rotAsk (modFw c fun f => { f with raise := true, raiseAt := now c + 100000000 }) .counterRaise
    else c
  answerBad (answerBad c .a) .b

/-- ACTIVATION_WINDOW_CLOSE (R380). -/
def execActivationWindowClose (s : State) : Host.Outcome State Fault Refusal :=
  event "ACTIVATION_WINDOW_CLOSE" s.sec.fw.window (windowClose s.toChip) s

/-- COUNTER_RAISE_RETRY (R382). -/
def execCounterRaiseRetry (t : Nat) (s : State) : Host.Outcome State Fault Refusal :=
  let c := s.toChip
  event "COUNTER_RAISE_RETRY" (c.sec.fw.raise && c.sec.fw.raiseAt ≤ nowAt c t && !rotPending c fun b => b == .counterRaise)
    (rotAsk (advance c t) .counterRaise) s

/-! Model measurement (R386). -/

/-- Model range `k` of object 0x6008.01: SPACE, KIND, DVA, LENGTH. -/
def modelRange (c : Chip) (k : Nat) : Nat × Nat × Nat × Nat :=
  let v := obj c 0x6008 1
  (fld v (24 * k) 2, fld v (24 * k + 2) 1, fld v (24 * k + 8) 8, fld v (24 * k + 16) 8)

/-- Does a range lie wholly in a Fixed segment of class HBM or CLUSTER? -/
def rangeHome (c : Chip) (x : Nat × Nat × Nat × Nat) : Bool :=
  (getSpace c x.1).segs.any fun s => s.2.kind == 1 && (s.2.cls == 1 || s.2.cls == 6) && s.2.start ≤ x.2.2.1
    && x.2.2.1 + x.2.2.2 ≤ s.2.start + s.2.len

/-- The first used range that fails. -/
def badRange (c : Chip) : Option Nat := (upFrom 0 32).find? fun k => let x := modelRange c k; x.2.1 != 0 && !rangeHome c x

/-- Bytes of the ranges of a KIND. -/
def kindBytes (c : Chip) (kind : Nat) : Nat :=
  (upFrom 0 32).foldl (fun n k => let x := modelRange c k; if x.2.1 = kind then n + x.2.2.2 else n) 0

/-- A model measure request (R386). -/
def measureRequest (v : Nat) (c : Chip) : Nat × Chip :=
  if v != 1 then (5, c) else if c.sec.meas.state = 1 then (6, c) else (0, modMeas c fun m => { m with state := 1 })

/-- MODEL_MEASURE_REQUEST (R386). -/
def execModelMeasureRequest (src : Src) (tag v : Nat) (s : State) : Host.Outcome State Fault Refusal :=
  let rq := writeReq tag 0x6008 2 (leBytes 1 v)
  event "MODEL_MEASURE_REQUEST" (presents s.toChip src rq) (serve (measureRequest (v % 256)) src rq s.toChip) s

/-- The digest of the contents of a KIND: zeros when it has no ranges. -/
def kindDigest (c : Chip) (kind : Nat) (bs : Bytes) : Bytes :=
  if (upFrom 0 32).any fun k => (modelRange c k).2.1 == kind then sha384 bs else zeros 48

/-- Blocks 3 and 4 change together, and the log records both (R386). -/
def measured34 (c : Chip) (program weights : Bytes) : Chip :=
  let c := modMeas c fun m => { m with
    state := 2, tick := now c, progDigest := kindDigest c 1 program, weightDigest := kindDigest c 2 weights }
  let c := modMeas c fun m => { m with block3 := block3Value c, block4 := m.weightDigest }
  let c := blockChanged (blockChanged c 3) 4
  logAdd (logAdd c 3 3 0 c.sec.meas.block3) 3 4 0 c.sec.meas.block4

/-- The effect of MODEL_MEASURE_COMPLETE. -/
def measureDone (r : MeasureResult) (c : Chip) : Chip :=
  match r with
  | .contents p w => measured34 c p w
  | .badRange k => modMeas c fun m => { m with state := 3, badRange := k, tick := now c }

/-- Can the result be one of the ranges: their contents, or the first range that fails? -/
def measureFits (r : MeasureResult) (c : Chip) : Bool :=
  match r, badRange c with
  | .contents p w, none => p.length == kindBytes c 1 && w.length == kindBytes c 2
  | .badRange k, some b => k == b
  | _, _ => false

/-- MODEL_MEASURE_COMPLETE (R386). -/
def execModelMeasureComplete (r : MeasureResult) (s : State) : Host.Outcome State Fault Refusal :=
  event "MODEL_MEASURE_COMPLETE" (s.sec.meas.state == 1 && measureFits r s.toChip) (measureDone r s.toChip) s

end Sys2Proof.Machine
end

