-- ==== Sys2Proof/Machine/Spdm.lean ====
section
/-! DEFINITION. The SPDM responder and IDE key management (R384 to R389). -/

namespace Sys2Proof.Machine

/-- Can an SPDM message arrive: over the DOE of a port whose link is up and whose configuration space answers, or over the side-band? -/
def spdmReach (c : Chip) (t : Transport) : Bool :=
  match t with
  | .doe p => linkIsUp c p && cfgAnswers c p
  | .sideband => sidebandUp c

/-- How the responder meets a message (R387): discarded in BOOT, ResponseNotReady in an activation window, answered otherwise. -/
def spdmServe (t : Transport) (f : Chip → Chip) (c : Chip) : Chip :=
  if c.mode == .boot then c
  else if c.sec.fw.window then spdmSend c t 0x7F [0x42, 15, 1]
  else f c

/-- Secured sessions of a transport. -/
def sessionsOf (c : Chip) (t : Transport) : Nat := c.sec.spdm.sessions.getD (transNo t) 0

/-- Handshakes of a transport that wait for FINISH. -/
def handshakesOf (c : Chip) (t : Transport) : Nat := c.sec.spdm.handshakes.getD (transNo t) 0

/-- Set the sessions and handshakes of a transport. -/
def setSessions (c : Chip) (t : Transport) (n h : Nat) : Chip :=
  { c with sec := { c.sec with spdm := { c.sec.spdm with
    sessions := c.sec.spdm.sessions.set (transNo t) n, handshakes := c.sec.spdm.handshakes.set (transNo t) h } } }

/-- GET_VERSION (R384): SPDM 1.2 and 1.3. -/
def execGetVersion (t : Transport) (s : State) : Host.Outcome State Fault Refusal :=
  event "GET_VERSION" (spdmReach s.toChip t) (spdmServe t (fun c => spdmSend c t 4 [0x12, 0x13]) s.toChip) s

/-- GET_CAPABILITIES (R384); the flags' encoding is the standard's and not the spec's: a free value. -/
def execGetCapabilities (t : Transport) (s : State) : Host.Outcome State Fault Refusal :=
  event "GET_CAPABILITIES" (spdmReach s.toChip t)
    (spdmServe t (fun c => let x := takeFree c 32; spdmSend x.2 t 0x61 (leBytes 4 x.1)) s.toChip) s

/-- NEGOTIATE_ALGORITHMS (R384): ECDSA P-384, SHA-384, DHE secp384r1 and AES-256-GCM; their encoding is a free value. -/
def execNegotiateAlgorithms (t : Transport) (s : State) : Host.Outcome State Fault Refusal :=
  event "NEGOTIATE_ALGORITHMS" (spdmReach s.toChip t)
    (spdmServe t (fun c => let x := takeFree c 64; spdmSend x.2 t 0x63 (leBytes 8 x.1)) s.toChip) s

/-- GET_DIGESTS (R384): the digest of the slot 0 chain, which only the root of trust holds: a free value. -/
def execGetDigests (t : Transport) (s : State) : Host.Outcome State Fault Refusal :=
  event "GET_DIGESTS" (spdmReach s.toChip t) (spdmServe t (fun c => let d := freeDigest c; spdmSend d.2 t 1 d.1) s.toChip) s

/-- GET_CERTIFICATE (R376, R384): slot 0 only; the chain comes from the root of trust. -/
def execGetCertificate (t : Transport) (slot off len : Nat) (s : State) : Host.Outcome State Fault Refusal :=
  event "GET_CERTIFICATE" (spdmReach s.toChip t)
    (spdmServe t (fun c => if slot = 0 then rotAsk c (.cert t off len) else spdmError c t 1) s.toChip) s

/-- CHALLENGE (R384): a nonce and a signature from the root of trust. -/
def execChallenge (t : Transport) (slot : Nat) (s : State) : Host.Outcome State Fault Refusal :=
  event "CHALLENGE" (spdmReach s.toChip t)
    (spdmServe t (fun c => if slot = 0 then rotAsk c (.random t 3 0) else spdmError c t 1) s.toChip) s

/-- GET_MEASUREMENTS (R384, R385): one block of 1 to 8, or all, signed. -/
def execGetMeasurements (t : Transport) (block : Nat) (s : State) : Host.Outcome State Fault Refusal :=
  event "GET_MEASUREMENTS" (spdmReach s.toChip t)
    (spdmServe t (fun c => if (1 ≤ block && block ≤ 8) || block == 0xFF then rotAsk c (.random t 0x60 block) else spdmError c t 1) s.toChip) s

/-- KEY_EXCHANGE (R384): at most 2 secured sessions a transport. -/
def execKeyExchange (t : Transport) (s : State) : Host.Outcome State Fault Refusal :=
  event "KEY_EXCHANGE" (spdmReach s.toChip t)
    (spdmServe t (fun c => if sessionsOf c t + handshakesOf c t < 2 then rotAsk c (.random t 0x64 0) else spdmError c t 0xA) s.toChip) s

/-- FINISH (R384): the handshake becomes a session. -/
def execFinish (t : Transport) (s : State) : Host.Outcome State Fault Refusal :=
  event "FINISH" (spdmReach s.toChip t)
    (spdmServe t (fun c =>
      if handshakesOf c t = 0 then spdmError c t 4
      else spdmSend (setSessions c t (min 2 (sessionsOf c t + 1)) (handshakesOf c t - 1)) t 0x65 []) s.toChip) s

/-- END_SESSION (R384). -/
def execEndSession (t : Transport) (s : State) : Host.Outcome State Fault Refusal :=
  event "END_SESSION" (spdmReach s.toChip t)
    (spdmServe t (fun c =>
      if sessionsOf c t = 0 then spdmError c t 4 else spdmSend (setSessions c t (sessionsOf c t - 1) (handshakesOf c t)) t 0x6C []) s.toChip) s

/-- A request inside a session: acknowledged when the transport carries one. -/
def inSession (t : Transport) (code : Nat) (c : Chip) : Chip := if sessionsOf c t = 0 then spdmError c t 4 else spdmSend c t code []

/-- HEARTBEAT (R384). -/
def execSpdmHeartbeat (t : Transport) (s : State) : Host.Outcome State Fault Refusal :=
  event "HEARTBEAT" (spdmReach s.toChip t) (spdmServe t (inSession t 0x68) s.toChip) s

/-- KEY_UPDATE (R384). -/
def execKeyUpdate (t : Transport) (s : State) : Host.Outcome State Fault Refusal :=
  event "KEY_UPDATE" (spdmReach s.toChip t) (spdmServe t (inSession t 0x69) s.toChip) s

/-! IDE_KM (R388). Responses carry codes 0x100 + the IDE_KM object ID (PRESUMED: the IDE standard). -/

/-- The key of a key set in the table of key sets. -/
def ideKey (p : HPort) (stream : Nat) (set : Bool) : Nat := 100 * portNo p + 2 * stream + b2n set

/-- Replace the IDE state. -/
def setIde (c : Chip) (streams : Nat) (keys : Tab Nat) : Chip :=
  { c with sec := { c.sec with spdm := { c.sec.spdm with streams := streams, keys := keys } } }

/-- An IDE_KM request travels in a secured session on the port's own DOE: an ERROR otherwise. -/
def ideServe (p : HPort) (f : Chip → Chip) (c : Chip) : Chip :=
  spdmServe (.doe p) (fun c => if sessionsOf c (.doe p) = 0 then spdmError c (.doe p) 4 else f c) c

/-- The IDE_KM error response. -/
def ideRefuse (c : Chip) (p : HPort) (id : Nat) : Chip := spdmSend c (.doe p) (0x100 + id) [1]

/-- QUERY (R388): the stream states of the port. -/
def execIdeQuery (p : HPort) (s : State) : Host.Outcome State Fault Refusal :=
  event "QUERY" (spdmReach s.toChip (.doe p))
    (ideServe p (fun c => spdmSend c (.doe p) 0x101 (leBytes 1 (bits c.sec.spdm.streams (5 * portNo p) 5))) s.toChip) s

/-- KEY_PROG (R388): refused during a tenant end. -/
def keyProg (p : HPort) (stream : Nat) (set : Bool) (key : Nat) (c : Chip) : Chip :=
  if tenantEnding c || stream ≥ 5 then ideRefuse c p 3
  else
    let i := c.sec.spdm
    spdmSend (setIde c i.streams (tset i.keys (ideKey p stream set) (2 * key))) (.doe p) 0x103 [0]

/-- KEY_PROG (R388). -/
def execKeyProg (p : HPort) (stream : Nat) (set : Bool) (key : Nat) (s : State) : Host.Outcome State Fault Refusal :=
  event "KEY_PROG" (spdmReach s.toChip (.doe p)) (ideServe p (keyProg p stream set key) s.toChip) s

/-- K_SET_GO (R388): the key set is used, the other set of the stream no longer; the stream is SECURE. Refused during a tenant end, or when the
key set was not programmed. -/
def kSetGo (p : HPort) (stream : Nat) (set : Bool) (c : Chip) : Chip :=
  let i := c.sec.spdm
  match tget i.keys (ideKey p stream set) with
  | some k =>
    if tenantEnding c || stream ≥ 5 then ideRefuse c p 6
    else
      let keys := tmod (tset i.keys (ideKey p stream set) (k / 2 * 2 + 1)) (ideKey p stream (!set)) fun x => x / 2 * 2
      spdmSend (setIde c (setBit i.streams (5 * portNo p + stream) true) keys) (.doe p) 0x106 [0]
  | none => ideRefuse c p 6

/-- K_SET_GO (R388). -/
def execKSetGo (p : HPort) (stream : Nat) (set : Bool) (s : State) : Host.Outcome State Fault Refusal :=
  event "K_SET_GO" (spdmReach s.toChip (.doe p)) (ideServe p (kSetGo p stream set) s.toChip) s

/-- K_SET_STOP (R388): the key set is no longer used; a stream with no key set in use is INSECURE. -/
def kSetStop (p : HPort) (stream : Nat) (set : Bool) (c : Chip) : Chip :=
  let i := c.sec.spdm
  match tget i.keys (ideKey p stream set) with
  | some k =>
    let keys := tset i.keys (ideKey p stream set) (k / 2 * 2)
    let other := tgetD keys (ideKey p stream (!set)) 0 % 2 == 1
    let b := 5 * portNo p + stream
    spdmSend (setIde c (setBit i.streams b (bit i.streams b && other)) keys) (.doe p) 0x106 [0]
  | none => ideRefuse c p 6

/-- K_SET_STOP (R388). -/
def execKSetStop (p : HPort) (stream : Nat) (set : Bool) (s : State) : Host.Outcome State Fault Refusal :=
  event "K_SET_STOP" (spdmReach s.toChip (.doe p)) (ideServe p (kSetStop p stream set) s.toChip) s

/-- An IDE check fails (R315, R389): the stream becomes Insecure, with an Alert of source 19 + 8p. The AER bit is IDE Check Failed, 28
(PRESUMED: the PCIe standard). -/
def ideFail (p : HPort) (stream : Nat) (c : Chip) : Chip :=
  let i := c.sec.spdm
  let keys := i.keys.filter fun x => x.1 / 2 * 2 != ideKey p stream false
  raiseEv (aerUncorrectable (setIde c (setBit i.streams (5 * portNo p + stream) false) keys) p 28 0x31) (19 + 8 * portNo p) stream 2 0

/-- IDE_CHECK_FAILURE (R389). -/
def execIdeCheckFailure (p : HPort) (stream : Nat) (s : State) : Host.Outcome State Fault Refusal :=
  event "IDE_CHECK_FAILURE" (stream < 5 && bit s.sec.spdm.streams (5 * portNo p + stream)) (ideFail p stream s.toChip) s

end Sys2Proof.Machine
end

