-- ==== Sys2Proof/Machine/Tenancy.lean ====
section
/-! DEFINITION. Tenancy (R390 to R396): attach, the five steps of a tenant end, the scrub. -/

namespace Sys2Proof.Machine

/-! Control (R390, R391, R396). -/

/-- Does this unit take tenancy control: in DOUBLET only unit 0 (R396)? -/
def tenantLead (c : Chip) : Bool := !(c.mode == .doublet && c.unit1)

/-- In DOUBLET unit 0 runs the control on both units (R396); the message's layout is the model's own. -/
def tenantTell (c : Chip) (v : Nat) : Chip := if c.mode == .doublet then emit c (.bridge 9 (leBytes 1 v)) else c

/-- ATTACH (R391): VACANT, in a mode that serves, no other ATTACH running. The root of trust raises the tenancy counter first. -/
def tenancyAttach (c : Chip) : Nat × Chip :=
  if c.sec.ten.state != 1 || !serving c || c.sec.ten.attaching || !tenantLead c then (7, c)
  else (0, rotAsk (tenantTell (modTen c fun t => { t with attaching := true }) 1) .tenancyRaise)

/-- TENANCY_ATTACH (R391). -/
def execTenancyAttach (src : Src) (tag : Nat) (s : State) : Host.Outcome State Fault Refusal :=
  let rq := writeReq tag 0x6020 2 (leBytes 1 1)
  event "TENANCY_ATTACH" (presents s.toChip src rq) (serve tenancyAttach src rq s.toChip) s

/-! The scrub (R394). -/

/-- Step `n` of the tenancy's progress begins (object 0x6020.06). -/
def tenantStep (c : Chip) (n : Nat) : Chip := modTen c fun t => { t with step := n, stepTick := now c }

/-- The cluster scrub ranges of object 0x6020.07 that have a length. -/
def scrubRanges (c : Chip) : List (Nat × Nat) :=
  let v := obj c 0x6020 7
  ((upFrom 0 16).map fun k => (fld v (16 * k) 5, fld v (16 * k + 8) 8)).filter fun r => r.2 != 0

/-- The scrub begins (R394): clock-enable bits 4 and 9 are set; zero strokes, which count in Space 0's drain counter, are to fill the die's
512 GiB and the cluster ranges. -/
def beginScrub (c : Chip) : Chip :=
  let c := tenantStep (setTenancy c 4) 6
  let c := modClk c fun k => { k with enables := setBit (setBit k.enables 4 true) 9 true }
  modTen c fun t => { t with scrubLeft := (0, unitNo c * 2 ^ 39, 2 ^ 39) :: (scrubRanges c).map fun r => (2, r.1, r.2) }

/-- SCRUB (R390): UNSCRUBBED only. -/
def tenancyScrub (c : Chip) : Nat × Chip :=
  if c.sec.ten.state != 0 || !tenantLead c then (7, c) else (0, beginScrub (tenantTell c 3))

/-- TENANCY_SCRUB (R390, R394). -/
def execTenancyScrub (src : Src) (tag : Nat) (s : State) : Host.Outcome State Fault Refusal :=
  let rq := writeReq tag 0x6020 2 (leBytes 1 3)
  event "TENANCY_SCRUB" (presents s.toChip src rq) (react (serve tenancyScrub src rq s.toChip)) s

/-- The Transfer Engine after the scrub: no set descriptor, no stroke, every scale-bank entry 0x3F80_0000, nothing bound. A HALTED or FENCED
channel keeps its state; requests still out are settled when they end. -/
def scrubTransfer (c : Chip) : Chip :=
  let c := (c.xf.sds.map (·.1)).foldl discardSd c
  let chans := c.xf.chans.map fun x =>
    (x.1, { x.2 with bound := [], strokes := [], state := if x.2.state = 4 || x.2.state = 5 then x.2.state else 0 })
  { c with xf := { c.xf with chans := chans, banks := [] } }

/-- The Geode after the scrub (R394): every frame free, no map, queue, copy or batch, both pools empty. -/
def scrubGeode (c : Chip) : Chip :=
  let c := { c with geo := { c.geo with
    maps := [], frames := [], queue := [], copies := [], sweeps := [], batches := [], flushing := [], tallies := [], acks := [], wpBlocks := [], hbmTally := [], paid := [],
    spUsed := [] } }
  { c with pat := { c.pat with pats := c.pat.pats.map fun x => (x.1, { x.2 with run := none }) } }

/-- Queues, launches, lanes and slots after the scrub clears the queue contexts (R394); a withdrawal that still runs has nothing to release. -/
def scrubQueues (c : Chip) : Chip :=
  let c := (c.bel.queues.map (·.1)).foldl freeQueue c
  let clu := c.pat.clusters.map fun k => (k.1, { k.2 with staged := [], cores := [] })
  { c with
    bel := { c.bel with lanes := [] }
    pat := { c.pat with launches := [], reads := [], slots := [], clusters := clu, boot := none, bootArg := [] }
    sp := { c.sp with cutters := [], cache := [], missing := [], bumps := c.sp.bumps.map fun b => { b with oldRuns := [], oldFrames := [] } } }

/-- The scrub ends (R390, R394): everything it clears is clear, the tenant record is zeroed, the log records KIND 6, the state reads VACANT. -/
def scrubDone (c : Chip) : Chip :=
  let c := scrubQueues (scrubTransfer c)
  let c := scrubGeode { c with pat := { c.pat with pats := [] }, coh := { c.coh with lines := [] } }
  setTenancy (logAdd (clearObj c 0x6020 3) 6 6 c.sec.ten.epoch []) 1

/-- Has the scrub no byte left to fill and no stroke in flight? -/
def scrubOver (c : Chip) : Bool :=
  c.sec.ten.state == 4 && c.sec.ten.scrubLeft.isEmpty && c.xf.chans.all (fun x => x.2.strokes.isEmpty)
    && c.xf.sds.all fun x => match x.2.owner with | .scrub _ => false | _ => true

/-- SCRUB_COMPLETE (R390, R394): the last zero stroke has completed, and with it every stroke issued before. -/
def execScrubComplete (s : State) : Host.Outcome State Fault Refusal :=
  event "SCRUB_COMPLETE" (scrubOver s.toChip) (react (scrubDone s.toChip)) s

/-! END (R393). -/

/-- The Spaces that step 3 withdraws: every one that is not FREE, but Space 0. -/
def tenantSpaces (c : Chip) : List Nat := (c.sp.spaces.filter fun x => x.1 != 0 && x.2.state != 0).map (·.1)

/-- Step 3 (R393): every Space takes a hard bump that clears its segments, every Pattern becomes FREE, no package is resident. -/
def tenantWithdraw (c : Chip) : Chip :=
  let c := tenantStep c 3
  let c := (tenantSpaces c).foldl (fun c sp => requestBump (setSpState c sp 3) sp true .tenant .clear) c
  let c := patternsChanged ((c.pat.pats.map (·.1)).foldl patternGone c)
  setObj c 0x44F0 1 0

/-- The withdrawals read DONE: every table is UNDEFINED (R393). -/
def tenantTables (c : Chip) : Chip := (c.lap.tables.map (·.1)).foldl undefine c

/-- Steps 4 and 5 (R393): every key set goes and every stream reads INSECURE; both XTS keys are overwritten, and the log records KIND 5. -/
def tenantKeysGone (c : Chip) : Chip :=
  let c := tenantStep c 4
  let c := { c with sec := { c.sec with spdm := { c.sec.spdm with streams := 0, keys := [] } } }
  let c := tenantStep (modTen c fun t => { t with xts := none }) 5
  logAdd c 5 6 c.sec.ten.epoch []

/-- Step 2 is over: every destroy has passed its drain mark, or the limit has come (R393). -/
def drainOver (c : Chip) : Bool := c.sec.ten.limitHit || c.bel.queues.all fun x => x.2.state != 5

/-- Does a withdrawal of step 3 still run? -/
def tenantBumps (c : Chip) : Bool := c.sp.bumps.any fun b => b.bys.contains .tenant

/-- A running tenant end goes as far as it can (R393): steps 2 to 5 each after the one before, then the scrub. -/
def tenantGo (c : Chip) : Chip :=
  if c.sec.ten.state != 3 then c
  else
    let c := if c.sec.ten.step = 2 && drainOver c then tenantWithdraw c else c
    if c.sec.ten.step = 3 && !tenantBumps c then beginScrub (tenantKeysGone (tenantTables c)) else c

/-- Every peer window goes OFF and every shadow is zeroed, by an internal commit (R393). -/
def peersOff (c : Chip) : Chip :=
  flipSet { c with peer := { c.peer with wins := c.peer.wins.map fun x => (x.1, { x.2 with shadow := 0 }) } }

/-- Step 1 (R393): the state reads ENDING, every queue starts a destroy with CAUSE 10, posts are discarded, windows go OFF. -/
def tenantStop (c : Chip) : Chip :=
  let c := tenantStep (setTenancy c 3) 2
  let c := modTen c fun t => { t with endTick := now c, abortedAt := 0, limitHit := false }
  let c := (c.bel.queues.map (·.1)).foldl (fun c q => destroyQueue c q 10) c
  let c := peersOff { c with lap := { c.lap with posts := [] } }
  (c.coh.wins.map (·.1)).foldl windowOff c

/-- END (R390, R393). -/
def tenancyEnd (c : Chip) : Nat × Chip :=
  if c.sec.ten.state != 2 || !tenantLead c then (7, c) else (0, tenantStop (tenantTell c 2))

/-- TENANCY_END (R393). -/
def execTenancyEnd (src : Src) (tag : Nat) (s : State) : Host.Outcome State Fault Refusal :=
  let rq := writeReq tag 0x6020 2 (leBytes 1 2)
  event "TENANCY_END" (presents s.toChip src rq) (tenantGo (react (serve tenancyEnd src rq s.toChip))) s

/-- Tenancy control, object 0x6020.02 (R398). -/
def tenancyControl (v : Nat) (c : Chip) : Nat × Chip :=
  if v = 1 then tenancyAttach c
  else if v = 2 then (let r := tenancyEnd c; (r.1, tenantGo (react r.2)))
  else if v = 3 then tenancyScrub c else (5, c)

/-- Every issued stroke that is not aborted yet, by channel. -/
def strokesIssued (c : Chip) : List (Nat × Stroke) :=
  c.xf.chans.flatMap fun x => (x.2.strokes.filter fun s => !s.aborted).map fun s => (x.1, s)

/-- The Drain limit has elapsed since END (R393): every issued stroke is aborted and counted. -/
def drainLimit (t : Nat) (c : Chip) : Chip :=
  let c := advance c t
  let xs := strokesIssued c
  let c := xs.foldl (fun c x => abortStroke c x.1 x.2) c
  tenantGo (react (modTen c fun y => { y with limitHit := true, abortedAt := xs.length }))

/-- DRAIN_LIMIT_EXPIRY (R393). -/
def execDrainLimitExpiry (t : Nat) (s : State) : Host.Outcome State Fault Refusal :=
  let x := s.sec.ten
  event "DRAIN_LIMIT_EXPIRY" (x.state == 3 && x.step == 2 && x.endTick + obj s.toChip 0x6020 5 ≤ nowAt s.toChip t)
    (drainLimit t s.toChip) s

end Sys2Proof.Machine
end

