-- ==== Sys2Proof/Machine/Withdraw.lean ====
section
/-! DEFINITION. The commands of bumps (R80 to R82): a waiting bump takes effect, its older counters reach zero, its flush reads complete. -/

namespace Sys2Proof.Machine

/-! Step 1. -/

/-- Is a bump the first one waiting on its Space, with the counter of the generation to come at zero (R80 step 1)? -/
def dueCounterFree (c : Chip) (i : Nat) : Bool :=
  ((getBump c i).map fun b => b.phase == BumpPhase.waiting && !followsLead c && !bumpBlocked c b.space i).getD false

/-- The waiting bump takes effect (R80 steps 2 and 3); in DOUBLET the changed Space goes to unit 1. -/
def counterFree (i : Nat) (c : Chip) : Chip :=
  match getBump c i with
  | some b => mirror (applyBump c i) .space b.space none
  | none => c

/-- BUMP_COUNTER_FREE (R80). -/
def execBumpCounterFree (id : Nat) (s : State) : Host.Outcome State Fault Refusal :=
  eventOn 2 "BUMP_COUNTER_FREE" (dueCounterFree s.toChip id) (react (counterFree id s.toChip)) s

/-! Steps 4 and 5. -/

/-- The generations of a Space below `g` that may still count, as ages behind the current one. -/
def olderAges (cur g : Nat) : List Nat := (upFrom 0 4).filter fun a => genAge cur g < a

/-- Generation number of an age. -/
def genOf (cur a : Nat) : Nat := (cur + 2 ^ 32 - a) % 2 ^ 32

/-- Have the counters of every generation before `g` reached zero (R80 step 4)? In DOUBLET unit 1 must have taken the change, and the
partner's counters come with the event; after PARTNER_ROUGH they wait for DRAINED (R293). -/
def drained (c : Chip) (b : Bump) : Bool :=
  let s := getSpace c b.space
  (olderAges s.gen b.gen).all (fun a => drainOf s (genOf s.gen a) == 0)
    && !(c.mode == .doublet && c.dbl.waits.any fun w => w.kind == .space && w.num == b.space)
    && !(c.mode == .split && c.dbl.kind == 1 && !c.dbl.drained)

/-- The host ports that carried a write of a generation before `g`, as a mask (R80 step 5). -/
def portsWrote (s : Space) (g : Nat) : Nat :=
  (olderAges s.gen g).foldl (fun m a => m ||| tgetD s.wrote (genOf s.gen a % 4) 0) (tgetD s.wrote 4 0)

/-- Step 5 of R80: a zero-length read on each such port that can issue requests. -/
def bumpFlush (i : Nat) (c : Chip) : Chip :=
  match getBump c i with
  | none => c
  | some b =>
    let m := portsWrote (getSpace c b.space) b.gen
    let c := modBump c i fun x => { x with phase := .flushing, ports := m }
    ([HPort.a, HPort.b].filter fun p => m / portBit p % 2 == 1 && canIssue c p).foldl (fun c p => emit c (.flushRead p)) c

/-- BUMP_DRAIN_COMPLETE (R80). -/
def execBumpDrainComplete (id : Nat) (s : State) : Host.Outcome State Fault Refusal :=
  let due := ((getBump s.toChip id).map fun b => b.phase == BumpPhase.draining && drained s.toChip b).getD false
  eventOn 2 "BUMP_DRAIN_COMPLETE" due (bumpFlush id s.toChip) s

/-! Step 6. -/

/-- SPACE_FREED (R56): a RETIRING Space whose withdrawal is done is FREE. -/
def spaceFreed (c : Chip) (sp : Nat) : Chip :=
  if (getSpace c sp).state = 3 then mirror (setSpState c sp 0) .space sp none else c

/-- PRIOR_EPOCH release begins (R168): the older epoch reads RELEASING, and the prior table is swept. -/
def releaseBegin (c : Chip) (t : Nat) : Chip :=
  let x := getTable c t
  if x.older = 2 then
    if x.prior.isEmpty then releaseEnd (setTable c t { x with older := 3 }) t
    else setTable c t { x with older := 3, relLeft := x.prior }
  else c

/-- What a requester does when its withdrawal is complete (R80 step 6). -/
def bumpDone (c : Chip) (sp : Nat) (b : BumpBy) : Chip :=
  match b with
  | .software => modSpace c sp fun x => { x with wStat := 3 }
  | .ats p itag =>
    if c.sp.bumps.any fun x => x.bys.contains (.ats p itag) then c
    else
      let c := { c with sp := { c.sp with invQueued := setTwo c.sp.invQueued p (two c.sp.invQueued p - 1) } }
      if linkIsUp c p then emit c (.invalidateDone p itag 1) else c
  | .batch i => releaseBatch c i
  | .queue q => destroyFinish c q
  | .table t => releaseBegin c t
  | .tenant => c
  | .portReset _ => c
  | .remirror => c

/-- The flush reads of a bump have completed: its memory is released and its requesters go on (R80 step 6, R81). -/
def bumpComplete (i : Nat) (c : Chip) : Chip :=
  match getBump c i with
  | none => c
  | some b =>
    let c := { c with sp := { c.sp with bumps := c.sp.bumps.filter fun x => x.id != i } }
    let c := releaseNow c (b.oldRuns.map (·.1)) b.oldFrames
    let c := b.bys.foldl (fun c y => bumpDone c b.space y) c
    tenantGo (react (if b.change == .clear then spaceFreed c b.space else c))

/-- BUMP_FLUSH_READ_COMPLETE (R80). -/
def execBumpFlushReadComplete (id : Nat) (s : State) : Host.Outcome State Fault Refusal :=
  let due := ((getBump s.toChip id).map fun b => b.phase == BumpPhase.flushing).getD false
  eventOn 2 "BUMP_FLUSH_READ_COMPLETE" due (bumpComplete id s.toChip) s

end Sys2Proof.Machine
end

