-- ==== Sys2Proof/Machine/Rough.lean ====
section
/-! DEFINITION. Fences (R361), the end of a pair and of a join (R281, R293), entry into ROUGH and the Rough exit (R362 to R366). -/

namespace Sys2Proof.Machine

/-! Fences (R361). An element already fenced is left as it is (R367). -/

/-- The fence that leaves no element of its kind in service also takes a Fatal on source 7, named by the source that fenced (R361). -/
def fenceLast (c : Chip) (src : Nat) (last : Bool) : Chip := if last then raiseEv c 7 src 4 src else c

/-- Fence Cutter `n`: what it cut is discarded, and both sides are cut again (R361). -/
def fenceCutter (c : Chip) (src n : Nat) : Chip :=
  if !bit c.toc.cutters n then c
  else
    let c := stat { c with toc := { c.toc with cutters := setBit c.toc.cutters n false } } 0x7050 3 1
    let c := match tget c.sp.cutters n with
      | some j => dropCut c j.q j.e j.n
      | none => c
    fenceLast c src (c.toc.cutters == 0)

/-- Is a launch channel left (R361)? -/
def anyLaunchChan (c : Chip) : Bool := (upFrom 0 64).any fun ch => isLaunchChan c ch

/-- Fence channel `ch`: as a halt, but until unit reset (R128, R361). -/
def fenceChannel (c : Chip) (src ch : Nat) : Chip :=
  if !bit c.toc.channels ch then c
  else
    let c := stat { c with toc := { c.toc with channels := setBit c.toc.channels ch false } } 0x7050 3 1
    fenceLast (channelDown c ch 5) src (!anyLaunchChan c)

/-- A Run node that a fenced cluster held (R361): of any cluster, it is staged again from its start; of this one, its launch ends with
CORE_FENCED. -/
def clusterNode (c : Chip) (q e n : Nat) : Chip :=
  match (getLaunch c q e).bind fun l => (getNode l n).map fun x => (l, x) with
  | none => c
  | some (l, x) =>
    if l.final != noFinal then c
    else if q != 0 && fld x.body 8 1 = 0xFF then
      modNode c q e n fun y => { y with st := if y.st == .running then .ready else y.st, cluster := 0xFF }
    else setFinal c q e 6 (n % 4096)

/-- Insert a node of a launch by its number. -/
def nodeInsert (a : Nat × Nat × Nat) : List (Nat × Nat × Nat) → List (Nat × Nat × Nat)
  | [] => [a]
  | b :: r => if a.2.2 < b.2.2 then a :: b :: r else b :: nodeInsert a r

/-- Fence cluster `k`: its staged records are discarded and its running nodes stopped without ABORT (R361). Of two nodes that end a launch the
lower number sets its status (R230). -/
def fenceCluster (c : Chip) (src k : Nat) : Chip :=
  if !bit c.toc.clusters k then c
  else
    let c := stat { c with toc := { c.toc with clusters := setBit c.toc.clusters k false } } 0x7050 3 1
    let y := getClu c k
    let ns := y.staged.map (fun r => (r.q, r.e, r.n)) ++ (y.cores.filter fun r => !r.2.aborted).map fun r => (r.2.q, r.2.e, r.2.n)
    let c := modClu c k fun z => { z with staged := [], cores := [] }
    fenceLast (bootFenced ((ns.foldl (fun l r => nodeInsert r l) []).foldl (fun c r => clusterNode c r.1 r.2.1 r.2.2) c)) src (c.toc.clusters == 0)

/-- Fence slot `s`: its contexts and joins end with BUS_ERROR (R361). -/
def fenceSlot (c : Chip) (src s : Nat) : Chip :=
  if !bit c.toc.slots s then c
  else
    let c := stat { c with toc := { c.toc with slots := setBit c.toc.slots s false } } 0x7050 3 1
    let ls := c.pat.launches.filter fun x => ofQueue x.2.q && x.2.slot == s && x.2.ctx != .none
    fenceLast (ls.foldl (fun c x => setFinal c x.2.q x.2.e 9 0xFFFF) c) src (c.toc.slots == 0)

/-! Joins and pairs that end. -/

/-- A join that has not reached step 6 fails on both units (R281). -/
def joinFail (c : Chip) (reason : Nat) : Chip :=
  if c.dbl.state = 1 || c.dbl.joinStep != 0 then
    { c with dbl := { c.dbl with state := 3, reason := reason, joinStep := 0, tick := now c } }
  else c

/-- A write that waits for the partner's acknowledgement completes: this unit's own copy stands (R293). -/
def answerWait (c : Chip) (w : MirrorWait) : Chip :=
  match w.req with
  | some (.forwarded, _) => c
  | some (src, rq) => post c src rq 0 (totalOf c rq) []
  | none => c

/-- A frozen entry is no longer held; a Space returns to LIVE after this unit's own hard bump (R296). -/
def thaw (c : Chip) (k : MirrorKind) (n : Nat) : Chip :=
  if k == .space && (getSpace c n).state = 4 then requestBump c n true .remirror .none else c

/-- RETIRING Patterns with no launch left, which waited for unit 0's word, become FREE. -/
def retiredLeft (c : Chip) : Chip :=
  ((c.pat.pats.filter fun x => x.2.state == 4 && x.2.running == 0).map (·.1)).foldl freePattern c

/-- What waited for the partner goes on when the unit has left DOUBLET (R293, R296): forwarded writes complete with BUSY, acknowledgements are
waited for no longer, a held publish is made alone, frozen entries are released. -/
def pairOver (c : Chip) : Chip :=
  let d := c.dbl
  let c := { c with dbl := { d with waits := [], frozen := [], remirror := [], flushing := false, flushFor := [] } }
  let c := d.fwd.foldl (fun c x => forwardAnswer c x 6) (d.waits.foldl answerWait c)
  let c := c.geo.acks.foldl (fun c x => stateAck x.1 x.2.1 x.2.2 c) c
  let c := retiredLeft (if c.lap.holding then publish c else c)
  d.frozen.foldl (fun c x => thaw c x.1 x.2) c

/-! Entry into ROUGH (R362). -/

/-- The Geode stops (R90, R102): queued promotions turn FAR, copies and write-backs abort at their next stroke boundary. -/
def geodeRough (c : Chip) : Chip :=
  let q := c.geo.queue
  let c := { c with geo := { c.geo with queue := [] } }
  let c := q.foldl (fun c x => putEntry c x.1 x.2.1 x.2.2 (setState (entryOf c x.1 x.2.1 x.2.2) false false)) c
  let copy := fun (o : Owner) => match o with | .promote _ _ _ | .writeBack _ _ _ => true | _ => false
  let os := (c.xf.sds.filter fun x => copy x.2.owner && !ownerGone c x.2.owner).map (·.2.owner)
  os.foldl (fun c o => if ownerGone c o then c else ownerFail c o 9) c

/-- A Bootstrap command with a move or a Run node is aborted, with BUS_ERROR where it has strokes on route PEER; queue 0 remains (R130, R193,
R228, R267). -/
def bootAbort (c : Chip) : Chip :=
  let c := peerHalt c fun o => match o with | .node 0 _ _ => true | _ => false
  (queueLaunches c 0).foldl (fun c l =>
    if l.nodes.any fun x => kindMove x.2.kind || x.2.kind == 1 then setFinal c 0 l.e 4 0 else c) c

/-- Steps 2 to 4 of R362. -/
def stopServices (c : Chip) (was : Mode) : Chip :=
  let c := ((c.bel.queues.map (·.1)).filter (· != 0)).foldl (fun c q => destroyQueue c q 12) c
  let c := cohRough (lapRough (geodeRough (bootAbort c)))
  let joining := c.dbl.state = 1 || c.dbl.joinStep != 0
  let c := if was == .doublet || joining then emit c (.bridge 17 []) else c
  let c := if was == .doublet then pairOver c else joinFail c 6
  react c

/-- A Fatal of a source takes the unit into ROUGH (R15, R362): step 1 and the steps after it. In ROUGH after a Fatal the cause and the tick
stand (R367). In BOOT, which R15 does not leave for a Fatal, it waits for the entry from BOOT (DEDUCED). -/
def fatal (c : Chip) (cause : Nat) : Chip :=
  if c.mode == .boot || (c.mode == .rough && c.rough.kind == 2) then c
  else
    let was := c.mode
    let c := { c with mode := .rough, rough := { c.rough with kind := 2, settled := false, cause := cause, tick := now c } }
    stopServices (stat c 0x7050 4 1) was

/-- ROUGH_SETTLED is due (R362): every aborted stroke has ended, every withdrawal is done, every destroy of CAUSE 12 has finished. -/
def dueSettled (c : Chip) : Bool :=
  c.mode == .rough && c.rough.kind == 2 && !c.rough.settled && abortsOver c && c.geo.copies.isEmpty && c.sp.bumps.isEmpty
    && c.bel.queues.all fun x => !(x.2.state == 5 && x.2.cause == 12)

/-- ROUGH_SETTLED (R362). -/
def execRoughSettled (s : State) : Host.Outcome State Fault Refusal :=
  event "ROUGH_SETTLED" (dueSettled s.toChip) { s.toChip with rough := { s.rough with settled := true } } s

/-! The Rough exit (R365, R366). -/

/-- Has the unit a reason of its own that keeps it in ROUGH: checks 1 to 5 of R365, 0 when none? -/
def exitReason (c : Chip) : Nat :=
  let lv := fun (n : Nat) => (getSrc c n).level
  if c.rough.kind != 2 then 1
  else if !c.rough.settled then 2
  else if lv 186 = 4 then 3
  else if lv 7 = 4 || (lv 188 = 4 && decide (sext 32 (obj c 0x5140 4) ≤ c.toc.temp)) then 4
  else if anyLevel c 3 then 5
  else 0

/-- Check 6: the partner of a unit that was joined must be in ROUGH and must not have left the pair. Whether it has left is a fact of the
other unit that no command brings: a free value, and once it has left it stays so. -/
def pairReason (c : Chip) : Nat × Chip :=
  if !c.dbl.wasJoined then (0, c)
  else if !c.dbl.partnerRough || c.dbl.partnerLeft then (6, c)
  else
    let x := takeFree c 1
    if x.1 = 1 then (6, { x.2 with dbl := { x.2.dbl with partnerLeft := true } }) else (0, x.2)

/-- Sources at FATAL read NONE (R354, R368). -/
def clearFatal (c : Chip) : Chip :=
  ((c.toc.srcs.filter fun x => x.2.level == 4).map (·.1)).foldl (fun c n => setSrc c n { getSrc c n with level := 0, endTaken := false }) c

/-- A Space of the pair becomes FREE, with what its segments held (R366). -/
def discardSpace (c : Chip) (sp : Nat) : Chip :=
  let w := applyChange c sp (getSpace c sp).gen .clear
  setSpState (releaseNow w.1 w.2.1 w.2.2) sp 0

/-- A unit that leaves a pair discards the pair's state (R366), and tells the partner. -/
def discardPair (c : Chip) : Chip :=
  let c := ((c.sp.spaces.map (·.1)).filter (· != 0)).foldl discardSpace c
  let c := patternsChanged ((c.pat.pats.map (·.1)).foldl patternGone c)
  let c := (c.lap.tables.map (·.1)).foldl undefine c
  emit { c with dbl := { c.dbl with
    state := 0, reason := 0, kind := 0, wasJoined := false, partnerLeft := false, partnerRough := false, drained := false, seqs := [],
    partner := [] } } (.bridge 19 [])

/-- Coherent windows return to ACTIVE on a port whose CXL.cache runs, and to SUSPENDED otherwise (R366). -/
def windowsBack (c : Chip) (p : HPort) : Chip :=
  if cacheUp c p then resumeWindows c p else (portWindows c p).foldl (fun c x => setCoh c x.1 2) c

/-- The exit takes effect (R365, R366). -/
def leaveRough (c : Chip) : Chip :=
  let c := clearFatal { c with mode := .normal, rough := { c.rough with kind := 0 } }
  let c := windowsBack (windowsBack c .a) .b
  if c.dbl.wasJoined then discardPair c else c

/-- Rough control, object 0x5100.02 (R365). -/
def roughExit (v : Nat) (c : Chip) : Nat × Chip :=
  if v != 1 then (5, c)
  else if c.mode != .rough then (7, c)
  else
    let p := if exitReason c = 0 then pairReason c else (exitReason c, c)
    if p.1 != 0 then (7, { p.2 with rough := { p.2.rough with exitReason := p.1 } })
    else (0, leaveRough p.2)

/-- ROUGH_EXIT (R365). -/
def execRoughExit (src : Src) (tag v : Nat) (s : State) : Host.Outcome State Fault Refusal :=
  let rq := writeReq tag 0x5100 2 (leBytes 1 v)
  event "ROUGH_EXIT" (presents s.toChip src rq) (react (serve (roughExit (v % 256)) src rq s.toChip)) s

end Sys2Proof.Machine
end

