-- ==== Sys2Proof/Machine/Tocsin.lean ====
section
/-! DEFINITION. Tocsin (R350 to R371): events, counting windows, levels, grace timers and end actions, SRAM errors, telemetry. -/

namespace Sys2Proof.Machine

/-! Which events can arrive (R350, R360). -/

/-- Does Tocsin's hardware run: MCLK does (R351)? -/
def tocsinRuns (c : Chip) : Bool := c.boot.mclkRuns && !bit c.clk.stopped 19

/-- Does the policy run: MCLK runs (R351), and no activation window is open (R381)? -/
def policyRuns (c : Chip) : Bool := tocsinRuns c && !c.sec.fw.window

/-- The 64-byte words of SRAM store `k` (R18, R360). -/
def storeWords (k : Nat) : Nat := [393216, 131072, 98304, 65536, 65536, 16384, 16384].getD k 0

/-- The level of an uncorrectable word of store `k` (R360). -/
def storeLevel (k w : Nat) : Nat :=
  if k = 6 then (if w < 4096 then 2 else 4) else [2, 3, 2, 2, 1, 4].getD k 0

/-- An event that hardware outside the commands raises: a Cutter's internal check, a cluster interface, a core's fault, an SRAM word, the
bridge (R276, R350, R360). -/
def outsideEvent (n elem level detail : Nat) : Bool :=
  let k := (n - 160) / 2
  if 32 ≤ n && n ≤ 47 then level == 3 && elem == n - 32 && detail == 0
  else if 112 ≤ n && n ≤ 119 then level == 3 && elem == 0 && detail == 0
  else if 120 ≤ n && n ≤ 127 then level == 2 && elem < 16 && detail == 0
  else if 160 ≤ n && n ≤ 173 then
    elem == k && detail < storeWords k && level == (if n % 2 = 0 then 1 else storeLevel k detail)
  else n == 184 && level == 2 && elem == 0 && detail == 0

/-- The first raised event of a source. -/
def firstRaised (c : Chip) (n : Nat) : Option TocEvent := c.toc.raised.find? fun e => e.src == n

/-- TOCSIN_EVENT is due: the source's first raised event, or one from outside; source 7 needs no MCLK (R351). -/
def dueTocsin (c : Chip) (n elem level detail : Nat) : Bool :=
  (firstRaised c n == some ⟨n, elem, level, detail⟩ || outsideEvent n elem level detail) && (n == 7 || policyRuns c) && c.boot.pwrgood

/-! Counting and levels (R353, R354, R356). -/

/-- Is a source masked? Sources 0 to 7 cannot be (R356). -/
def isMasked (c : Chip) (n : Nat) : Bool := 7 < n && obj c (0x5000 + n) 5 == 1

/-- The counting window takes an event (R353): a window that is over closes first, the count that reaches N closes it. Answers whether N was
reached. -/
def countEvent (c : Chip) (n : Nat) (x : SrcSt) : Bool × SrcSt :=
  let x := if x.winOpen && now c < x.winClose then x
    else { x with winOpen := true, winClose := now c + obj c (0x5000 + n) 4, winN := obj c (0x5000 + n) 3, count := 0 }
  if x.winN ≤ x.count + 1 then (true, { x with winOpen := false, count := 0 }) else (false, { x with count := x.count + 1 })

/-- A source's level rises to `l`, and its timer starts (R354): G_A at ALERT, G_S at SEVERE, none at FATAL. -/
def raiseLevel (c : Chip) (x : SrcSt) (l : Nat) : SrcSt :=
  if l ≤ x.level then x
  else
    let g := if l = 2 then obj c 0x5100 5 else obj c 0x5100 6
    { x with level := l, timerOn := l == 2 || l == 3, timer := if l = 2 || l = 3 then now c + g else 0 }

/-- A source takes an event: total, last event, window, level (R352 to R354, R356). -/
def takeLevel (c : Chip) (n : Nat) (x : SrcSt) (elem level detail : Nat) : SrcSt :=
  let x := { x with total := min 0xFFFFFFFF (x.total + 1), lastTick := now c, lastElem := elem, lastLevel := level, lastDetail := detail }
  let r := countEvent c n x
  let l := if level = 4 then 4 else max level (if r.1 then 3 else 0)
  raiseLevel c r.2 (if isMasked c n && level != 4 then min 1 l else l)

/-! What an event does besides (R350, R359, R360). -/

/-- The fences marked "at once" (R350). -/
def atOnce (c : Chip) (n elem : Nat) : Chip :=
  if 32 ≤ n && n ≤ 47 then fenceCutter c n (n - 32)
  else if 112 ≤ n && n ≤ 119 then fenceCluster c n (n - 112)
  else if 120 ≤ n && n ≤ 127 then fenceCore c (n - 120) (elem % 16)
  else c

/-- The 32-byte trace record of an event (R359). -/
def traceRecord (c : Chip) (n elem level detail : Nat) : Bytes :=
  leBytes 32 (pack [(now c, 8), (n, 2), (elem, 2), (level, 1), (0, 3), (detail, 4), (0, 12)])

/-- Trace capture (R359): whether the port is full is not the unit's state, so a free value says it. -/
def traceEvent (c : Chip) (n elem level detail : Nat) : Chip :=
  if obj c 0x5100 8 = 1 && enabled c 19 then
    let x := takeFree c 1
    if x.1 = 1 then stat x.2 0x7050 7 1 else emit x.2 (.trace (traceRecord c n elem level detail))
  else c

/-- The node of an image whose record or edge holds byte `o`, among `n` records from offset `at_`. -/
def nodeAtByte (i : Bytes) (o : Nat) : Nat → Nat → Nat → Option Nat
  | _, _, 0 => none
  | k, at_, n + 1 =>
    let e := at_ + 16 + kindBody (hKind (bfld i at_ 16))
    if at_ < o + 64 && o < e then some k else nodeAtByte i o (k + 1) e n

/-- The Pattern store's word `w` cannot be corrected (R360): the first running launch of its Pattern that has not ended the node in the word
ends with BUS_ERROR there. -/
def badImageWord (c : Chip) (w : Nat) : Chip :=
  match c.pat.pats.find? fun x => x.2.gran ≤ w / 4 && w / 4 < x.2.gran + x.2.granLen with
  | none => c
  | some p =>
    match nodeAtByte p.2.image ((w / 4 - p.2.gran) * 256 + w % 4 * 64) 0 64 (imgNodes p.2.image) with
    | none => c
    | some k =>
      match c.pat.launches.find? fun x => ofQueue x.2.q && x.2.runPat == p.1 && runs x.2
          && ((x.2.nodes.find? fun y => y.1 % 4096 == k).map fun y => !nodeEnded y.2).getD false with
      | some l => setFinal c l.2.q l.2.e 9 k
      | none => c

/-- The first stroke that passes a test meets a data error of CLASS 6 (R126, R360). -/
def dataError (c : Chip) (ok : Nat → Stroke → Bool) : Chip :=
  match c.xf.chans.findSome? fun x => (x.2.strokes.find? fun s => s.err == 0 && !s.aborted && ok x.1 s).map fun s => (x.1, s) with
  | some (ch, s) => modStroke c ch s.sd s.k fun y => { y with err := 6, todo := [] }
  | none => c

/-- The word of store 6 that holds entry `e` of bank `b` (R360). -/
def bankWord (b e : Nat) : Nat := b * 16 + e / 16

/-- Does a stroke's conversion use an entry in word `w`: the one of UNIFORM, any of its bank with BY_I1 (R142, R360; DEDUCED, log 123)? -/
def strokeBank (c : Chip) (w : Nat) (s : Stroke) : Bool :=
  ((getSd c s.sd).map fun d => dConverts d.body &&
    (if dScaleSel d.body = 1 then bankWord (dBank d.body) (dScaleIdx d.body) == w
     else dScaleSel d.body == 2 && bankWord (dBank d.body) 0 ≤ w && w ≤ bankWord (dBank d.body) 1023)).getD false

/-- An uncorrectable set descriptor (R360): its owner ends with BUS_ERROR. Descriptor `id` stands in slot id mod 16,384 (DESIGN CHOICE). -/
def badDescriptor (c : Chip) (w : Nat) : Chip :=
  match c.xf.sds.find? fun x => x.1 % 16384 == w / 4 with
  | some x => if ownerGone c x.2.owner then c else ownerFail c x.2.owner 9
  | none => c

/-- An uncorrectable line of the Coherent Line Cache (R360): Invalid; a pinned line is read again. The `w`-th line held stands in word `w`
(DESIGN CHOICE). -/
def badLine (c : Chip) (w : Nat) : Chip :=
  match c.coh.lines[w]? with
  | some x => if x.2.reading then c else (let c := modLine c x.1 fun l => { l with shared := false }; if x.2.pinned then readLine c x.1 else c)
  | none => c

/-- An uncorrectable word of the facet cache (R360): its line is dropped, to be read again from HBM, with the tallies counted in it. Word w is way
w mod 16 of set w / 16 (DESIGN CHOICE, log 105). -/
def badCacheWord (c : Chip) (w : Nat) : Chip :=
  match (cacheWays c (w / 16)).find? fun x => x.1 == w % 16 with
  | some x => cacheDrop (lostLine c x.2) x.2
  | none => c

/-- The effect of an SRAM event (R360, R371). -/
def sramEffect (c : Chip) (n detail : Nat) : Chip :=
  if n < 160 || 173 < n then c
  else if n % 2 = 0 then stat c 0x7050 5 1
  else
    let c := stat c 0x7050 6 1
    if n = 161 then badCacheWord c detail
    else if n = 163 then badImageWord c detail
    else if n = 165 then dataError c fun ch _ => ch == detail / 1536
    else if n = 167 then badDescriptor c detail
    else if n = 169 then badLine c detail
    else if n = 173 && detail < 4096 then dataError c fun _ s => strokeBank c detail s
    else c

/-! TOCSIN_EVENT. -/

/-- Tocsin takes an event (R351 to R354): the sticky bit, the count, the level, fences, the trace record, and a Fatal's entry into ROUGH. -/
def takeEvent (c : Chip) (n elem level detail : Nat) : Chip :=
  let c := { c with toc := { c.toc with sticky := setBit c.toc.sticky n true } }
  let old := getSrc c n
  let c := traceEvent (stat (setSrc c n (takeLevel c n old elem level detail)) 0x7050 1 1) n elem level detail
  let c := sramEffect (atOnce c n elem) n detail
  if level = 4 && old.level < 4 then fatal c n else c

/-- TOCSIN_EVENT (R354). -/
def execTocsinEvent (n element level detail : Nat) (s : State) : Host.Outcome State Fault Refusal :=
  let c := s.toChip
  let e : TocEvent := ⟨n, element, level, detail⟩
  let c' := { c with toc := { c.toc with raised := ldel c.toc.raised (· == e) } }
  event "TOCSIN_EVENT" (dueTocsin c n element level detail) (react (takeEvent c' n element level detail)) s

/-! Grace timers and windows. -/

/-- The end action of a Severe grace (R350, R360): answers whether there is one. -/
def endAction (c : Chip) (n : Nat) : Bool × Chip :=
  if 48 ≤ n && n ≤ 111 then (true, fenceChannel c n (n - 48))
  else if n = 165 then (true, fenceChannel c n ((getSrc c n).lastDetail / 1536))
  else if 120 ≤ n && n ≤ 127 then (true, fenceCluster c n (n - 120))
  else if 128 ≤ n && n ≤ 159 then (true, fenceSlot c n (n - 128))
  else if n = 163 || n = 187 then (true, fatal (setSrc c n { getSrc c n with level := 4 }) n)
  else (false, c)

/-- A grace timer expires (R354). -/
def graceExpiry (c : Chip) (n : Nat) : Chip :=
  let c := stat c 0x7050 2 1
  let x := getSrc c n
  if x.level = 2 then setSrc c n { x with level := 3, timer := now c + obj c 0x5100 6 }
  else
    let r := endAction (setSrc c n { x with timerOn := false, timer := 0 }) n
    if r.1 then setSrc r.2 n { getSrc r.2 n with endTaken := true } else r.2

/-- GRACE_TIMER_EXPIRY (R354). -/
def execGraceTimerExpiry (n t : Nat) (s : State) : Host.Outcome State Fault Refusal :=
  let x := getSrc s.toChip n
  event "GRACE_TIMER_EXPIRY" (x.timerOn && x.timer ≤ nowAt s.toChip t && policyRuns s.toChip) (react (graceExpiry (advance s.toChip t) n)) s

/-- TOCSIN_WINDOW_CLOSE (R353). -/
def execTocsinWindowClose (n t : Nat) (s : State) : Host.Outcome State Fault Refusal :=
  let x := getSrc s.toChip n
  event "TOCSIN_WINDOW_CLOSE" (x.winOpen && x.winClose ≤ nowAt s.toChip t)
    (setSrc (advance s.toChip t) n { x with winOpen := false, count := 0 }) s

/-! Software (R355, R356, R368, R369). -/

/-- ACK (R354, R355). -/
def sourceAck (n : Nat) (c : Chip) : Nat × Chip :=
  let x := getSrc c n
  if x.level = 4 then (7, c) else (0, setSrc c n { x with level := 0, timerOn := false, timer := 0, endTaken := false })

/-- CLEAR_STICKY (R351). -/
def clearSticky (n : Nat) (c : Chip) : Nat × Chip := (0, { c with toc := { c.toc with sticky := setBit c.toc.sticky n false } })

/-- Source control, object 0x5000+n.02 (R368). -/
def sourceControl (n v : Nat) (c : Chip) : Nat × Chip :=
  if v = 1 then sourceAck n c else if v = 2 then clearSticky n c else (5, c)

/-- Clear all sticky, object 0x5100.04 (R369). -/
def clearAllSticky (v : Nat) (c : Chip) : Nat × Chip :=
  if v != 1 then (5, c) else (0, { c with toc := { c.toc with sticky := 0 } })

/-- A mask write (R356). -/
def maskWrite (n v : Nat) (c : Chip) : Nat × Chip :=
  if n ≤ 7 && v = 1 then (5, c)
  else
    let c := setObj c (0x5000 + n) 5 v
    let x := getSrc c n
    (0, if v = 1 && (x.level = 2 || x.level = 3) then setSrc c n { x with level := 1, timerOn := false, timer := 0 } else c)

/-- SOURCE_ACK (R355). -/
def execSourceAck (src : Src) (tag n : Nat) (s : State) : Host.Outcome State Fault Refusal :=
  let rq := writeReq tag (0x5000 + n) 2 (leBytes 1 1)
  event "SOURCE_ACK" (n < 192 && presents s.toChip src rq) (serve (sourceAck n) src rq s.toChip) s

/-- CLEAR_STICKY (R351). -/
def execClearSticky (src : Src) (tag n : Nat) (s : State) : Host.Outcome State Fault Refusal :=
  let rq := writeReq tag (0x5000 + n) 2 (leBytes 1 2)
  event "CLEAR_STICKY" (n < 192 && presents s.toChip src rq) (serve (clearSticky n) src rq s.toChip) s

/-- CLEAR_ALL_STICKY (R369). -/
def execClearAllSticky (src : Src) (tag v : Nat) (s : State) : Host.Outcome State Fault Refusal :=
  let rq := writeReq tag 0x5100 4 (leBytes 1 v)
  event "CLEAR_ALL_STICKY" (presents s.toChip src rq) (serve (clearAllSticky (v % 256)) src rq s.toChip) s

/-- MASK_WRITE (R356). -/
def execMaskWrite (src : Src) (tag n v : Nat) (s : State) : Host.Outcome State Fault Refusal :=
  let rq := writeReq tag (0x5000 + n) 5 (leBytes 1 v)
  event "MASK_WRITE" (n < 192 && presents s.toChip src rq) (serve (maskWrite n (v % 256)) src rq s.toChip) s

/-! Telemetry (R370). -/

/-- Did a sample reach a threshold that the one before lay below? The first sample is judged as though all lay below. -/
def crossed (c : Chip) (old new thr : Int) : Bool := thr ≤ new && (!c.toc.sampled || old < thr)

/-- A telemetry sample: one event a crossing, at the level of the higher temperature threshold. -/
def telemetry (c : Chip) (temp : Int) (power : Nat) : Chip :=
  let d :=
    if crossed c c.toc.temp temp (sext 32 (obj c 0x5140 4)) then raiseEv c 188 0 4 0
    else if crossed c c.toc.temp temp (sext 32 (obj c 0x5140 3)) then raiseEv c 188 0 2 0 else c
  let d := if crossed c (c.toc.power : Int) (power : Int) (obj c 0x5140 5 : Nat) then raiseEv d 189 0 2 0 else d
  { d with toc := { d.toc with temp := temp, power := power, sampled := true, sampleNext := now d + 1000000 } }

/-- TELEMETRY_SAMPLE (R370): every 1,000,000 ticks. -/
def execTelemetrySample (temp : Int) (power t : Nat) (s : State) : Host.Outcome State Fault Refusal :=
  let c := s.toChip
  event "TELEMETRY_SAMPLE"
    (tocsinRuns c && c.toc.sampleNext ≤ nowAt c t && decide (-2147483648 ≤ temp) && decide (temp < 2147483648) && power < 2 ^ 32)
    (telemetry (advance c t) temp power) s

end Sys2Proof.Machine
end

