-- ==== Sys2Proof/Machine/Doublet.lean ====
section
/-! DEFINITION. Doublet mode (R276 to R298): the bridge, the join, mirrored entries, the audit, flushes, and the split. -/

namespace Sys2Proof.Machine

/-- Change the Doublet's state. -/
def modDbl (c : Chip) (f : DblSt → DblSt) : Chip := { c with dbl := f c.dbl }

/-- Is the bridge link UP at this unit (object 0x4900.07)? -/
def linkedUp (c : Chip) : Bool := c.dbl.bridge == 2

/-- Is a join running on this unit (R280)? -/
def joining (c : Chip) : Bool := c.dbl.state == 1 || c.dbl.joinStep != 0

/-! The join (R279 to R281). -/

/-- Stepping, object 0x1000.05. -/
def stepping (c : Chip) : Nat := obj c 0x1000 5

/-- Join request, object 0x4900.01. -/
def joinRequest (c : Chip) : Bool := obj c 0x4900 1 == 1

/-- BRIDGE_UP is due: the link has trained, as both units have bit 18 set. Unit 1 of a pair that may join takes the join's step 1 with it, which
sets its own bit (R60, R280). -/
def dueBridgeUp (c : Chip) : Bool :=
  !linkedUp c && c.mode != .boot && (enabled c 18 || (c.unit1 && firstRough c && joinRequest c))

/-- The bridge is UP (R280 step 2): unit 0 in a join sends JOIN with its stepping and running firmware version. -/
def bridgeTrained (c : Chip) : Chip :=
  let c := modDbl (modClk c fun k => { k with enables := setBit k.enables 18 true }) fun d => { d with bridge := 2 }
  if c.dbl.state = 1 && c.dbl.joinStep = 1 then
    emit (modDbl c fun d => { d with joinStep := 2 }) (.bridge 10 (leBytes 5 (pack [(stepping c, 1), (c.sec.fw.runVersion, 4)])))
  else c

/-- BRIDGE_UP (R280). -/
def execBridgeUp (s : State) : Host.Outcome State Fault Refusal :=
  event "BRIDGE_UP" (dueBridgeUp s.toChip) (bridgeTrained s.toChip) s

/-- Unit 1's answer to JOIN (R280 step 3, R281): 0 for READY. -/
def joinReason (c : Chip) (step version : Nat) : Nat :=
  if !firstRough c || !joinRequest c then 2
  else if step != stepping c then 3
  else if version != c.sec.fw.runVersion then 4
  else 0

/-- JOIN arrives at unit 1 (R280). -/
def joinMessage (c : Chip) (step version : Nat) : Chip :=
  let r := joinReason c step version
  let c := emit c (.bridge 11 (leBytes 1 r))
  if r = 0 then modDbl c fun d => { d with joinStep := 4, joinStart := now c }
  else modDbl c fun d => { d with state := 3, reason := r, tick := now c }

/-- JOIN_MESSAGE (R280). -/
def execJoinMessage (step version : Nat) (s : State) : Host.Outcome State Fault Refusal :=
  let c := s.toChip
  event "JOIN_MESSAGE" (c.unit1 && linkedUp c && !joining c && (c.mode == .rough || c.mode == .normal) && !c.dbl.wasJoined)
    (joinMessage c step version) s

/-- Every mirrored entry (R286, R287). -/
def mirrorEntries : List (MirrorKind × Nat) :=
  (upFrom 0 1024).map (fun n => (MirrorKind.space, n)) ++ (upFrom 0 1024).map (fun n => (MirrorKind.pattern, n))
    ++ (upFrom 1 255).map (fun n => (MirrorKind.table, n)) ++ [(MirrorKind.lapidary, 0), (MirrorKind.package, 0)]

/-- READY at unit 0 (R280 steps 4 to 6): unit 0's Carillon goes to unit 1, every mirrored entry is copied with sequence 1, and the join tick
lies at least 10,000 ticks ahead. -/
def joinCopy (c : Chip) : Chip :=
  let c := modDbl c fun d => { d with seqs := [], partner := [], joinStep := 6, joinTick := now c + 10000 }
  let c := emit c (.bridge 11 (leBytes 9 (pack [(0, 1), (now c, 8)])))
  mirrorEntries.foldl (fun c x => sendMirror c x.1 x.2 1 true) c

/-- Unit 1 takes unit 0's Carillon value (R280 step 4, R291). -/
def joinTakeTime (c : Chip) (t : Nat) : Chip :=
  let t := t % 2 ^ 64
  let c := modClk c fun k => { k with carillon := t }
  modDbl c fun d => { d with joinStep := 6, joinTick := t + 10000, seqs := [], partner := [] }

/-- JOIN_READY is due: at unit 0 the answer to its JOIN; at unit 1 unit 0's word of the time, or of a failed join. -/
def dueJoinReady (c : Chip) (reason : Nat) : Bool :=
  linkedUp c && reason < 7 && (if c.unit1 then c.dbl.joinStep == 4 || (c.dbl.joinStep == 6 && reason != 0) else c.dbl.state == 1 && c.dbl.joinStep == 2)

/-- JOIN_READY (R280, R281). -/
def execJoinReady (reason partnerTick : Nat) (s : State) : Host.Outcome State Fault Refusal :=
  let c := s.toChip
  event "JOIN_READY" (dueJoinReady c reason)
    (if reason != 0 then joinFail c reason else if c.unit1 then joinTakeTime c partnerTick else joinCopy c) s

/-- The join tick (R280 step 6): MODE reads DOUBLET, Join status JOINED. -/
def joinAtTick (c : Chip) : Chip :=
  let c := { c with mode := .doublet, rough := { c.rough with kind := 0 } }
  modDbl c fun d => { d with
    state := 2, reason := 0, kind := 0, lead := 0, tick := now c, joinStep := 0, wasJoined := true, partnerRough := false, partnerLeft := false
    drained := false, kaNext := now c + 10000 }

/-- JOIN_TICK (R280). -/
def execJoinTick (t : Nat) (s : State) : Host.Outcome State Fault Refusal :=
  let c := s.toChip
  event "JOIN_TICK" (firstRough c && c.dbl.joinStep == 6 && linkedUp c && c.dbl.joinTick ≤ nowAt c t) (joinAtTick (advance c t)) s

/-- JOIN_TIMEOUT (R281): unit 0 ends the join and tells unit 1. -/
def execJoinTimeout (t : Nat) (s : State) : Host.Outcome State Fault Refusal :=
  let c := advance s.toChip t
  event "JOIN_TIMEOUT" (s.dbl.state == 1 && s.dbl.joinStart + obj s.toChip 0x4900 3 ≤ nowAt s.toChip t)
    (let c := joinFail c 5; if linkedUp c then emit c (.bridge 11 (leBytes 1 5)) else c) s

/-! Flushes and keepalives (R277, R292). -/

/-- Do messages of a pair pass: the bridge is UP and this unit was joined? -/
def paired (c : Chip) : Bool := linkedUp c && c.dbl.wasJoined

/-- BRIDGE_FLUSH (R277): FLUSH_DONE is returned once every earlier write has finished. -/
def execBridgeFlush (s : State) : Host.Outcome State Fault Refusal :=
  event "BRIDGE_FLUSH" (paired s.toChip) (emit s.toChip (.bridge 14 [])) s

/-- Launches of a list no longer wait for a cross-link flush. -/
def flushed (c : Chip) (ls : List (Nat × Nat)) : Chip := ls.foldl (fun c x => modLaunch c x.1 x.2 fun l => { l with bridge := false }) c

/-- FLUSH_DONE (R277). -/
def execFlushDone (s : State) : Host.Outcome State Fault Refusal :=
  let c := s.toChip
  event "FLUSH_DONE" (c.dbl.flushing && linkedUp c)
    (react (modDbl (flushed c c.dbl.flushFor) fun d => { d with flushing := false, flushFor := [] })) s

/-- KEEPALIVE (R292): every 10,000 ticks. -/
def execKeepalive (t : Nat) (s : State) : Host.Outcome State Fault Refusal :=
  let c := advance s.toChip t
  event "KEEPALIVE" (paired s.toChip && s.dbl.kaNext ≤ nowAt s.toChip t)
    (emit (modDbl c fun d => { d with kaNext := now c + 10000 }) (.bridge 15 [])) s

/-! The split (R292 to R294). -/

/-- A launch with a Run node staged or running on the partner's clusters ends with CORE_FENCED; nothing of theirs is left (R293). -/
def lostClusters (c : Chip) : Chip :=
  let far := c.pat.clusters.filter fun k => 8 ≤ k.1
  let ns := far.flatMap fun k => k.2.staged.map (fun r => (r.q, r.e, r.n)) ++ k.2.cores.map fun r => (r.2.q, r.2.e, r.2.n)
  let c := { c with pat := { c.pat with clusters := c.pat.clusters.filter fun k => k.1 < 8 } }
  ns.foldl (fun c r => setFinal c r.1 r.2.1 6 (r.2.2 % 4096)) c

/-- Is an entry's frame on the other die? -/
def frameLost (c : Chip) (v : Nat) : Bool := eRes v && bit v 31 != c.unit1

/-- Grains with frames on the partner's die turn FAR without write-back; dirty ones are counted, with one Alert (R294). -/
def lostGrains (c : Chip) : Chip :=
  let bad := c.geo.maps.flatMap fun m => (m.2.entries.filter fun e => frameLost c e.2).map fun e => (m.1, e.1, e.2)
  let dirty := (bad.filter fun x => eDirty x.2.2).length
  let c := bad.foldl (fun c x => putEntry c (x.1 / 16) (x.1 % 16) x.2.1 (toFar x.2.2)) c
  if dirty = 0 then c else raiseEv (stat c 0x704A 6 dirty) 183 0 2 0

/-- A launch that waits on a cross-link flush ends with BUS_ERROR, also one whose final status was DONE (R296). -/
def lostFlush (c : Chip) : Chip :=
  (c.pat.launches.filter fun x => x.2.bridge && atFlushPoint c x.2).foldl (fun c x =>
    let l := x.2
    if l.final = noFinal then setFinal c l.q l.e 9 0xFFFF
    else if l.final ≤ 1 then modLaunch c l.q l.e fun y => { y with final := 9, endNode := 0xFFFF } else c) c

/-- The partner's die cannot be reached (R294, R296). -/
def isolate (c : Chip) : Chip := lostGrains (lostFlush (modDbl c fun d => { d with kind := 2 }))

/-- SPLIT_ENTRY (R292, R293): this unit is the lead, its copies stand; 1 PARTNER_ROUGH, 2 ISOLATED. -/
def splitEnter (c : Chip) (kind : Nat) : Chip :=
  let c := { c with mode := .split, dbl := { c.dbl with state := 4, kind := kind, lead := unitNo c, tick := now c, drained := false } }
  let c := pairOver (lostClusters (raiseEv c 183 0 2 0))
  react (if kind = 2 then isolate c else c)

/-- The bridge is lost (R281, R292). -/
def bridgeLost (c : Chip) : Chip :=
  let c := modDbl c fun d => { d with bridge := 0 }
  if joining c then joinFail c 1
  else if c.mode = .doublet then splitEnter c 2
  else if c.mode = .split && c.dbl.kind = 1 then react (isolate c)
  else c

/-- BRIDGE_LOSS_TIMEOUT (R281, R292): the link went down, or nothing arrived for the Bridge loss time; a link that does not train in 2,000,000
ticks ends a join. -/
def execBridgeLossTimeout (t : Nat) (s : State) : Host.Outcome State Fault Refusal :=
  let c := s.toChip
  event "BRIDGE_LOSS_TIMEOUT" (linkedUp c || (joining c && c.dbl.joinStart + 2000000 ≤ nowAt c t)) (bridgeLost (advance c t)) s

/-- FATAL arrives (R292, R296). -/
def partnerFatal (c : Chip) : Chip :=
  if joining c then joinFail c 6
  else
    let c := modDbl c fun d => { d with partnerRough := true }
    if c.mode = .doublet then splitEnter c 1 else c

/-- PARTNER_FATAL (R292). -/
def execPartnerFatal (s : State) : Host.Outcome State Fault Refusal :=
  event "PARTNER_FATAL" (linkedUp s.toChip && (joining s.toChip || s.dbl.wasJoined)) (partnerFatal s.toChip) s

/-- DRAINED arrives (R293): it stands in for FLUSH_DONE (R296), and bumps may pass step 4. -/
def partnerDrained (c : Chip) : Chip :=
  let c := modDbl c fun d => { d with drained := true }
  react (flushed c ((c.pat.launches.filter fun x => x.2.bridge).map fun x => (x.2.q, x.2.e)))

/-- PARTNER_DRAINED (R293). -/
def execPartnerDrained (s : State) : Host.Outcome State Fault Refusal :=
  event "PARTNER_DRAINED" (linkedUp s.toChip && s.mode == .split && s.dbl.kind == 1 && !s.dbl.drained) (partnerDrained s.toChip) s

/-! Taking a mirrored entry (R287, R288). The layout is that of `mirrorContent`. -/

/-- A segment descriptor with the fields that software cannot write. -/
def segWhole (v : Nat) : Seg := { segOf v with tableBase := bits v 256 40, effGen := bits v 384 32 }

/-- The facet tables that follow a Space's segments. -/
def tabsOf (bs : Bytes) : Nat → Tab FacetTab
  | 0 => []
  | n + 1 =>
    if bs.isEmpty then []
    else
      let k := bfld bs 9 4
      let t : FacetTab := ⟨bfld bs 1 8, roundUp (16 * k) 0x200000, facetsOf (bs.drop 13) k⟩
      tset (tabsOf (bs.drop (13 + 16 * k)) n) (bfld bs 0 1) t

/-- Segment `n` of a Space as the other unit has it; answers the runs and frames of what it replaces. -/
def takeSeg (c : Chip) (sp n : Nat) (s : Seg) : Chip × List Nat × List Nat :=
  if getSeg (getSpace c sp) n = s then (c, [], [])
  else
    let w := withdrawSeg c sp n
    let c := putSeg (if s.kind = 3 then installMap w.1 sp n s else w.1) sp n s
    (tableServe c (if s.kind = 3 then s.tableId else 0), w.2)

/-- The waiting bumps of a Space that a new generation serves (R288): a hard bump serves every one, a drain mark only drain marks. -/
def serveBumps (c : Chip) (sp g : Nat) (hard : Bool) : Chip :=
  { c with sp := { c.sp with bumps := c.sp.bumps.map fun b =>
      if b.space == sp && b.phase == .waiting && (hard || !b.hard) then { b with phase := .draining, gen := g } else b } }

/-- Runs and frames of replaced segments are released when the older generations have drained. -/
def releaseLater (c : Chip) (sp g : Nat) (runs frames : List Nat) : Chip :=
  if runs.isEmpty && frames.isEmpty then c
  else
    let b : Bump := ⟨freshBump c, sp, true, [], .none, .draining, g, 0, now c, true, runs.map fun r => (r, 0), frames⟩
    { c with sp := { c.sp with bumps := c.sp.bumps ++ [b], nextBump := freshBump c + 1 } }

/-- A Space as the other unit has it (R288). -/
def takeSpace (c : Chip) (n : Nat) (bs : Bytes) : Chip :=
  let old := getSpace c n
  let g := bfld bs 1 4
  let hard := bfld bs 17 1 == 1
  let c := setObj (setObj c (0x3000 + n) 7 (bfld bs 5 4)) (0x3000 + n) 8 (bfld bs 9 8)
  let w := (upFrom 0 16).foldl (fun r i =>
    let x := takeSeg r.1 n i (segWhole (bfld bs (18 + 64 * i) 64))
    (x.1, r.2.1 ++ x.2.1, r.2.2 ++ x.2.2)) (c, ([] : List Nat), ([] : List Nat))
  let c := modSpace w.1 n fun x => { x with
    state := bfld bs 0 1, gen := g, tabs := tabsOf (bs.drop 1042) 16, wrote := if g = old.gen then x.wrote else wroteTurn g x.wrote }
  let c := releaseLater c n g w.2.1 w.2.2
  if g = old.gen then c
  else serveBumps (if hard then retranslate c n fun _ => true else c) n g hard

/-- A Pattern as the other unit has it. -/
def takePattern (c : Chip) (n : Nat) (bs : Bytes) : Chip :=
  let st := bfld bs 0 1
  patternsChanged (modPat c n fun x =>
    if st = 0 then { Pattern.reset with running := x.running }
    else { x with
      state := st, gran := bfld bs 1 4, granLen := bfld bs 5 4, image := bs.drop 9
      est := if x.state != 2 && st = 2 then obj c 0x4402 4 * 1000 else x.est })

/-- A table as the other unit has it: a new epoch makes the pinned one the older (R166, R285). -/
def takeTable (c : Chip) (n : Nat) (bs : Bytes) : Chip :=
  let e := bfld bs 1 4
  let c := setObj c (0x3800 + n) 1 (bfld bs 57 32)
  let old := getTable c n
  let c := modTable c n fun x => { x with
    state := bfld bs 0 1, epoch := e, newest := e, lastSeq := bfld bs 5 4, lineage := (bs.drop 9).take 48 }
  if old.state = 2 && bfld bs 0 1 = 2 && e != old.epoch then
    startRelease (modTable c n fun x => { x with older := 1, pins1 := x.pins0, pins0 := 0, publishTick := now c, alerted := false }) n
  else c

/-- Take the content of an entry. -/
def takeMirror (c : Chip) (k : MirrorKind) (n : Nat) (bs : Bytes) : Chip :=
  match k with
  | .space => takeSpace c n bs
  | .pattern => takePattern c n bs
  | .table => takeTable c n bs
  | .lapidary => setObj (setObj (setObj c 0x3800 1 (bfld bs 0 8)) 0x3800 6 (bfld bs 8 4)) 0x3800 7 (bfld bs 12 8)
  | .package => setObj c 0x44F0 1 (bfld bs 0 4)

/-- Is an entry's number in range (R54, R155, R214)? -/
def mirrorNum (k : MirrorKind) (n : Nat) : Bool :=
  match k with
  | .space | .pattern => n < 1024
  | .table => 1 ≤ n && n ≤ 255
  | .lapidary | .package => n == 0

/-- Is the content one of the layout? -/
def mirrorFits (k : MirrorKind) (bs : Bytes) : Bool :=
  match k with
  | .space => 1042 ≤ bs.length && bfld bs 0 1 ≤ 4
  | .pattern => 9 ≤ bs.length && bfld bs 0 1 ≤ 4
  | .table => bs.length == 93 && bfld bs 0 1 ≤ 2
  | .lapidary => bs.length == 20
  | .package => bs.length == 4

/-! Updates, acknowledgements, the audit (R287 to R290). -/

/-- How far a sequence lies ahead of another, modulo 2^32 (R287, R289). -/
def seqAhead (a b : Nat) : Nat := (a % 2 ^ 32 + 2 ^ 32 - b % 2 ^ 32) % 2 ^ 32

/-- The header of a message about an entry. -/
def entryHead (k : MirrorKind) (n s : Nat) : Bytes := leBytes 8 (pack [(mirrorCode k, 1), (0, 1), (n, 2), (s, 4)])

/-- An update, or a copy of a whole entry, arrives (R287, R289): applied when it is the next one or a whole copy; ignored when it is not
newer; the whole entry is requested when it skips ahead. -/
def mirrorUpdate (c : Chip) (k : MirrorKind) (n s : Nat) (whole : Bool) (bs : Bytes) : Chip :=
  let key := mirrorKey k n
  let own := seqOf c key
  if whole || c.dbl.remirror.contains key || seqAhead s own = 1 then
    let c := modDbl c fun d => { d with seqs := tset d.seqs key (s % 2 ^ 32), partner := tset d.partner key (s % 2 ^ 32), remirror := d.remirror.filter (· != key) }
    let c := emit (stat (takeMirror c k n bs) 0x704A 3 1) (.bridge 16 (entryHead k n s))
    react c
  else if 1 < seqAhead s own && seqAhead s own < 2 ^ 31 then emit c (.bridge 13 (entryHead k n own))
  else c

/-- MIRROR_UPDATE (R287): at unit 1 in a join or in DOUBLET; at unit 0 only an entry that it has asked for. -/
def execMirrorUpdate (k : MirrorKind) (num seq : Nat) (content : Bytes) (s : State) : Host.Outcome State Fault Refusal :=
  let c := s.toChip
  let due := linkedUp c && mirrorNum k num && !content.isEmpty && mirrorFits k (content.drop 1)
    && (if c.unit1 then joining c || c.mode == .doublet else c.mode == .doublet && c.dbl.remirror.contains (mirrorKey k num))
  event "MIRROR_UPDATE" due (mirrorUpdate c k num seq (bfld content 0 1 == 1) (content.drop 1)) s

/-- The first change of an entry that waits. -/
def firstWait (c : Chip) (k : MirrorKind) (n : Nat) : Option MirrorWait := c.dbl.waits.find? fun w => w.kind == k && w.num == n

/-- Unit 1 holds an entry again (R290): it is frozen no longer; a Space takes a hard bump that software did not request. -/
def unfreeze (c : Chip) (k : MirrorKind) (n : Nat) : Chip :=
  if isFrozen c k n && (firstWait c k n).isNone then
    let c := modDbl c fun d => { d with frozen := d.frozen.filter (· != (k, n)) }
    thaw c k n
  else c

/-- Unit 1's acknowledgement (R287): the write's response is posted; an internal change is complete. -/
def mirrorAck (c : Chip) (k : MirrorKind) (n : Nat) : Chip :=
  match firstWait c k n with
  | none => c
  | some w =>
    let c := modDbl c fun d => { d with waits := ldel d.waits (· == w), partner := tset d.partner (mirrorKey k n) w.seq }
    let c := match w.req with
      | some (src, rq) => post c src rq 0 (totalOf c rq) []
      | none => c
    react (unfreeze c k n)

/-- MIRROR_ACK (R287). -/
def execMirrorAck (k : MirrorKind) (num : Nat) (s : State) : Host.Outcome State Fault Refusal :=
  let c := s.toChip
  event "MIRROR_ACK" (leadsMirror c && linkedUp c && (firstWait c k num).isSome) (mirrorAck c k num) s

/-- The digest of an entry that the audit compares: that of its content, whatever bump it is in. -/
def auditDigest (c : Chip) (k : MirrorKind) (n : Nat) : Bytes := sha384 (mirrorContent { c with sp := { c.sp with bumps := [] } } k n)

/-- An entry freezes (R290). -/
def freeze (c : Chip) (k : MirrorKind) (n : Nat) : Chip :=
  let c := modDbl c fun d => { d with frozen := if d.frozen.contains (k, n) then d.frozen else d.frozen ++ [(k, n)] }
  if k == .space && (getSpace c n).state = 2 then setSpState c n 4 else c

/-- Unit 0's copy is written over unit 1's, and its acknowledgement is waited for. -/
def overwrite (c : Chip) (k : MirrorKind) (n : Nat) : Chip :=
  let s := seqOf c (mirrorKey k n)
  sendMirror (modDbl c fun d => { d with waits := d.waits ++ [⟨k, n, s, none⟩] }) k n s true

/-- One entry of the audit, with the partner's sequence and digest (R289). -/
def audit (c : Chip) (k : MirrorKind) (n s : Nat) (digest : Bytes) : Chip :=
  let key := mirrorKey k n
  let own := seqOf c key
  let c := modDbl c fun d => { d with partner := tset d.partner key (s % 2 ^ 32) }
  if own != s % 2 ^ 32 then
    let c := raiseEv (stat c 0x704A 4 1) 182 n 1 (mirrorCode k)
    if seqAhead own s < 2 ^ 31 then overwrite c k n
    else emit (modDbl c fun d => { d with remirror := d.remirror ++ [key] }) (.bridge 13 (entryHead k n own))
  else if digest = auditDigest c k n then c
  else overwrite (freeze (raiseEv (stat c 0x704A 5 1) 182 n 2 (mirrorCode k)) k n) k n

/-- MIRROR_AUDIT (R289): an entry with an update in flight is passed over; a period of 0 turns the audit off. -/
def execMirrorAudit (k : MirrorKind) (num seq : Nat) (digest : Bytes) (s : State) : Host.Outcome State Fault Refusal :=
  let c := s.toChip
  event "MIRROR_AUDIT" (leadsMirror c && linkedUp c && mirrorNum k num && obj c 0x4900 5 != 0 && (firstWait c k num).isNone && digest.length == 48)
    (audit c k num seq digest) s

end Sys2Proof.Machine
end

