-- ==== Sys2Proof/Machine/Bringup.lean ====
section
/-! DEFINITION. From power to the first Rough entry (R399 to R402), unit reset (R15), the load of the configuration store (R46, R48) and the mode
request (R15, R279). -/

namespace Sys2Proof.Machine

/-! Power and reset. -/

/-- Change the progress of the power-on sequence. -/
def modBoot (c : Chip) (f : BootSt → BootSt) : Chip := { c with boot := f c.boot }

/-- UNIT_PWRGOOD_ASSERT (R399 step 1): the always-on logic runs. -/
def execUnitPwrgoodAssert (s : State) : Host.Outcome State Fault Refusal :=
  event "UNIT_PWRGOOD_ASSERT" (!s.boot.pwrgood) (modBoot s.toChip fun b => { b with pwrgood := true }) s

/-- Sticky bits after a unit reset: they stand, and an event that had reached the always-on logic has set its own (R351). -/
def stickyKept (c : Chip) : Nat := c.toc.raised.foldl (fun m e => setBit m e.src true) c.toc.sticky

/-- A host port after a unit reset: at reset, with its PERST pin where it is (R318). -/
def portKept (p : Port) : Port := { Port.reset with perst := p.perst, link := if p.perst then 5 else 0 }

/-- What the external flash keeps of the firmware: both banks and which of them is active (R373). -/
def fwKept (f : FwSt) : FwSt := { Chip.reset.sec.fw with bank := f.bank, running := f.running, staged := f.staged }

/-- What a unit reset leaves (R15): everything at reset but the side-band, the sticky bits, the pins, the die position, and what lies outside
the unit's registers: the flash with its log. The fabric gives the unit its node number (R255). -/
def unitReset (c : Chip) (pin : ResetPin) : Chip :=
  let r := Chip.reset
  let lost := pin == .alwaysOn
  { r with
    unit1 := c.unit1
    boot := { r.boot with pwrgood := pin == .rstN && c.boot.pwrgood }
    dict := { r.dict with sb := if lost then r.dict.sb else c.dict.sb }
    toc := { r.toc with sticky := if lost then 0 else stickyKept c }
    port := ⟨portKept c.port.a, portKept c.port.b⟩
    sec := { r.sec with
      fw := fwKept c.sec.fw
      meas := { r.sec.meas with logTotal := c.sec.meas.logTotal, log := c.sec.meas.log, chain := c.sec.meas.chain } }
    peer := { r.peer with node := Config.fabricNode c.unit1 }
    free := c.free
    out := c.out }

/-- UNIT_RESET (R15, R351): UNIT_RST_N or the loss of UNIT_PWRGOOD needs that UNIT_PWRGOOD was up. -/
def execUnitReset (pin : ResetPin) (s : State) : Host.Outcome State Fault Refusal :=
  event "UNIT_RESET" (s.boot.pwrgood || pin == .alwaysOn) (unitReset s.toChip pin) s

/-- The domains with a FIRC fallback, as a mask of `sel`: all with a multiplexer but SBCLK, whose normal source is FIRC (R339, R399 step 2). -/
def fallbackMask : Nat := 0x1A8070F

/-- RESET_RELEASE (R399 step 2): both pins were high in 4 AONCLK cycles; every domain with a fallback is on it. -/
def execResetRelease (s : State) : Host.Outcome State Fault Refusal :=
  event "RESET_RELEASE" (s.boot.pwrgood && !s.boot.rstN)
    (modClk (modBoot s.toChip fun b => { b with rstN := true }) fun k => { k with sel := fallbackMask }) s

/-! Sources that become ready (R338, R342). -/

/-- Start a PLL that is OFF. -/
def startIfOff (c : Chip) (k : Nat) : Chip :=
  if pllState c k = 0 then modClk (setPll c k 1) fun x => { x with pllAt := x.pllAt.set k x.carillon } else c

/-- May the boot sequencer start the PLLs of a reference: the store is loaded and the unit boots, or the reference was late (R399 step 4)? -/
def bootStarts (c : Chip) (late : Bool) : Bool := c.boot.storeLoaded && (c.mode == .boot || late)

/-- The PLLs that the boot sequencer starts: PLL-T, PLL-L and PLL-C once XREF0 is ready, PLL-K once XREF1 is. -/
def bootPlls (c : Chip) : Chip :=
  let c := if c.clk.xref0 && bootStarts c c.boot.xref0Late then startIfOff (startIfOff (startIfOff c 0) 1) 2 else c
  if c.clk.xref1 && bootStarts c c.boot.xref1Late then startIfOff c 3 else c

/-- Arm a monitor, once trims are loaded (R342). -/
def armMonitor (c : Chip) (m : Nat) : Chip :=
  if c.boot.storeLoaded then modClk c fun k => { k with armed := setBit k.armed m true } else c

/-- Does the reference of a PLL run: XREF0, XREF1 or FIRC by its REF (R337)? -/
def pllRefRuns (c : Chip) (k : Nat) : Bool :=
  let r := fld (obj c (0x1310 + k) 1) 0 1
  if r = 0 then c.clk.xref0 else if r = 1 then c.clk.xref1 else c.clk.firc

/-- Can a source complete its ready count: reset released, the source not ready; a PLL locking on a running reference? -/
def dueSourceReady (c : Chip) (s : ClkSrc) : Bool :=
  c.boot.rstN &&
  match s with
  | .firc => !c.clk.firc
  | .xref0 => !c.clk.xref0
  | .xref1 => !c.clk.xref1
  | .pll k => k < 4 && pllState c k == 1 && pllRefRuns c k

/-- A source is ready (R326, R338, R342, R399): FIRC's first ready count starts Carillon at 0. -/
def sourceReady (s : ClkSrc) (c : Chip) : Chip :=
  match s with
  | .firc =>
    let c := if c.boot.fircOn then c
      else modClk (modBoot c fun b => { b with fircOn := true }) fun k => { k with carillon := 0, half := false }
    armMonitor (modClk c fun k => { k with firc := true }) 0
  | .xref0 => armMonitor (bootPlls (modClk c fun k => { k with xref0 := true })) 1
  | .xref1 => armMonitor (bootPlls (modClk c fun k => { k with xref1 := true })) 2
  | .pll k => armMonitor (setPll c k 2) (3 + k)

/-- SOURCE_READY (R338). -/
def execSourceReady (src : ClkSrc) (s : State) : Host.Outcome State Fault Refusal :=
  event "SOURCE_READY" (dueSourceReady s.toChip src) (sourceReady src s.toChip) s

/-! The configuration store (R46, R48). -/

/-- SEQ of a copy. -/
def copySeq (b : Bytes) : Nat := bfld b 4 4

/-- The body of a copy. -/
def copyBody (b : Bytes) : Bytes := (b.drop 64).take (bfld b 8 4)

/-- The state of a copy (object 0x10F0.04): 2 blank, 1 digest or magic failure, 0 intact. -/
def copyState (b : Bytes) : Nat :=
  if copySeq b = 0 || copySeq b = 0xFFFFFFFF then 2
  else if bfld b 0 4 = 0x4B595A43 && (copyBody b).length = bfld b 8 4 && sha384 (b.take 16 ++ copyBody b) = (b.drop 16).take 48 then 0
  else 1

/-- The load table of R48: the copy loaded (0 A, 1 B, 2 none) and the load result. -/
def loadChoice (a b : Bytes) : Nat × Nat :=
  let ia := copyState a == 0
  let ib := copyState b == 0
  if ia && ib then
    (if copySeq a = copySeq b then (0, if a.take 64 ++ copyBody a = b.take 64 ++ copyBody b then 2 else 3)
     else (if copySeq b < copySeq a then 0 else 1, 0))
  else if ia then (0, 1)
  else if ib then (1, 1)
  else (2, 4)

/-- Take the value of one record: a C object whose type and size are the record's, its reserved bits as 0 (R7); any other record is passed over
(DEDUCED, log 64). -/
def loadRecord (c : Chip) (i s typ size v : Nat) : Chip :=
  if storeObjects.any fun x => x.1 == i && x.2.1 == s && x.2.2.typ == typ && x.2.2.size == size then setObj c i s (storedVal i s v) else c

/-- The records of a body, one after another (R46). -/
def loadRecords (c : Chip) (bs : Bytes) : Nat → Chip
  | 0 => c
  | n + 1 =>
    if bs.length < 8 then c
    else
      let size := bfld bs 4 4
      loadRecords (loadRecord c (bfld bs 0 2) (bfld bs 2 1) (bfld bs 3 1) size (bfld bs 8 size)) (bs.drop (8 + roundUp size 8)) n

/-- The store event of source 185 (R48, R350): a Note for result 1, an Alert for 3 and 4, with the result as its element. -/
def loadEvent (c : Chip) (r : Nat) : Chip :=
  if r = 1 then raiseEv c 185 r 1 0 else if r = 3 || r = 4 then raiseEv c 185 r 2 0 else c

/-- A host port whose PERST pin is deasserted takes the loaded protocol and role (R299). -/
def strapIfUp (c : Chip) (p : HPort) : Chip := if (getPort c p).perst then c else portStrap c p

/-- Step 4 of R399: one copy is loaded, C objects take their values, the FIRC monitor is armed, PLLs whose reference is ready start. A Time
source other than NONE takes the discipline to ACQUIRING (R333). -/
def storeLoad (a b : Bytes) (c : Chip) : Chip :=
  let ch := loadChoice a b
  let img := if ch.1 = 0 then a else if ch.1 = 1 then b else []
  let seq := fun (x : Bytes) => if copyState x = 0 then copySeq x else 0
  let c := { c with dict := { c.dict with store := { c.dict.store with
    active := ch.1, seqA := seq a, seqB := seq b, stA := copyState a, stB := copyState b, loadResult := ch.2 } } }
  let c := loadEvent (loadRecords c (copyBody img) ((copyBody img).length / 8)) ch.2
  let c := modBoot c fun x => { x with storeLoaded := true, storeTick := now c }
  let c := if ch.1 = 2 then c else storeMeasured c ((img.drop 16).take 48)
  let c := if timeSource c = 0 then c else modDisc c fun d => { d with state := 1, since := now c }
  let c := armMonitor c 0
  let c := if c.clk.xref0 then armMonitor c 1 else c
  let c := if c.clk.xref1 then armMonitor c 2 else c
  bootPlls (strapIfUp (strapIfUp c .a) .b)

/-- STORE_LOAD (R48): both copies have been read, from FIRC's ready count on. -/
def execStoreLoad (a b : Bytes) (s : State) : Host.Outcome State Fault Refusal :=
  event "STORE_LOAD" (s.boot.fircOn && !s.boot.storeLoaded) (storeLoad a b s.toChip) s

/-! The boot sequencer's clock switches (R399 steps 5 and 7, R401). -/

/-- The domains that step 5 switches to NORMAL: TCLK, NCLK, LCLK_A/B, OECLK_A/B, CCLK, MCLK, DCLK, BCLK. -/
def bootDomains : List Nat := [1, 2, 3, 4, 9, 10, 11, 20, 24, 25]

/-- Step 6 (R399, R376): MCLK runs, and the recovery loader asks the root of trust for what it needs. -/
def startLoader (c : Chip) : Chip :=
  [RotFor.serial, .keyDigest, .verifySig, .counterRead, .tenancyRead].foldl rotAsk (modBoot c fun b => { b with mclkRuns := true })

/-- Does a meter count lie within 5 % of the one expected (R344)? -/
def withinFive (count want : Nat) : Bool := 20 * (if count < want then want - count else count - want) ≤ want

/-- The boot sequencer has measured FIRC against XREF0 over 4,000 cycles, or against XREF1 over 250, and found it within 5 % of nominal (R344,
R399): the meter shows the result, and the domains switch. -/
def bootSwitch (kclk : Bool) (count : Nat) (c : Chip) : Chip :=
  let c := modClk c fun k => { k with
    meter := 2, meterW := if kclk then 250 else 4000, meterM := 0, meterR := if kclk then 3 else 2, meterCount := count }
  if kclk then modBoot (setMux c 22 false 0) fun b => { b with kclkDone := true }
  else startLoader (bootDomains.foldl (fun c d => setMux c d false 0) c)

/-- BOOT_CLOCK_SWITCH is due: the PLLs are READY, the reference was not late, the switch has not been made, the meter is not RUNNING. -/
def dueBootSwitch (c : Chip) (kclk : Bool) (count : Nat) : Bool :=
  c.boot.storeLoaded && c.clk.firc && c.clk.meter != 1 &&
  if kclk then pllState c 3 == 2 && c.clk.xref1 && !c.boot.kclkDone && !c.boot.xref1Late && withinFive count 4000
  else (pllState c 0 == 2 && pllState c 1 == 2 && pllState c 2 == 2) && c.clk.xref0 && !c.boot.mclkRuns && !c.boot.xref0Late
    && withinFive count 16000

/-- BOOT_CLOCK_SWITCH (R399). -/
def execBootClockSwitch (kclk : Bool) (count : Nat) (s : State) : Host.Outcome State Fault Refusal :=
  event "BOOT_CLOCK_SWITCH" (dueBootSwitch s.toChip kclk count) (bootSwitch kclk count s.toChip) s

/-- An external reference is late (R401): the Severe event of its monitor; without XREF0, step 6 runs with MCLK on FIRC. -/
def xrefLate (x : Bool) (c : Chip) : Chip :=
  if x then raiseEv (modBoot c fun b => { b with xref1Late := true }) 2 0 3 0
  else startLoader (raiseEv (modBoot c fun b => { b with xref0Late := true }) 1 0 3 0)

/-- XREF_READY_TIMEOUT (R401): XREF0 (`x` false) or XREF1 is not ready 10,000,000 ticks after step 4. -/
def execXrefReadyTimeout (x : Bool) (t : Nat) (s : State) : Host.Outcome State Fault Refusal :=
  let c := s.toChip
  let open_ := if x then !c.clk.xref1 && !c.boot.kclkDone && !c.boot.xref1Late else !c.clk.xref0 && !c.boot.mclkRuns
  event "XREF_READY_TIMEOUT" (c.boot.storeLoaded && open_ && c.boot.storeTick + 10000000 ≤ nowAt c t) (xrefLate x (advance c t)) s

/-! The end of BOOT (R15, R374, R399 step 8). -/

/-- The active bank's checks can end: the loader runs in BOOT, and the root of trust has answered or failed. -/
def bootVerified (c : Chip) : Bool := c.mode == .boot && c.boot.mclkRuns && !verifyPending c

/-- Configuration space becomes ready on a port whose link is up (R319). -/
def portReady (c : Chip) (p : HPort) : Chip := modPort c p fun s => { s with ready := linkIsUp c p }

/-- MODE reads ROUGH: the first Rough entry, settled at once, with no cause (R15, R362). -/
def enterFirst (c : Chip) : Chip :=
  portReady (portReady { c with mode := .rough, rough := ⟨1, true, 0xFFFF, 0, now c⟩ } .a) .b

/-- The lowest source at FATAL. -/
def lowestFatal (c : Chip) : Option Nat := (c.toc.srcs.find? fun x => x.2.level == 4).map (·.1)

/-- The firmware is released (R15): the running VERSION and SVN are those of the active bank. A Fatal that was taken in BOOT makes the entry
one after a Fatal (DEDUCED from R15: a Fatal in the first Rough entry does so). -/
def firmwareRelease (c : Chip) : Chip :=
  let b := c.sec.fw.running
  let c := modFw c fun f => { f with runVersion := bfld b 4 4, runSvn := bfld b 8 4 }
  let c := enterFirst (blockChanged c 1)
  match lowestFatal c with
  | some n => fatal c n
  | none => c

/-- FIRMWARE_RELEASE (R15, R374): every check of the active bank has passed. -/
def execFirmwareRelease (s : State) : Host.Outcome State Fault Refusal :=
  event "FIRMWARE_RELEASE" (bootVerified s.toChip && verifyReason s.toChip s.sec.fw.running true == 0) (firmwareRelease s.toChip) s

/-- Can the verification of the active bank end with a REASON (R374): the first check that fails, a flash read that failed (6), or the
in-memory check (4)? -/
def bootReason (c : Chip) (reason : Nat) : Bool :=
  let r := verifyReason c c.sec.fw.running true
  reason != 0 && (reason == r || (reason == 6 && (r == 0 || r == 7)) || (reason == 4 && r == 0))

/-- The block that the event of source 186 names: the first that fails its digest; a failure of the in-memory check alone names one that the
model does not know, a free value. -/
def badBlock (c : Chip) (reason : Nat) : Nat × Chip :=
  let b := c.sec.fw.running
  if reason != 4 then (0, c)
  else match (upFrom 0 (bunBlocks b)).find? fun k => !blockOk b k with
    | some k => (k, c)
    | none => takeFree c 11

/-- Verification failed at reset (R15, R362, R374): the recovery loader stays, the Fatal is recorded on source 186, the log records KIND 8. -/
def verifyFailed (reason : Nat) (c : Chip) : Chip :=
  let c := modFw c fun f => { f with loader := true, reason := reason }
  let x := badBlock (logAdd c 8 1 reason []) reason
  let c := stat (takeEvent x.2 186 x.1 4 0) 0x7050 4 1
  let c := enterFirst c
  { c with rough := { c.rough with kind := 2, cause := 186 } }

/-- FIRMWARE_VERIFY_FAIL_AT_RESET (R374). -/
def execFirmwareVerifyFailAtReset (reason : Nat) (s : State) : Host.Outcome State Fault Refusal :=
  event "FIRMWARE_VERIFY_FAIL_AT_RESET" (bootVerified s.toChip && bootReason s.toChip reason) (verifyFailed reason s.toChip) s

/-! The mode request (R15, R16, R279, R281). -/

/-- The join begins (R280 step 1): unit 0's Join status reads JOINING, bit 18 is set, the bridge trains; a bridge that is UP goes on at
once. -/
def startJoin (c : Chip) : Chip :=
  let up := linkedUp c
  let c := modClk (modDbl c fun d => { d with
    state := 1, reason := 0, joinStep := 1, joinStart := now c, tick := now c, bridge := if up then 2 else 1 }) fun k => { k with
      enables := setBit k.enables 18 true }
  if up then bridgeTrained c else c

/-- The unit goes to NORMAL alone (R15); a join that runs on it ends, and the other unit is told (R281). An Align that met no sample is over
(DEDUCED, log 127). -/
def goNormal (c : Chip) : Chip :=
  let c := if joining c then emit (joinFail c 2) (.bridge 11 [2]) else c
  modDisc { c with mode := .normal, rough := { c.rough with kind := 0 } } fun d => { d with align := false }

/-- Mode request, object 0x1100.02 (R15, R279): 2 only, and only in the first Rough entry after reset. -/
def modeRequest (v : Nat) (c : Chip) : Nat × Chip :=
  if v != 2 then (5, c)
  else if !firstRough c then (7, c)
  else if joinRequest c then (if c.unit1 || c.dbl.state = 1 then (7, c) else (0, startJoin c))
  else if c.dbl.state = 1 then (7, c)
  else (0, goNormal c)

/-- MODE_REQUEST (R15). -/
def execModeRequest (src : Src) (tag v : Nat) (s : State) : Host.Outcome State Fault Refusal :=
  let rq := writeReq tag 0x1100 2 (leBytes 1 v)
  event "MODE_REQUEST" (presents s.toChip src rq) (serve (modeRequest (v % 256)) src rq s.toChip) s

end Sys2Proof.Machine
end

