-- ==== Sys2Proof/Machine/ReadObj.lean ====
section
/-! DEFINITION. The value that a READ of each object returns (R24, R45 and the object tables): objects that report the unit's state are computed
from it, the others hold what was written. -/

namespace Sys2Proof.Machine

/-- Identity, configuration store, mode and clock enables (R16, R49, R51, R348). -/
def readUnit (c : Chip) (i s : Nat) : Option Nat :=
  let st := c.dict.store
  if i = 0x1000 && s = 4 then some (unitNo c)
  else if i = 0x1000 && s = 6 then some c.boot.serial
  else if i = 0x1000 && s = 7 then some c.boot.keyDigest
  else if i = 0x1000 && s = 8 then some c.sec.fw.runVersion
  else if i = 0x10F0 && s = 1 then some st.active
  else if i = 0x10F0 && s = 2 then some st.seqA
  else if i = 0x10F0 && s = 3 then some st.seqB
  else if i = 0x10F0 && s = 4 then some st.stA
  else if i = 0x10F0 && s = 5 then some st.stB
  else if i = 0x10F0 && s = 6 then some st.loadResult
  else if i = 0x10F0 && s = 8 then some st.commit
  else if i = 0x1100 && s = 1 then some (modeCode c.mode)
  else if i = 0x1100 && s = 3 then some c.clk.enables
  else if i = 0x1100 && s = 4 then some (blocksBusy c)
  else none

/-- Link state (R324): a running FLR or shutdown reads SHUTDOWN on a link that is up (DEDUCED: the table gives the name alone). -/
def linkState (c : Chip) (p : HPort) : Nat := if (getPort c p).shut != 0 && linkIsUp c p then 6 else (getPort c p).link

/-- Shutdown status (R324). -/
def shutStatus (c : Chip) (p : HPort) : Nat :=
  let s := getPort c p
  let qs := (c.bel.queues.filter fun x => x.2.state == 5 && homePort c x.1 == p).length
  if s.shut = 0 then 0 else pack [(s.shut, 1), (0, 1), ((portReads c p).length, 2), (qs, 4)]

/-- Lines held (R274, R275): in state Shared, or pinned. -/
def linesHeld (c : Chip) (ok : Nat → Bool) : Nat := (c.coh.lines.filter fun x => (x.2.shared || x.2.pinned) && ok x.1).length

/-- The host ports and the gateways' unit-wide objects (R273, R274, R324). -/
def readPorts (c : Chip) (i s : Nat) : Option Nat :=
  let p := portOf (i == 0x1211)
  let x := getPort c p
  if i = 0x1210 || i = 0x1211 then
    (if s = 3 then some (linkState c p)
     else if s = 4 then some (pack [(x.rate, 1), (x.width, 1), (x.proto, 1), (b2n x.pool, 1), (b2n x.flitRefused, 1)])
     else if s = 9 then some x.epoch
     else if s = 0xA then some (b2n x.attached)
     else if s = 0xC then some (shutStatus c p)
     else if s = 0xD then some (pack [(x.oeLight, 2), (x.oeFault, 2), (x.oeTemp, 1), (x.oeState, 1), (0, 2), (x.oeTick, 8)])
     else if s = 0xF then some x.note
     else none)
  else if i = 0x12F0 && s = 2 then some (pack [(c.peer.status, 1), (c.peer.reason, 1), (c.peer.window, 1), (0, 1), (c.peer.setNo, 4)])
  else if i = 0x12F0 && s = 4 then some c.peer.node
  else if i = 0x12F0 && s = 5 then some c.peer.packets.length
  else if i = 0x12F1 && s = 1 then some (linesHeld c fun _ => true)
  else if i = 0x12F1 && s = 2 then some (pinnedLines c)
  else none

/-- Monitor `m` (R348): 0 NOT_ARMED, 1 OK, 2 FAILED. -/
def monitorState (c : Chip) (m : Nat) : Nat := if bit c.clk.monFail m then 2 else if bit c.clk.armed m then 1 else 0

/-- Carillon and the clocks (R348). -/
def readClocks (c : Chip) (i s : Nat) : Option Nat :=
  let d := c.clk.disc
  if i = 0x1300 then
    (if s = 1 then some (now c)
     else if s = 3 then some d.state
     else if s = 5 then some d.ppsNext
     else if s = 0xC then some (pack [((holdStatus c).1, 8), ((holdStatus c).2, 8), (d.holdTick, 8)])
     else if s = 0xD then some (pack [(toTwos 64 d.lastOff, 8), (d.lastTick, 8), (toTwos 32 d.steer, 4), (0, 4)])
     else none)
  else if 0x1310 ≤ i && i ≤ 0x1313 then (if s = 3 then some (pllState c (i - 0x1310)) else none)
  else if 0x1321 ≤ i && i ≤ 0x1339 then
    (let k := i - 0x1320
     if s = 1 then some (b2n (onFallback c k)) else if s = 2 then some (muxOf c k) else if s = 3 then some (domainFreq c k) else none)
  else if i = 0x1340 then
    (if s = 1 then some c.clk.armed
     else if s = 2 then some (pack ((upFrom 0 7).map fun m => (monitorState c m, 1)))
     else if s = 3 then some c.clk.lastFail
     else none)
  else if i = 0x1350 && s = 2 then some (pack [(c.clk.meter, 1), (0, 3), (c.clk.meterW, 4), (c.clk.meterCount, 4)])
  else none

/-- Queues (R199). -/
def readQueues (c : Chip) (i s : Nat) : Option Nat :=
  let q := getQueue c (i - 0x2000)
  if s = 1 then some q.state
  else if s = 6 then some (pack [(q.p, 4), (q.f, 4), (q.completed, 8)])
  else if s = 7 then some (b2n q.silent)
  else none

/-- Working-pool bytes of a region's cut list. -/
def listHeld (r : Option Region) : Nat := ((r.bind (·.block)).map (·.2)).getD 0

/-- Working-pool bytes held in cut lists (object 0x3400.04): of set descriptors, and of sides that are being cut. -/
def cutListHeld (c : Chip) : Nat :=
  (c.xf.sds.foldl (fun n d => n + listHeld (some d.2.src) + listHeld (some d.2.dst)) 0)
    + c.pat.launches.foldl (fun n l => l.2.nodes.foldl (fun n x => n + listHeld x.2.srcDone + listHeld x.2.dstDone) n) 0

/-- Spaces, Cutters and the facet loader (R55, R64, R83). -/
def readSpaces (c : Chip) (i s : Nat) : Option Nat :=
  let x := getSpace c (i - 0x3000)
  if i = 0x3400 then (if s = 1 then some c.toc.cutters else if s = 4 then some (cutListHeld c) else none)
  else if i = 0x3410 then
    (if s = 2 then some (pack [(c.sp.load.state, 1), (c.sp.load.reason, 1), (0, 2), (c.sp.load.index, 4)]) else none)
  else if s = 1 then some x.state
  else if s = 3 then some x.gen
  else if s = 4 then some (pack ((upFrom 0 4).map fun k => (x.drain.getD k 0, 2)))
  else if s = 5 then some x.wStat
  else if s = 6 then some x.wGen
  else if s = 9 then some x.lastFault
  else if s = 0xA then some x.faultCount
  else if 0x10 ≤ s then some (segVal (getSeg x (s - 0x10)))
  else none

/-- The Geode (R105). -/
def readGeode (c : Chip) (s : Nat) : Option Nat :=
  let b := c.geo.build
  if s = 5 then some (pack ((upFrom 0 4).map fun k => (listFree c k, 4)))
  else if s = 0x11 then some (pack [(b.state, 1), (b.reason, 1), (b.space, 2), (b.seg, 1), (0, 3), (b.filled, 8)])
  else if s = 0x13 then some (pack [(c.geo.flush.state, 1), (0, 3), (c.geo.flush.written, 4)])
  else if s = 0x14 then some c.geo.queue.length
  else if s = 0x16 then some c.geo.probe
  else if s = 0x17 then some (wpFreeBytes c)
  else none

/-- Transfer channels (R134). -/
def readChannels (c : Chip) (i s : Nat) : Option Nat :=
  let ch := i - 0x3600
  let x := getChan c ch
  if s = 1 then some x.state
  else if s = 7 then some x.lastErr
  else if s = 8 then some (c.xf.reqs.filter fun r => r.2.ch == ch).length
  else if s = 9 then some x.bound.length
  else none

/-- Lapidary and its tables (R173, R174). -/
def readLapidary (c : Chip) (i s : Nat) : Option Nat :=
  let t := i - 0x3800
  let x := getTable c t
  let a := c.lap.stat
  if t = 0 then
    (if s = 3 then some c.lap.posts.length
     else if s = 4 then some (pack [(a.state, 1), (a.reason, 1), (a.table, 1), (0, 1), (a.mseq, 4), (a.rows, 4), (a.grains, 4), (a.escaped, 4),
       (0, 4), (a.tick, 8)])
     else none)
  else if s = 3 then some x.state
  else if s = 4 then some x.epoch
  else if s = 5 then some x.older
  else if s = 6 then some (pack [(x.pins0, 4), (x.pins1, 4)])
  else if s = 7 then some x.lastSeq
  else if s = 8 then some (leNat (padTo 48 x.lineage))
  else if s = 9 then some (if x.state = 0 then 0 else tabEscSlots c t - x.slots.length)
  else if s = 0xA then some x.publishTick
  else none

/-- Patterns (R233). -/
def readPatterns (c : Chip) (i s : Nat) : Option Nat :=
  let x := getPat c (i - 0x4000)
  if s = 1 then some x.state
  else if s = 4 then some x.check
  else if s = 5 then some x.running
  else if s = 6 then some (x.granLen * 256)
  else none

/-- The tick of a slot's next boundary (R239, R253). -/
def nextBoundary (c : Chip) (s : Nat) : Nat :=
  let p := slotPeriod c s
  if now c % p = 0 && (getSlot c s).boundary != now c + 1 then now c else (now c / p + 1) * p

/-- The place of a slot's victim, 0xFF for none. -/
def victimPlace (c : Chip) (s : Nat) : Nat :=
  match (getSlot c s).victim.bind fun v => getLaunch c v.1 v.2 with
  | some l => l.place
  | none => 0xFF

/-- Slot status (R253). -/
def slotStatus (c : Chip) (s : Nat) : Nat :=
  pack [((ctxIn c s .resident).length, 1), ((ctxIn c s .outReady).length, 1), ((ctxIn c s .outBlocked).length, 1), (victimPlace c s, 1),
    ((getSlot c s).joins.length, 2), (0, 2), (nextBoundary c s, 8)]

/-- The front end, slots and the Pattern store (R214, R234, R253). -/
def readFrontEnd (c : Chip) (i s : Nat) : Option Nat :=
  let sel := obj c 0x4403 1
  if i = 0x4403 && s = 2 then some (estimate c sel)
  else if i = 0x4403 && s = 3 then some (imgSaveLines (getPat c sel).image)
  else if 0x4440 ≤ i && i ≤ 0x445F && s = 1 then some (slotStatus c (i - 0x4440))
  else if i = 0x44F0 && s = 2 then some (storeFree c * 256)
  else if i = 0x44F0 && s = 3 then some (largestRun c * 256)
  else if i = 0x44F0 && s = 4 then some c.pat.lastReject
  else none

/-- Peer windows and coherent windows (R273, R274). -/
def readWindows (c : Chip) (i s : Nat) : Option Nat :=
  let x := getWin c (i - 0x4800)
  let w := i - 0x4840
  if i ≤ 0x483F then
    (if s = 1 then some x.shadow else if s = 2 then some x.active else if s = 3 then some x.accepted else if s = 4 then some x.refusal else none)
  else if s = 3 then some (tgetD c.coh.wins w 0)
  else if s = 4 then some (linesHeld c (lineIn c w))
  else none

/-- The entry that Sequence select names (R297). -/
def selectedKey (c : Chip) : Nat := let v := obj c 0x4910 1; fld v 0 1 * 65536 + fld v 2 2

/-- Doublet (R297): the sequences read 0 when the unit is not joined; a bridge that is not UP trains while bit 18 is set (R60). -/
def readDoublet (c : Chip) (i s : Nat) : Option Nat :=
  let d := c.dbl
  if i = 0x4900 && s = 2 then some (pack [(d.state, 1), (d.reason, 1), (d.kind, 1), (d.lead, 1), (0, 4), (d.tick, 8)])
  else if i = 0x4900 && s = 7 then some (if d.bridge = 2 then 2 else b2n (enabled c 18))
  else if i = 0x4910 && s = 2 then
    some (if d.state = 2 then pack [(seqOf c (selectedKey c), 4), (tgetD d.partner (selectedKey c) 1, 4)] else 0)
  else none

/-- Source state (R368). -/
def sourceState (c : Chip) (n : Nat) : Nat :=
  let x := getSrc c n
  pack [(x.level, 1), (b2n (bit c.toc.sticky n) + 2 * b2n (isMasked c n) + 4 * b2n x.endTaken, 1), (x.count, 1), (0, 1), (x.total, 4),
    (if x.timerOn then x.timer else 0, 8)]

/-- Rough status (R369). -/
def roughStatus (c : Chip) : Nat :=
  let r := c.rough
  pack [(r.kind, 1), (b2n r.settled, 1), (r.cause, 2), (r.exitReason, 1), (0, 3), (r.tick, 8)]

/-- Tocsin (R361, R368 to R370). -/
def readTocsin (c : Chip) (i s : Nat) : Option Nat :=
  let n := i - 0x5000
  let x := getSrc c n
  if i ≤ 0x50BF then
    (if s = 1 then some (sourceState c n)
     else if s = 6 then some (pack [(x.lastTick, 8), (x.lastElem, 2), (x.lastLevel, 1), (0, 1), (x.lastDetail, 4)])
     else none)
  else if i = 0x5100 && s = 1 then some (roughStatus c)
  else if i = 0x5100 && s = 3 then some c.toc.sticky
  else if i = 0x5120 && s = 1 then some c.toc.channels
  else if i = 0x5120 && s = 2 then some c.toc.slots
  else if i = 0x5120 && s = 3 then some c.toc.clusters
  else if i = 0x5120 && s = 4 then some c.toc.cores
  else if i = 0x5140 && s = 1 then some (toTwos 32 c.toc.temp)
  else if i = 0x5140 && s = 2 then some c.toc.power
  else none

/-- The type of a measurement block (R385): the value types of the SPDM standard, bit 7 marking raw bytes (PRESUMED). -/
def blockType (k : Nat) : Nat :=
  if k = 1 then 0x81 else if k = 2 then 3 else if k = 3 then 1 else if k = 4 || k = 5 then 4 else if k = 6 || k = 8 then 0x84 else 0

/-- Block value (R397). -/
def blockRead (c : Chip) : Nat :=
  let k := obj c 0x6008 4
  let v := blockValue c k
  leNat (leBytes 16 (pack [(k, 1), (blockType k, 1), (v.length, 2), (0, 4), (tgetD c.sec.meas.changed k 0, 8)]) ++ v)

/-- Firmware, measurement, IDE, SPDM and tenancy (R397, R398). -/
def readSecurity (c : Chip) (i s : Nat) : Option Nat :=
  let f := c.sec.fw
  let m := c.sec.meas
  let t := c.sec.ten
  if i = 0x6000 && s = 1 then
    some (pack [(f.state, 1), (f.reason, 1), (f.bank, 1), (0, 1), (f.version, 4), (f.svn, 4)])
  else if i = 0x6000 && s = 6 then some f.runSvn
  else if i = 0x6000 && s = 7 then some f.counter
  else if i = 0x6008 && s = 3 then some (pack [(m.state, 1), (m.badRange, 1), (0, 6), (m.tick, 8)])
  else if i = 0x6008 && s = 5 then some (blockRead c)
  else if i = 0x6010 && s = 2 then some (pack ((upFrom 0 10).map fun k => (b2n (bit c.sec.spdm.streams k), 1)))
  else if i = 0x6010 && s = 3 then some (pack (c.sec.spdm.sessions.map fun n => (n, 1)))
  else if i = 0x6020 && s = 1 then some t.state
  else if i = 0x6020 && s = 4 then some t.epoch
  else if i = 0x6020 && s = 6 then some (pack [(t.step, 1), (0, 3), (t.abortedAt, 4), (t.stepTick, 8)])
  else none

/-- The objects that report state, by range (R28). -/
def readState (c : Chip) (i s : Nat) : Option Nat :=
  if i ≤ 0x11FF then readUnit c i s
  else if i ≤ 0x12FF then readPorts c i s
  else if i ≤ 0x13FF then readClocks c i s
  else if i ≤ 0x2FFF then readQueues c i s
  else if i ≤ 0x34FF then readSpaces c i s
  else if i ≤ 0x35FF then readGeode c s
  else if i ≤ 0x363F then readChannels c i s
  else if 0x3800 ≤ i && i ≤ 0x38FF then readLapidary c i s
  else if 0x4000 ≤ i && i ≤ 0x43FF then readPatterns c i s
  else if 0x4400 ≤ i && i ≤ 0x44FF then readFrontEnd c i s
  else if 0x4800 ≤ i && i ≤ 0x487F then readWindows c i s
  else if 0x4900 ≤ i && i ≤ 0x49FF then readDoublet c i s
  else if 0x5000 ≤ i && i ≤ 0x51FF then readTocsin c i s
  else if 0x6000 ≤ i && i ≤ 0x60FF then readSecurity c i s
  else none

/-- The value of a non-DOMAIN object: subindex 0 holds the highest subindex (R24); an object that reports no state holds what it was given. -/
def readVal (c : Chip) (i s : Nat) : Nat := if s = 0 then objHighest i else (readState c i s).getD (obj c i s)

/-- Was anything sent over the bridge? -/
def bridgeUsed (c : Chip) : Bool := c.out.any fun e => match e with | .bridge _ _ => true | _ => false

/-- A READ's value. Two objects report what the commands do not bring and are free values: the bridge's byte count once it was used (R298),
and the measured Carillon offset of a joined unit, within 4 ticks (R291). -/
def readObj (c : Chip) (i s : Nat) : Nat × Chip :=
  if i = 0x704A && s = 1 then (if bridgeUsed c then takeFree c 64 else (0, c))
  else if i = 0x4900 && s = 6 then
    (if c.dbl.state = 2 then
      let x := takeFree c 32
      (toTwos 64 (((x.1 % 9 : Nat) : Int) - 4), x.2)
     else (0, c))
  else (readVal c i s, c)

end Sys2Proof.Machine
end

