-- ==== Sys2Proof/Machine/WriteObj.lean ====
section
/-! DEFINITION. The owning part's handling of a WRITE of each writable object: steps 8 to 10 of R34 (RANGE, STATE, BUSY) and the effect. A
handler answers the status and the state after it; a refused write leaves the state as it was. -/

namespace Sys2Proof.Machine

/-! Shared forms. -/

/-- A write that only stores its value. -/
def keep (i s v : Nat) (c : Chip) : Nat × Chip := (0, setObj c i s v)

/-- A stored value that must lie in a range; RANGE otherwise. -/
def within (lo hi i s v : Nat) (c : Chip) : Nat × Chip := if lo ≤ v && v ≤ hi then keep i s v c else (5, c)

/-- As `within`, with 0 permitted. -/
def zeroOrRange (lo hi i s v : Nat) (c : Chip) : Nat × Chip := if v = 0 then keep i s v c else within lo hi i s v c

/-- A stored value that must meet a condition (RANGE) in a permitted state of the part (STATE). -/
def keepIf (rangeOk stateOk : Bool) (i s v : Nat) (c : Chip) : Nat × Chip :=
  if !rangeOk then (5, c) else if !stateOk then (7, c) else keep i s v c

/-- Some effect after an accepted write. -/
def thenDo (f : Chip → Chip) (r : Nat × Chip) : Nat × Chip := if r.1 = 0 then (0, f r.2) else r

/-- The elements of an array of `n` elements of `w` bytes. -/
def elems (v w n : Nat) : List Nat := (upFrom 0 n).map fun k => fld v (w * k) w

/-! Unit and ports (R47, R51, R324, R348). -/

/-- Objects 0x1000 to 0x11FF. -/
def writeUnit (i s v : Nat) (c : Chip) : Nat × Chip :=
  if i = 0x10F0 && s = 7 then configCommit v c
  else if i = 0x1100 && s = 2 then modeRequest v c
  else if i = 0x1100 && s = 3 then clockEnables v c
  else keep i s v c

/-- Objects of host port `p` (R324): POOL is a role of Port B only. -/
def writePort (src : Src) (p : HPort) (i s v : Nat) (c : Chip) : Nat × Chip :=
  if s = 1 then within 0 1 i s v c
  else if s = 2 then within 0 (portNo p) i s v c
  else if s = 5 then within 1000 100000000 i s v c
  else if s = 6 then within 10000 10000000000 i s v c
  else if s = 8 then attachRequest src p v c
  else if s = 0xB then within 50000 50000000 i s v c
  else if s = 0xF then (0, modPort c p fun x => { x with note := v, mgmt := true })
  else keep i s v c

/-- Objects 0x1200 to 0x12FF. -/
def writePortObj (src : Src) (i s v : Nat) (c : Chip) : Nat × Chip :=
  if i = 0x1210 || i = 0x1211 then writePort src (portOf (i == 0x1211)) i s v c
  else if i = 0x12F0 && s = 1 then peerCommit v c
  else if i = 0x12F0 && s = 3 then within 10000 1000000000 i s v c
  else keep i s v c

/-! Carillon and the clocks (R348). -/

/-- Objects 0x1300: the discipline. -/
def writeDisc (s v : Nat) (c : Chip) : Nat × Chip :=
  if s = 2 then timeSourceWrite v c
  else if s = 4 then keepIf true (firstRough c) 0x1300 s v c
  else if s = 5 then (0, modDisc c fun d => { d with ppsNext := v, ppsSet := true })
  else if s = 6 then timeStep v c
  else if s = 7 then within 1000 1000000 0x1300 s v c
  else if s = 8 then within 20 1000000 0x1300 s v c
  else if s = 9 then within 10000000 100000000000 0x1300 s v c
  else if s = 0xA then within 1000000 1000000000 0x1300 s v c
  else if s = 0xB then within 10 100000 0x1300 s v c
  else if s = 0xE then within 1000 1000000000000 0x1300 s v c
  else if s = 0xF then alignWrite v c
  else keep 0x1300 s v c

/-- Objects 0x1300 to 0x13FF; a Domain source write is answered by `domainSourceWrite`. -/
def writeClocks (i s v : Nat) (c : Chip) : Nat × Chip :=
  if i = 0x1300 then writeDisc s v c
  else if 0x1310 ≤ i && i ≤ 0x1313 then (if s = 1 then pllConfigWrite (i - 0x1310) v c else pllControl (i - 0x1310) v c)
  else if i = 0x1350 then meterRequest v c
  else keep i s v c

/-! Queues (R199). -/

/-- Objects 0x2000 + q: the configuration is writable while the queue is INVALID or DEAD (R182). -/
def writeQueues (i s v : Nat) (c : Chip) : Nat × Chip :=
  let q := i - 0x2000
  let st := (getQueue c q).state
  if s = 2 then queueControl q v c
  else if s = 3 then keepIf true (st == 0 || st == 6) i s (v % 256 ^ 46) c
  else if s = 4 then zeroOrRange 100000 100000000000 i s v c
  else keep i s v c

/-! Spaces and translation (R55, R83). -/

/-- Objects 0x3000 to 0x34FF. -/
def writeSpaces (i s v : Nat) (c : Chip) : Nat × Chip :=
  let sp := i - 0x3000
  if i = 0x3400 then (if s = 2 then within 1000000 10000000000 i s v c else within 1 256 i s v c)
  else if i = 0x3410 then facetLoad v c
  else if s = 2 then spaceControl sp v c
  else if s = 7 then keep i s (v % 2 ^ 22) c
  else if s = 8 then within 1000 10000000000 i s v c
  else segWrite sp (s - 0x10) v c

/-! The Geode (R85, R105). -/

/-- The used frame lists of a layout as regions: (BASE, length); a list with COUNT 0 is unused (R85). -/
def listRegions (lists : Nat) : List (Nat × Nat) :=
  ((upFrom 0 4).map fun k => (fld lists (16 * k) 8, fld lists (16 * k + 8) 4 * 2 ^ (14 + fld lists (16 * k + 12) 1))).filter fun r => r.2 != 0

/-- No two regions of a list overlap. -/
def disjoint : List (Nat × Nat) → Bool
  | [] => true
  | r :: rs => rs.all (fun x => !overlaps r.1 r.2 x.1 x.2) && disjoint rs

/-- Does a layout break a condition of R85 (with GRAIN codes of 0 to 7, R105)? A pool of length 0 is no region. -/
def layoutBad (c : Chip) (lists wp sp : Nat) : Bool :=
  let die := if c.unit1 then 2 ^ 39 else 0
  let ls := listRegions lists
  let rs := ls ++ ([(fld wp 0 8, fld wp 8 8), (fld sp 0 8, fld sp 8 8)].filter fun r => r.2 != 0)
  (upFrom 0 4).any (fun k => fld lists (16 * k + 8) 4 != 0 && fld lists (16 * k + 12) 1 > 7)
    || rs.any (fun r => r.1 < die || r.1 + r.2 > die + 2 ^ 39)
    || !disjoint rs
    || ls.any (fun r => r.1 % 0x200000 != 0)
    || fld wp 0 8 % 0x100000 != 0 || fld wp 8 8 % 0x100000 != 0 || fld wp 8 8 > 2 ^ 36
    || fld sp 0 8 % 0x200000 != 0 || fld sp 8 8 % 0x200000 != 0
    || fld sp 8 8 < frameTableBytes lists

/-- Is every Space other than Space 0 FREE (R85)? -/
def spacesFree (c : Chip) : Bool := c.sp.spaces.all fun x => x.1 == 0 || x.2.state == 0

/-- A layout write (R85). -/
def layoutWrite (s v : Nat) (c : Chip) : Nat × Chip :=
  let w := storedVal 0x3500 s v
  let at' := fun k => if s = k then w else obj c 0x3500 k
  keepIf (!layoutBad c (at' 1) (at' 2) (at' 3)) (spacesFree c) 0x3500 s w c

/-- Is a choice of Geode channels and Lapidary channels permitted: none shared, and a launch channel left in service (R106, R174)? -/
def channelsOk (c : Chip) (geo lap : Nat) : Bool :=
  (upFrom 0 64).all (fun k => !(bit geo k && bit lap k)) && (upFrom 0 64).any fun k => chanInService c k && !bit geo k && !bit lap k

/-- Objects 0x3500. -/
def writeGeode (s v : Nat) (c : Chip) : Nat × Chip :=
  if s ≤ 3 then layoutWrite s v c
  else if s = 4 then keepIf ((upFrom 0 4).all fun k => fld v (4 * k) 4 ≤ (listRec c k).2.1) true 0x3500 s v c
  else if s = 6 || s = 7 then within 1 255 0x3500 s v c
  else if s = 8 then within 0 7 0x3500 s v c
  else if s = 9 then keepIf (v < obj c 0x3500 0xA) true 0x3500 s v c
  else if s = 0xA then keepIf (obj c 0x3500 9 < v) true 0x3500 s v c
  else if s = 0xB then (if 1000 ≤ v && v ≤ 2000000 then keep 0x3500 s v (accrue c) else (5, c))
  else if s = 0xC then (if 1 ≤ v && v ≤ 4096 then keep 0x3500 s v (accrue c) else (5, c))
  else if s = 0xD then zeroOrRange 100000000 100000000000 0x3500 s v c
  else if s = 0xE then within 64 16384 0x3500 s v c
  else if s = 0xF then within 100000 1000000000 0x3500 s v c
  else if s = 0x10 then thenDo bindParts (keepIf (v != 0 && channelsOk c v (obj c 0x3800 1)) true 0x3500 s v c)
  else if s = 0x12 then writeBackRequest v c
  else if s = 0x15 then grainProbe v c
  else keep 0x3500 s v c

/-! Channels (R134), Format Converters (R153) and Lapidary (R174, R175). -/

/-- Objects 0x3600 + c. -/
def writeChannels (i s v : Nat) (c : Chip) : Nat × Chip :=
  if s = 2 then thenDo bindParts (channelControl (i - 0x3600) v c) else within 0 7 i s v c

/-- The unit-wide objects 0x3800. -/
def writeLapidary (s v : Nat) (c : Chip) : Nat × Chip :=
  if s = 1 then keepIf (1 ≤ popcount v 64 && popcount v 64 ≤ 8 && channelsOk c (obj c 0x3500 0x10) v) true 0x3800 s v c
  else if s = 2 then lapPost v c
  else if s = 5 then lapAbort v c
  else if s = 6 then within 100 64000 0x3800 s v c
  else within 1000000 100000000000 0x3800 s v c

/-- Objects 0x3800 + t: the definition while UNDEFINED (R155), the last manifest sequence while DEFINED (R175). -/
def writeTable (t s v : Nat) (c : Chip) : Nat × Chip :=
  let st := (getTable c t).state
  if s = 1 then keepIf true (st == 0) (0x3800 + t) 1 (storedVal (0x3800 + t) 1 v) c
  else if s = 2 then tableControl t v c
  else if st = 1 then (0, modTable c t fun x => { x with lastSeq := v })
  else (7, c)

/-! Patterns, front end and slots (R214, R233, R234, R253). -/

/-- Is every Pattern FREE (R214)? -/
def patternsFree (c : Chip) : Bool := c.pat.pats.all fun x => x.2.state == 0

/-- Objects 0x4400 to 0x4403. -/
def writeFront (i s v : Nat) (c : Chip) : Nat × Chip :=
  if i = 0x4400 then keep i s v c
  else if i = 0x4401 then keepIf ((elems v 1 256).all fun x => x ≤ (if s = 1 then 31 else 3)) true i s v c
  else if i = 0x4402 then
    (if s = 1 then within 0 1000000000 i s v c
     else if s = 2 then within 500 999 i s v c
     else if s = 3 then within 1 1000000 i s v c
     else if s = 4 then within 0 (2 ^ 48) i s v c
     else within 64 1024 i s v c)
  else if s = 1 then within 0 1023 i s v c
  else
    let p := obj c 0x4403 1
    if v > 2 ^ 48 then (5, c)
    else if (getPat c p).state != 2 then (7, c)
    else (0, modPat c p fun x => { x with est := v * 1000 })

/-- Does a slot hold a context or a join (R253)? -/
def slotBusy (c : Chip) (s : Nat) : Bool :=
  !(getSlot c s).joins.isEmpty || c.pat.launches.any fun l => ofQueue l.2.q && l.2.slot == s && l.2.ctx != .none && l.2.ctx != .ended

/-- Objects 0x4440 + s. In DOUBLET the clusters of both dies exist (R234, R253). -/
def writeSlotObj (i s v : Nat) (c : Chip) : Nat × Chip :=
  let idle := !slotBusy c (i - 0x4440)
  if s = 2 then keepIf (v != 0 && v < (if c.mode == .doublet then 2 ^ 16 else 2 ^ 8)) true i s v c
  else if s = 3 then keepIf (1 ≤ v && v ≤ 64) idle i s v c
  else if s = 4 then keepIf (1 ≤ v && v ≤ 16384) idle i s v c
  else if s = 5 then keepIf (v < 2 ^ 40 && v % 64 == 0) idle i s v c
  else if s = 6 then within 1000 10000000 i s v c
  else within 1000 100000000 i s v c

/-- Objects 0x44F0. -/
def writeStore (s v : Nat) (c : Chip) : Nat × Chip :=
  if s = 1 then keepIf true (patternsFree c) 0x44F0 s v c
  else if s = 5 then within 1 64 0x44F0 s v c
  else if s = 6 then within 10000 1000000000 0x44F0 s v c
  else within 1000 100000000 0x44F0 s v c

/-- Objects 0x4000 to 0x44FF. -/
def writePatterns (i s v : Nat) (c : Chip) : Nat × Chip :=
  if i ≤ 0x43FF then patternControl (i - 0x4000) v c
  else if i ≤ 0x4403 then writeFront i s v c
  else if i = 0x44F0 then writeStore s v c
  else writeSlotObj i s v c

/-! Windows and Doublet (R273, R274, R297). -/

/-- Objects 0x4800 to 0x487F. -/
def writeWindows (i s v : Nat) (c : Chip) : Nat × Chip :=
  if i ≤ 0x483F then peerShadow (i - 0x4800) v c
  else if s = 1 then keepIf true (tgetD c.coh.wins (i - 0x4840) 0 == 0) i s (v % 256 ^ 13) c
  else windowControl (i - 0x4840) v c

/-- The numbers of a mirrored kind: Spaces and Patterns 0 to 1,023, tables 1 to 255 (R286); the unit-wide entries have none, and their number is
not judged. -/
def seqNumOk (kind n : Nat) : Bool := if kind = 0 || kind = 1 then n ≤ 1023 else if kind = 2 then 1 ≤ n && n ≤ 255 else true

/-- Objects 0x4900 to 0x49FF. A Sequence select outside the mirrored entries gives RANGE (DEDUCED). -/
def writeDoublet (i s v : Nat) (c : Chip) : Nat × Chip :=
  if i = 0x4910 then keepIf (fld v 0 1 ≤ 4 && seqNumOk (fld v 0 1) (fld v 2 2)) true i s (storedVal i s v) c
  else if s = 1 then keepIf true (firstRough c) i s v c
  else if s = 3 then within 1000000 1000000000 i s v c
  else if s = 4 then within 20000 100000000 i s v c
  else zeroOrRange 10000000 100000000000 i s v c

/-! Tocsin (R368 to R370). -/

/-- Objects 0x5000 to 0x51FF. -/
def writeTocsin (i s v : Nat) (c : Chip) : Nat × Chip :=
  let n := i - 0x5000
  if i ≤ 0x50BF then
    (if s = 2 then sourceControl n v c
     else if s = 3 then within 1 255 i s v c
     else if s = 4 then within 1000 100000000000 i s v c
     else maskWrite n v c)
  else if i = 0x5100 then
    (if s = 2 then roughExit v c
     else if s = 4 then clearAllSticky v c
     else if s = 7 then keep i s (storedVal i s v) c
     else if s = 8 then within 0 1 i s v c
     else within 1000000 100000000000 i s v c)
  else if i = 0x5140 then
    (if s = 3 then keepIf (decide (50000 ≤ sext 32 v) && decide (sext 32 v ≤ 120000)) true i s v c
     else if s = 4 then keepIf (decide (sext 32 (obj c i 3) < sext 32 v) && decide (sext 32 v ≤ 125000)) true i s v c
     else within 10000 60000 i s v c)
  else keep i s v c

/-! Security and tenancy (R397, R398). -/

/-- Objects 0x6000 to 0x60FF. The tenant record is fixed from an accepted ATTACH on (R391). -/
def writeSecurity (i s v : Nat) (c : Chip) : Nat × Chip :=
  if i = 0x6000 then
    (if s = 2 then stageRequest v c
     else if s = 4 then keepIf (v % 0x100000 == 0 && v < 0x600000) true i s v c
     else firmwareControl v c)
  else if i = 0x6008 then
    (if s = 1 then keepIf ((upFrom 0 32).all fun k => fld v (24 * k + 2) 1 ≤ 2) true i s (storedVal i s v) c
     else if s = 2 then measureRequest v c
     else within 1 8 i s v c)
  else if i = 0x6010 then keepIf (fld v 0 1 ≤ 1 && fld v 1 1 ≤ 1) true i s v c
  else if s = 2 then tenancyControl v c
  else if s = 3 then keepIf true (c.sec.ten.state == 1 && !c.sec.ten.attaching) i s (v % 256 ^ 48) c
  else if s = 5 then within 100000 1000000000 i s v c
  else keepIf ((upFrom 0 16).all fun k => fld v (16 * k + 8) 8 % 64 == 0) true i s (storedVal i s v) c

/-! The dispatch. -/

/-- The owning part's answer to a WRITE of an object (R28, steps 8 to 10 of R34). -/
def writeObj (src : Src) (i s v : Nat) (c : Chip) : Nat × Chip :=
  if i ≤ 0x11FF then writeUnit i s v c
  else if i ≤ 0x12FF then writePortObj src i s v c
  else if i ≤ 0x13FF then writeClocks i s v c
  else if i ≤ 0x2FFF then writeQueues i s v c
  else if i ≤ 0x34FF then writeSpaces i s v c
  else if i ≤ 0x35FF then writeGeode s v c
  else if i ≤ 0x363F then writeChannels i s v c
  else if i ≤ 0x37FF then (if s = 3 then within 0 7 i s v c else keep i s v c)
  else if i = 0x3800 then writeLapidary s v c
  else if i ≤ 0x38FF then writeTable (i - 0x3800) s v c
  else if i ≤ 0x44FF then writePatterns i s v c
  else if i ≤ 0x487F then writeWindows i s v c
  else if i ≤ 0x49FF then writeDoublet i s v c
  else if i ≤ 0x51FF then writeTocsin i s v c
  else writeSecurity i s v c

end Sys2Proof.Machine
end

