-- ==== Sys2Proof/Machine/Registers.lean ====
section
/-! DEFINITION. The dictionary requests without a row of their own (R31 to R34, R43 to R45, R286), and host writes of registers (R305 to R307,
R312). -/

namespace Sys2Proof.Machine

/-! READ, DESCRIBE and WRITE (R31, R32). -/

/-- The serial number, or the identity key digest, is not yet fetched: a READ of it answers BUSY (R51, R400). -/
def identWaits (c : Chip) (i s : Nat) : Bool := i == 0x1000 && ((s == 6 && !c.boot.serialFetched) || (s == 7 && !c.boot.keyFetched))

/-- The size of an object's value. -/
def objSize (i s : Nat) : Nat := ((objRow i s).map fun r => r.size).getD 0

/-- Serve a READ: the value of a non-DOMAIN object (R31). -/
def readServe (src : Src) (rq : Req) (c : Chip) : Chip :=
  let st := check c src rq
  if st != 0 then respond c src rq st 0 []
  else if identWaits c rq.index rq.sub then respond c src rq 6 0 []
  else
    let r := readObj c rq.index rq.sub
    respond r.2 src rq 0 0 (leBytes (objSize rq.index rq.sub) r.1)

/-- READ (R31). -/
def execRead (src : Src) (tag index sub len : Nat) (s : State) : Host.Outcome State Fault Refusal :=
  let rq : Req := ⟨1, 0, tag, index, sub, len, 0, []⟩
  event "READ" (presents s.toChip src rq) (readServe src rq s.toChip) s

/-- Is an object's default a value that comes from outside: what the root of trust, the firmware or the configuration store gives (R51, R397,
R398), or the number that the fabric gives (R255)? -/
def loadedDefault (i s : Nat) : Bool :=
  (i == 0x1000 && (s == 6 || s == 7 || s == 8 || s == 0xA)) || (i == 0x6000 && (s == 6 || s == 7)) || (i == 0x6020 && s == 4) || (i == 0x12F0 && s == 4)

/-- The default that DESCRIBE reports (R32): that of the index; the unit's own number for object 0x1000.04 (R8); the value it reads as where the
default is a loaded one (R417). -/
def defaultOf (c : Chip) (i s : Nat) : Nat :=
  if i = 0x1000 && s = 4 then unitNo c else if loadedDefault i s then readVal c i s else objDefault i s

/-- The attribute record and, for a non-DOMAIN object, its default (R32). -/
def describeBytes (c : Chip) (i s : Nat) : Bytes :=
  match objRow i s with
  | some r =>
    leBytes 8 (pack [(r.typ, 1), (r.accH + 4 * r.accS, 1), (r.kept, 1), (objBlock i, 1), (r.size, 4)])
      ++ (if r.typ = 12 then [] else leBytes r.size (defaultOf c i s))
  | none => []

/-- Serve a DESCRIBE (R32). -/
def describeServe (src : Src) (rq : Req) (c : Chip) : Chip :=
  let st := check c src rq
  respond c src rq st 0 (if st = 0 then describeBytes c rq.index rq.sub else [])

/-- DESCRIBE (R32). -/
def execDescribe (src : Src) (tag index sub len : Nat) (s : State) : Host.Outcome State Fault Refusal :=
  let rq : Req := ⟨3, 0, tag, index, sub, len, 0, []⟩
  event "DESCRIBE" (presents s.toChip src rq) (describeServe src rq s.toChip) s

/-- Serve a WRITE; a Domain source write may wait for its multiplexer (R344). -/
def writeServe (src : Src) (rq : Req) (c : Chip) : Chip :=
  let v := leNat rq.payload
  if 0x1321 ≤ rq.index && rq.index ≤ 0x1339 && rq.sub = 1 then domainSourceWrite src rq (rq.index - 0x1320) v c
  else serve (writeObj src rq.index rq.sub v) src rq c

/-- WRITE (R31). -/
def execWrite (src : Src) (tag index sub : Nat) (payload : Bytes) (s : State) : Host.Outcome State Fault Refusal :=
  let rq := writeReq tag index sub payload
  event "WRITE" (presents s.toChip src rq) (react (writeServe src rq s.toChip)) s

/-! DOMAIN objects (R43 to R45): the Pattern images and the Stage chunk. -/

/-- The current value of a DOMAIN object; the Stage chunk has no reader. -/
def domainValue (c : Chip) (i : Nat) : Bytes := if 0x4000 ≤ i && i ≤ 0x43FF then (getPat c (i - 0x4000)).image else []

/-- Serve a READ_SEG (R31, R45). -/
def readSegServe (src : Src) (rq : Req) (c : Chip) : Chip :=
  let st := check c src rq
  if st != 0 then respond c src rq st (totalOf c rq) []
  else
    let r := readSegment (domainValue c rq.index) (masterOf src) rq c
    respond r.2 src rq 0 (totalOf c rq) r.1

/-- READ_SEG (R45). -/
def execReadSeg (src : Src) (tag index sub len off : Nat) (s : State) : Host.Outcome State Fault Refusal :=
  let rq : Req := ⟨4, 0, tag, index, sub, len, off, []⟩
  event "READ_SEG" (presents s.toChip src rq) (readSegServe src rq s.toChip) s

/-- Does a segment end its DOMAIN write: LAST, and not ABANDON (R43)? -/
def isLast (rq : Req) : Bool := bit rq.flags 0 && !bit rq.flags 1

/-- The whole value that a LAST segment gives. -/
def wholeValue (c : Chip) (src : Src) (rq : Req) : Bytes :=
  (if rq.off = 0 then [] else ((stagedOf c (masterOf src) rq.index rq.sub).map fun x => x.data).getD []) ++ rq.payload

/-- What the front end says to a segment of an image: STATE unless the Pattern is FREE or FAILED and its run can be had; a pool without one counts
(R105, R215). -/
def imagePre (p : Nat) (c : Chip) : Nat × Chip :=
  if !imageOpen c p then (7, c)
  else match imageRun c p with
    | some c => (0, c)
    | none => (7, stat c 0x7035 8 1)

/-- The maximum of every DOMAIN object: 1 MiB (R25). -/
def domainMax : Nat := 1048576

/-- A segment of a Pattern image. Unit 1 in DOUBLET stages it and forwards the whole value at LAST, and its staged write stays until unit 0 has
answered (R286; DESIGN CHOICE, log 17: the spec does not say how the segments travel). -/
def imageSegment (src : Src) (rq : Req) (c : Chip) : Chip :=
  let p := rq.index - 0x4000
  let m := masterOf src
  if forwards c rq then
    let bs := wholeValue c src rq
    let r := writeSegment (fun c => (if imageOpen c p then 0 else 7, c)) (fun _ c => (0, c)) m rq domainMax c
    if r.1 = 0 && isLast rq then forward c src rq bs else respond r.2 src rq r.1 (totalOf r.2 rq) []
  else
    let r := writeSegment (imagePre p) (imageApply p) m rq domainMax c
    if isLast rq then finishWrite r.2 src rq r.1 (totalOf r.2 rq) else respond r.2 src rq r.1 (totalOf r.2 rq) []

/-- A segment of the Stage chunk (R379). -/
def chunkSegment (src : Src) (rq : Req) (c : Chip) : Chip :=
  let r := writeSegment (fun c => (stageStatus c, c)) stageChunk (masterOf src) rq domainMax c
  respond r.2 src rq r.1 0 []

/-- Serve a WRITE_SEG (R43). -/
def writeSegServe (src : Src) (rq : Req) (c : Chip) : Chip :=
  let st := check c src rq
  if st != 0 then respond c src rq st (totalOf c rq) []
  else if rq.index = 0x6000 then chunkSegment src rq c
  else imageSegment src rq c

/-- WRITE_SEG (R43). -/
def execWriteSeg (src : Src) (tag index sub off flags : Nat) (payload : Bytes) (s : State) : Host.Outcome State Fault Refusal :=
  let rq : Req := ⟨5, flags % 4, tag, index, sub, payload.length, off, payload⟩
  event "WRITE_SEG" (presents s.toChip src rq) (writeSegServe src rq s.toChip) s

/-! Forwarded writes (R286). -/

/-- A whole image that unit 1 forwards: one LAST segment at OFFSET 0 of a host request (R43 to R45). -/
def forwardedImage (rq : Req) (c : Chip) : Chip :=
  if isGated c rq.index then respond c .forwarded rq 9 (totalOf c rq) []
  else
    let r := writeSegment (imagePre (rq.index - 0x4000)) (imageApply (rq.index - 0x4000)) .h rq domainMax c
    finishWrite r.2 .forwarded rq r.1 (totalOf r.2 rq)

/-- The request of a forwarded write: an image travels as one LAST segment. -/
def forwardedReq (tag index sub : Nat) (payload : Bytes) : Req :=
  if 0x4000 ≤ index && index ≤ 0x43FF && sub == 3 then ⟨5, 1, tag, index, sub, payload.length, 0, payload⟩ else writeReq tag index sub payload

/-- Does a request that unit 1 forwarded answer to the tag and the object of unit 0's response? -/
def forwardedIs (tag index sub : Nat) (x : Src × Req) : Bool := x.2.tag == tag && x.2.index == index && x.2.sub == sub

/-- FORWARDED_WRITE (R286). At unit 0 a write of a mirrored object arrives from unit 1 and is served in the rotation. At unit 1 unit 0's
response arrives, and unit 1 returns its status to the presenter. -/
def execForwardedWrite (answer : Option Nat) (tag index sub : Nat) (payload : Bytes) (s : State) : Host.Outcome State Fault Refusal :=
  let c := s.toChip
  let rq := forwardedReq tag index sub payload
  match answer with
  | none =>
    event "FORWARDED_WRITE" (presents c .forwarded rq && (mirrorEntry index sub).isSome)
      (react (if rq.op = 5 then forwardedImage rq c else writeServe .forwarded rq c)) s
  | some st =>
    event "FORWARDED_WRITE" (linkedUp c && c.dbl.fwd.any (forwardedIs tag index sub))
      (match c.dbl.fwd.find? (forwardedIs tag index sub) with | some x => forwardAnswer c x st | none => c) s

/-! Host writes of registers (R305 to R307, R312). -/

/-- Is an access naturally aligned and of a size that a host memory request carries here? -/
def sizeOk (off size : Nat) : Bool := (size == 1 || size == 2 || size == 4 || size == 8) && off % size == 0

/-- Is a write of BAR0 allowed (R306, R307)? Writes to the read-only registers UNIT_STATUS, CARILLON_NOW (R326) and TOCSIN_SUMMARY (R357)
are discarded without UR at the sizes that their rules give. -/
def bar0Allowed (c : Chip) (off size : Nat) : Bool :=
  sizeOk off size
    && (off < 0x1000
      || (size == 4 && (off == 0x1000 || off == 0x1040 || off == 0x1044 || off == 0x1050 || off == 0x1054))
      || (0x1100 ≤ off && off < 0x1108)
      || ((off == 0x2000 && (size == 4 || size == 8)) || (off == 0x2004 && size == 4))
      || bankAllowed c off size)

/-- The effect of an allowed write of BAR0. -/
def bar0Write (c : Chip) (p : HPort) (off size v : Nat) : Chip :=
  if off < 0x800 then writeRequestHalf c p off (leBytes size v)
  else if off = 0x1040 then mboxCtrl c p v
  else if off = 0x1044 then (if bit v 8 then protoErrClear c p else c)
  else if off = 0x1050 then (if bit v 1 then modPort c p fun x => { x with mgmt := false } else c)
  else if off = 0x1054 then modPort c p fun x => { x with intxEn := v % 4 }
  else if 0x40000 ≤ off then bankWrite off size v c
  else c

/-- Bytes of a window (R305). -/
def barSize (b : Bar) : Nat := match b with | .bar0 => 0x100000 | .bar2 => 0x1000000 | .rom => 0x1000000

/-- A host register write can arrive: the port has posted-request credits, and the offset lies in the window (R183). -/
def dueRegisterWrite (p : HPort) (b : Bar) (off : Nat) (c : Chip) : Bool := hostPosts c p && off < barSize b

/-- A host register write (R305 to R307): done, or UR. -/
def registerWrite (p : HPort) (b : Bar) (off size v : Nat) (c : Chip) : Chip :=
  match b with
  | .bar0 => hostWrite c p size (bar0Allowed c off size) fun c => bar0Write c p off size v
  | .bar2 => hostWrite c p size (sizeOk off size && pageAllowed c p (off / 4096) (off % 4096) size) fun c => pageWrite c p (off / 4096) (off % 4096) v
  | .rom => hostWrite c p size false id

/-- REGISTER_WRITE (R312). -/
def execRegisterWrite (p : HPort) (bar : Bar) (off size value : Nat) (s : State) : Host.Outcome State Fault Refusal :=
  event "REGISTER_WRITE" (dueRegisterWrite p bar off s.toChip) (registerWrite p bar off size value s.toChip) s

end Sys2Proof.Machine
end

