-- ==== Sys2Proof/Machine/Dispatch.lean ====
section
/-! DEFINITION. The dispatcher: one arm per command. -/

namespace Sys2Proof.Machine

/-- The effect of a command on everything but the queue. -/
def exec (i : Instr) (s : State) : Host.Outcome State Fault Refusal :=
  match i with
  | .unitPwrgoodAssert => Sys2Proof.Machine.execUnitPwrgoodAssert s
  | .unitReset pin => Sys2Proof.Machine.execUnitReset pin s
  | .resetRelease => Sys2Proof.Machine.execResetRelease s
  | .sourceReady x => Sys2Proof.Machine.execSourceReady x s
  | .storeLoad copyA copyB => Sys2Proof.Machine.execStoreLoad copyA copyB s
  | .bootClockSwitch kclk count => Sys2Proof.Machine.execBootClockSwitch kclk count s
  | .xrefReadyTimeout x now => Sys2Proof.Machine.execXrefReadyTimeout x now s
  | .firmwareRelease => Sys2Proof.Machine.execFirmwareRelease s
  | .firmwareVerifyFailAtReset reason => Sys2Proof.Machine.execFirmwareVerifyFailAtReset reason s
  | .modeRequest src tag v => Sys2Proof.Machine.execModeRequest src tag v s
  | .roughSettled => Sys2Proof.Machine.execRoughSettled s
  | .roughExit src tag v => Sys2Proof.Machine.execRoughExit src tag v s
  | .mboxGo p => Sys2Proof.Machine.execMboxGo p s
  | .mboxAck p => Sys2Proof.Machine.execMboxAck p s
  | .protoErrClear p => Sys2Proof.Machine.execProtoErrClear p s
  | .registerWrite p bar off size value => Sys2Proof.Machine.execRegisterWrite p bar off size value s
  | .sidebandMessage body => Sys2Proof.Machine.execSidebandMessage body s
  | .read src tag index sub len => Sys2Proof.Machine.execRead src tag index sub len s
  | .write src tag index sub payload => Sys2Proof.Machine.execWrite src tag index sub payload s
  | .describe src tag index sub len => Sys2Proof.Machine.execDescribe src tag index sub len s
  | .readSeg src tag index sub len off => Sys2Proof.Machine.execReadSeg src tag index sub len off s
  | .writeSeg src tag index sub off flags payload => Sys2Proof.Machine.execWriteSeg src tag index sub off flags payload s
  | .domainStageTimeout m index sub now => Sys2Proof.Machine.execDomainStageTimeout m index sub now s
  | .readViewTimeout m index sub now => Sys2Proof.Machine.execReadViewTimeout m index sub now s
  | .setEndpointId eid => Sys2Proof.Machine.execSetEndpointId eid s
  | .getEndpointId => Sys2Proof.Machine.execGetEndpointId s
  | .getMctpVersionSupport => Sys2Proof.Machine.execGetMctpVersionSupport s
  | .getMessageTypeSupport => Sys2Proof.Machine.execGetMessageTypeSupport s
  | .getVendorDefinedMessageSupport => Sys2Proof.Machine.execGetVendorDefinedMessageSupport s
  | .configCommit src tag v => Sys2Proof.Machine.execConfigCommit src tag v s
  | .configCommitComplete ok => Sys2Proof.Machine.execConfigCommitComplete ok s
  | .spaceCreate src tag sp => Sys2Proof.Machine.execSpaceCreate src tag sp s
  | .spaceGoLive src tag sp => Sys2Proof.Machine.execSpaceGoLive src tag sp s
  | .spaceInvalidate src tag sp => Sys2Proof.Machine.execSpaceInvalidate src tag sp s
  | .spaceRetire src tag sp => Sys2Proof.Machine.execSpaceRetire src tag sp s
  | .segmentDescriptorWrite src tag sp n payload => Sys2Proof.Machine.execSegmentDescriptorWrite src tag sp n payload s
  | .bumpCounterFree id => Sys2Proof.Machine.execBumpCounterFree id s
  | .bumpDrainComplete id => Sys2Proof.Machine.execBumpDrainComplete id s
  | .bumpFlushReadComplete id => Sys2Proof.Machine.execBumpFlushReadComplete id s
  | .drainAlertExpiry id now => Sys2Proof.Machine.execDrainAlertExpiry id now s
  | .atsInvalidateRequest p itag pasid => Sys2Proof.Machine.execAtsInvalidateRequest p itag pasid s
  | .facetLoadBuild src tag payload => Sys2Proof.Machine.execFacetLoadBuild src tag payload s
  | .facetLoadFill src tag payload => Sys2Proof.Machine.execFacetLoadFill src tag payload s
  | .facetLoadComplete r => Sys2Proof.Machine.execFacetLoadComplete r s
  | .cutJobGrant cutter q e n side idx => Sys2Proof.Machine.execCutJobGrant cutter q e n side idx s
  | .facetCacheMissReturn cutter line => Sys2Proof.Machine.execFacetCacheMissReturn cutter line s
  | .cutListRetry cutter => Sys2Proof.Machine.execCutListRetry cutter s
  | .atsTranslationCompletion cutter r => Sys2Proof.Machine.execAtsTranslationCompletion cutter r s
  | .priPageResponse p page code => Sys2Proof.Machine.execPriPageResponse p page code s
  | .sideCutComplete cutter => Sys2Proof.Machine.execSideCutComplete cutter s
  | .nodeRecut q e n => Sys2Proof.Machine.execNodeRecut q e n s
  | .faultTimeoutExpiry q e n now => Sys2Proof.Machine.execFaultTimeoutExpiry q e n now s
  | .mapBuildFillDone => Sys2Proof.Machine.execMapBuildFillDone s
  | .promotionTokenAccrue => Sys2Proof.Machine.execPromotionTokenAccrue s
  | .promotionStart other => Sys2Proof.Machine.execPromotionStart other s
  | .promotionCopyComplete sp seg grain => Sys2Proof.Machine.execPromotionCopyComplete sp seg grain s
  | .promotionCopyFail sp seg grain => Sys2Proof.Machine.execPromotionCopyFail sp seg grain s
  | .sweepVisit list => Sys2Proof.Machine.execSweepVisit list s
  | .writeBackComplete sp seg grain => Sys2Proof.Machine.execWriteBackComplete sp seg grain s
  | .writeBackFail sp seg grain => Sys2Proof.Machine.execWriteBackFail sp seg grain s
  | .writeBackRequest src tag payload => Sys2Proof.Machine.execWriteBackRequest src tag payload s
  | .grainProbeRequest src tag payload => Sys2Proof.Machine.execGrainProbeRequest src tag payload s
  | .quarantineTimeExpiry now => Sys2Proof.Machine.execQuarantineTimeExpiry now s
  | .farDecayVisit => Sys2Proof.Machine.execFarDecayVisit s
  | .tallyForward inbound => Sys2Proof.Machine.execTallyForward inbound s
  | .geodeStateAck sp seg grain change => Sys2Proof.Machine.execGeodeStateAck sp seg grain change s
  | .nodeBind q e n => Sys2Proof.Machine.execNodeBind q e n s
  | .strokeIssue ch => Sys2Proof.Machine.execStrokeIssue ch s
  | .requestResponse id r => Sys2Proof.Machine.execRequestResponse id r s
  | .strokeComplete ch sd k => Sys2Proof.Machine.execStrokeComplete ch sd k s
  | .strokeErrorRetryable ch sd k cls => Sys2Proof.Machine.execStrokeErrorRetryable ch sd k cls s
  | .strokeRetryReissue ch => Sys2Proof.Machine.execStrokeRetryReissue ch s
  | .strokeErrorFatal ch sd k cls => Sys2Proof.Machine.execStrokeErrorFatal ch sd k cls s
  | .channelResume src tag ch v => Sys2Proof.Machine.execChannelResume src tag ch v s
  | .paceAtTickMet q e n now => Sys2Proof.Machine.execPaceAtTickMet q e n now s
  | .pacePeriodDue ch now => Sys2Proof.Machine.execPacePeriodDue ch now s
  | .paceAfterChannelMet q e n => Sys2Proof.Machine.execPaceAfterChannelMet q e n s
  | .markFire q e n half => Sys2Proof.Machine.execMarkFire q e n half s
  | .scaleBankWrite p off size value => Sys2Proof.Machine.execScaleBankWrite p off size value s
  | .tableDefine src tag t => Sys2Proof.Machine.execTableDefine src tag t s
  | .tableUndefine src tag t => Sys2Proof.Machine.execTableUndefine src tag t s
  | .manifestPost src tag payload => Sys2Proof.Machine.execManifestPost src tag payload s
  | .manifestApplyStart => Sys2Proof.Machine.execManifestApplyStart s
  | .manifestHeaderArrive r => Sys2Proof.Machine.execManifestHeaderArrive r s
  | .grainOpen seg grain => Sys2Proof.Machine.execGrainOpen seg grain s
  | .rowPullComplete row r oldHeader => Sys2Proof.Machine.execRowPullComplete row r oldHeader s
  | .manifestApplied => Sys2Proof.Machine.execManifestApplied s
  | .commitStart now => Sys2Proof.Machine.execCommitStart now s
  | .commitSweepStep => Sys2Proof.Machine.execCommitSweepStep s
  | .publishAck => Sys2Proof.Machine.execPublishAck s
  | .releaseSweepStep t => Sys2Proof.Machine.execReleaseSweepStep t s
  | .refreshStallAlert t now => Sys2Proof.Machine.execRefreshStallAlert t now s
  | .lapidaryAbortRequest src tag t => Sys2Proof.Machine.execLapidaryAbortRequest src tag t s
  | .doorbellWrite p q size value => Sys2Proof.Machine.execDoorbellWrite p q size value s
  | .producerValueTake lane => Sys2Proof.Machine.execProducerValueTake lane s
  | .ringFetchIssue => Sys2Proof.Machine.execRingFetchIssue s
  | .ringReadComplete q r => Sys2Proof.Machine.execRingReadComplete q r s
  | .completionFlushReadComplete q e => Sys2Proof.Machine.execCompletionFlushReadComplete q e s
  | .queueCreate src tag q => Sys2Proof.Machine.execQueueCreate src tag q s
  | .queueResume src tag q => Sys2Proof.Machine.execQueueResume src tag q s
  | .queueDestroy src tag q => Sys2Proof.Machine.execQueueDestroy src tag q s
  | .queueReattach src tag q => Sys2Proof.Machine.execQueueReattach src tag q s
  | .watchdogExpiry q e now => Sys2Proof.Machine.execWatchdogExpiry q e now s
  | .patternRegister src tag p => Sys2Proof.Machine.execPatternRegister src tag p s
  | .patternCheckComplete p => Sys2Proof.Machine.execPatternCheckComplete p s
  | .patternRetire src tag p => Sys2Proof.Machine.execPatternRetire src tag p s
  | .patternClear src tag p => Sys2Proof.Machine.execPatternClear src tag p s
  | .admissionStart pipe => Sys2Proof.Machine.execAdmissionStart pipe s
  | .admissionReadsArrive q e patch handles => Sys2Proof.Machine.execAdmissionReadsArrive q e patch handles s
  | .joinBetweenBoundaries slot => Sys2Proof.Machine.execJoinBetweenBoundaries slot s
  | .stepBoundary slot now => Sys2Proof.Machine.execStepBoundary slot now s
  | .waitTickReached q e n now => Sys2Proof.Machine.execWaitTickReached q e n now s
  | .fenceNodeComplete q e n => Sys2Proof.Machine.execFenceNodeComplete q e n s
  | .runDispatch cluster => Sys2Proof.Machine.execRunDispatch cluster s
  | .runResult cluster core word => Sys2Proof.Machine.execRunResult cluster core word s
  | .redispatchWaitExpiry q e n now => Sys2Proof.Machine.execRedispatchWaitExpiry q e n now s
  | .abortWaitExpiry cluster core now => Sys2Proof.Machine.execAbortWaitExpiry cluster core now s
  | .switchPointBoundExpiry slot now => Sys2Proof.Machine.execSwitchPointBoundExpiry slot now s
  | .saveComplete q e => Sys2Proof.Machine.execSaveComplete q e s
  | .restoreComplete q e => Sys2Proof.Machine.execRestoreComplete q e s
  | .bootstrapCopy => Sys2Proof.Machine.execBootstrapCopy s
  | .bootstrapFill => Sys2Proof.Machine.execBootstrapFill s
  | .bootstrapDescriptor => Sys2Proof.Machine.execBootstrapDescriptor s
  | .bootstrapRun => Sys2Proof.Machine.execBootstrapRun s
  | .bootstrapWait => Sys2Proof.Machine.execBootstrapWait s
  | .bootstrapDigest => Sys2Proof.Machine.execBootstrapDigest s
  | .inboundPacket node fabric len op payload => Sys2Proof.Machine.execInboundPacket node fabric len op payload s
  | .inboundResponse id r => Sys2Proof.Machine.execInboundResponse id r s
  | .peerWindowCommit src tag v => Sys2Proof.Machine.execPeerWindowCommit src tag v s
  | .peerRequestTimeout id now => Sys2Proof.Machine.execPeerRequestTimeout id now s
  | .windowEnable src tag w => Sys2Proof.Machine.execWindowEnable src tag w s
  | .windowDisable src tag w => Sys2Proof.Machine.execWindowDisable src tag w s
  | .snoop p addr invalidate => Sys2Proof.Machine.execSnoop p addr invalidate s
  | .lineReadComplete p addr line => Sys2Proof.Machine.execLineReadComplete p addr line s
  | .windowResume p => Sys2Proof.Machine.execWindowResume p s
  | .bridgeUp => Sys2Proof.Machine.execBridgeUp s
  | .joinMessage stepping version => Sys2Proof.Machine.execJoinMessage stepping version s
  | .joinReady reason partnerTick => Sys2Proof.Machine.execJoinReady reason partnerTick s
  | .joinTick now => Sys2Proof.Machine.execJoinTick now s
  | .joinTimeout now => Sys2Proof.Machine.execJoinTimeout now s
  | .bridgeFlush => Sys2Proof.Machine.execBridgeFlush s
  | .flushDone => Sys2Proof.Machine.execFlushDone s
  | .keepalive now => Sys2Proof.Machine.execKeepalive now s
  | .bridgeLossTimeout now => Sys2Proof.Machine.execBridgeLossTimeout now s
  | .partnerFatal => Sys2Proof.Machine.execPartnerFatal s
  | .partnerDrained => Sys2Proof.Machine.execPartnerDrained s
  | .forwardedWrite answer tag index sub payload => Sys2Proof.Machine.execForwardedWrite answer tag index sub payload s
  | .mirrorUpdate k num seq content => Sys2Proof.Machine.execMirrorUpdate k num seq content s
  | .mirrorAck k num => Sys2Proof.Machine.execMirrorAck k num s
  | .mirrorAudit k num seq digest => Sys2Proof.Machine.execMirrorAudit k num seq digest s
  | .perstAssert p => Sys2Proof.Machine.execPerstAssert p s
  | .perstDeassert p => Sys2Proof.Machine.execPerstDeassert p s
  | .hotReset p => Sys2Proof.Machine.execHotReset p s
  | .linkDown p => Sys2Proof.Machine.execLinkDown p s
  | .lossOfLightTimeout p now => Sys2Proof.Machine.execLossOfLightTimeout p now s
  | .linkUp p rate width => Sys2Proof.Machine.execLinkUp p rate width s
  | .linkRecovery p => Sys2Proof.Machine.execLinkRecovery p s
  | .initiateFlr p => Sys2Proof.Machine.execInitiateFlr p s
  | .bmeClear p => Sys2Proof.Machine.execBmeClear p s
  | .d3hotEntry p => Sys2Proof.Machine.execD3hotEntry p s
  | .configWrite p reg v => Sys2Proof.Machine.execConfigWrite p reg v s
  | .portAttach src tag p => Sys2Proof.Machine.execPortAttach src tag p s
  | .portDetach src tag p => Sys2Proof.Machine.execPortDetach src tag p s
  | .completionTimeout id now => Sys2Proof.Machine.execCompletionTimeout id now s
  | .l0pEntry p now => Sys2Proof.Machine.execL0pEntry p now s
  | .l1Entry p now => Sys2Proof.Machine.execL1Entry p now s
  | .linkPowerExit p => Sys2Proof.Machine.execLinkPowerExit p s
  | .opticalPoll p light faults temp state now => Sys2Proof.Machine.execOpticalPoll p light faults temp state now s
  | .opticalEngineFault p lanes width => Sys2Proof.Machine.execOpticalEngineFault p lanes width s
  | .romRead p off len => Sys2Proof.Machine.execRomRead p off len s
  | .carillonNowLowRead p => Sys2Proof.Machine.execCarillonNowLowRead p s
  | .carillonNowHighRead p => Sys2Proof.Machine.execCarillonNowHighRead p s
  | .intxMgmtClear p => Sys2Proof.Machine.execIntxMgmtClear p s
  | .ptmRequest now => Sys2Proof.Machine.execPtmRequest now s
  | .ptmResponse master now => Sys2Proof.Machine.execPtmResponse master now s
  | .ppsEdge now => Sys2Proof.Machine.execPpsEdge now s
  | .timeStep src tag v => Sys2Proof.Machine.execTimeStep src tag v s
  | .align src tag v => Sys2Proof.Machine.execAlign src tag v s
  | .holdoverEntryExpiry now => Sys2Proof.Machine.execHoldoverEntryExpiry now s
  | .monitorWindowEnd m count => Sys2Proof.Machine.execMonitorWindowEnd m count s
  | .pllStart src tag k => Sys2Proof.Machine.execPllStart src tag k s
  | .pllStop src tag k => Sys2Proof.Machine.execPllStop src tag k s
  | .pllLockTimeout k now => Sys2Proof.Machine.execPllLockTimeout k now s
  | .domainSourceWrite src tag d v => Sys2Proof.Machine.execDomainSourceWrite src tag d v s
  | .muxSwitchDone d => Sys2Proof.Machine.execMuxSwitchDone d s
  | .meterRequest src tag payload => Sys2Proof.Machine.execMeterRequest src tag payload s
  | .meterWindowEnd count => Sys2Proof.Machine.execMeterWindowEnd count s
  | .meterStall => Sys2Proof.Machine.execMeterStall s
  | .clockEnableSet src tag v => Sys2Proof.Machine.execClockEnableSet src tag v s
  | .clockEnableClear src tag v => Sys2Proof.Machine.execClockEnableClear src tag v s
  | .tocsinEvent n element level detail => Sys2Proof.Machine.execTocsinEvent n element level detail s
  | .graceTimerExpiry n now => Sys2Proof.Machine.execGraceTimerExpiry n now s
  | .tocsinWindowClose n now => Sys2Proof.Machine.execTocsinWindowClose n now s
  | .sourceAck src tag n => Sys2Proof.Machine.execSourceAck src tag n s
  | .clearSticky src tag n => Sys2Proof.Machine.execClearSticky src tag n s
  | .clearAllSticky src tag v => Sys2Proof.Machine.execClearAllSticky src tag v s
  | .maskWrite src tag n v => Sys2Proof.Machine.execMaskWrite src tag n v s
  | .telemetrySample temp power now => Sys2Proof.Machine.execTelemetrySample temp power now s
  | .rotResponse tag status payload => Sys2Proof.Machine.execRotResponse tag status payload s
  | .rotTimeout now => Sys2Proof.Machine.execRotTimeout now s
  | .stageRequest src tag payload => Sys2Proof.Machine.execStageRequest src tag payload s
  | .stageWriteComplete r => Sys2Proof.Machine.execStageWriteComplete r s
  | .firmwareVerify src tag => Sys2Proof.Machine.execFirmwareVerify src tag s
  | .verifyComplete flashOk => Sys2Proof.Machine.execVerifyComplete flashOk s
  | .firmwareActivate src tag => Sys2Proof.Machine.execFirmwareActivate src tag s
  | .firmwareDiscard src tag => Sys2Proof.Machine.execFirmwareDiscard src tag s
  | .activationLoadChecked ok => Sys2Proof.Machine.execActivationLoadChecked ok s
  | .activationWindowClose => Sys2Proof.Machine.execActivationWindowClose s
  | .counterRaiseRetry now => Sys2Proof.Machine.execCounterRaiseRetry now s
  | .modelMeasureRequest src tag v => Sys2Proof.Machine.execModelMeasureRequest src tag v s
  | .modelMeasureComplete r => Sys2Proof.Machine.execModelMeasureComplete r s
  | .tenancyAttach src tag => Sys2Proof.Machine.execTenancyAttach src tag s
  | .tenancyEnd src tag => Sys2Proof.Machine.execTenancyEnd src tag s
  | .tenancyScrub src tag => Sys2Proof.Machine.execTenancyScrub src tag s
  | .drainLimitExpiry now => Sys2Proof.Machine.execDrainLimitExpiry now s
  | .scrubComplete => Sys2Proof.Machine.execScrubComplete s
  | .ideCheckFailure p stream => Sys2Proof.Machine.execIdeCheckFailure p stream s
  | .getVersion t => Sys2Proof.Machine.execGetVersion t s
  | .getCapabilities t => Sys2Proof.Machine.execGetCapabilities t s
  | .negotiateAlgorithms t => Sys2Proof.Machine.execNegotiateAlgorithms t s
  | .getDigests t => Sys2Proof.Machine.execGetDigests t s
  | .getCertificate t slot off len => Sys2Proof.Machine.execGetCertificate t slot off len s
  | .challenge t slot => Sys2Proof.Machine.execChallenge t slot s
  | .getMeasurements t block => Sys2Proof.Machine.execGetMeasurements t block s
  | .keyExchange t => Sys2Proof.Machine.execKeyExchange t s
  | .finish t => Sys2Proof.Machine.execFinish t s
  | .endSession t => Sys2Proof.Machine.execEndSession t s
  | .spdmHeartbeat t => Sys2Proof.Machine.execSpdmHeartbeat t s
  | .keyUpdate t => Sys2Proof.Machine.execKeyUpdate t s
  | .ideQuery p => Sys2Proof.Machine.execIdeQuery p s
  | .keyProg p stream keySet key => Sys2Proof.Machine.execKeyProg p stream keySet key s
  | .kSetGo p stream keySet => Sys2Proof.Machine.execKSetGo p stream keySet s
  | .kSetStop p stream keySet => Sys2Proof.Machine.execKSetStop p stream keySet s
  | .linkError p kind => Sys2Proof.Machine.execLinkError p kind s
  | .ptmResponseTimeout now => Sys2Proof.Machine.execPtmResponseTimeout now s
  | .bootstrapDigestComplete => Sys2Proof.Machine.execBootstrapDigestComplete s
  | .bootstrapReadComplete r => Sys2Proof.Machine.execBootstrapReadComplete r s

end Sys2Proof.Machine
end

