-- ==== Sys2Proof/Machine/Tick.lean ====
section
/-! DEFINITION. What the unit does on an empty queue: one KCLK cycle of Carillon (R326). -/

namespace Sys2Proof.Machine

/-- Does KCLK, domain 22, run from its FIRC fallback (R326, R339)? -/
def kclkOnFirc (c : Chip) : Bool := bit c.clk.sel 21

/-- One KCLK cycle (R326): Carillon, which runs from FIRC's ready count on, advances by 1 on PLL-K and by 5 every 2 cycles on FIRC; a
KCLK that is not clocked does not advance it (R343, R345). -/
def kclkCycle (c : Chip) : Chip :=
  if !c.boot.fircOn || !domainRuns c 22 then c
  else if !kclkOnFirc c then { c with clk := { c.clk with carillon := (c.clk.carillon + 1) % 2 ^ 64 } }
  else if c.clk.half then { c with clk := { c.clk with carillon := (c.clk.carillon + 5) % 2 ^ 64, half := false } }
  else { c with clk := { c.clk with half := true } }

end Sys2Proof.Machine
end

