-- ==== Sys2Proof/Machine/Step.lean ====
section
/-! DEFINITION. One step: the command at the front of the queue, or one KCLK cycle on an empty queue; and the placing of a command. -/

namespace Sys2Proof.Machine

/-- One step: take the command at the front and answer what `exec` answers on the state with the queue's rest; with no command waiting, one
KCLK cycle passes (DESIGN CHOICE: the commands have no row for a tick). -/
def step (s : State) : Host.Outcome State Fault Refusal :=
  match s.pending with
  | [] => .next (put s (kclkCycle s.toChip))
  | i :: rest => exec i { s with pending := rest }

/-- Put the command that a word spells at the front of the queue; no row of the table gives bits, so no word spells one. -/
def State.withFetchWord (s : State) (nbits w : Nat) : State :=
  match Sys2Proof.decodeTableWord nbits w with
  | some i => { s with pending := i :: s.pending }
  | none => s

end Sys2Proof.Machine
end

