-- ==== Sys2Proof/Machine/HostReads.lean ====
section
/-! DEFINITION. What a host read finds: BAR0 (R17, R35, R144, R306, R310, R327, R357), the queue pages of BAR2 (R181), and configuration space
(R303, R304). The table gives a row to the reads of CARILLON_NOW and of the ROM alone; any other read is here as the function of the state that
its answer is, with what it leaves (log 96). -/

namespace Sys2Proof.Machine

/-- How a register answers a read of an allowed size: data, or data of a word that cannot be corrected, returned poisoned (R360). -/
inductive RegRead where
  | ok (bs : Bytes)
  | poison (bs : Bytes)
  | ur
  deriving DecidableEq, Repr, Inhabited

/-- The bytes `[o, o + n)` of a little-endian value. -/
def readPart (v o n : Nat) : Bytes := ((leBytes (o + n) v).drop o)

/-! BAR0. -/

/-- A byte of a mailbox: the request half, then the response half (R35); what nothing has written is zero. -/
def mboxByte (c : Chip) (p : HPort) (o : Nat) : Byte :=
  let m := two c.dict.mbox p
  if o < 0x800 then tgetD m.req o 0 else m.resp.getD (o - 0x800) 0

/-- SCALE of the entry, or of the two entries, of an access to the banks (R144). -/
def bankRead (c : Chip) (off size : Nat) : Bytes :=
  let e := fun (k : Nat) => leBytes 4 (bankEntry c ((off - 0x40000) / 4096) ((off - 0x40000) % 4096 / 4 + k))
  if size = 8 then e 0 ++ e 1 else e 0

/-- A read of BAR0 (R306, R307), naturally aligned, with what the register gives. CARILLON_NOW answers any size; the latch of its 32-bit reads is
CARILLON_NOW_LOW_READ's and CARILLON_NOW_HIGH_READ's (R327). `bad` says that the word of a scale bank cannot be corrected (R360). -/
def bar0Read (c : Chip) (p : HPort) (off size : Nat) (bad : Bool) : RegRead :=
  if !sizeOk off size then .ur
  else if off < 0x1000 then .ok ((upFrom off size).map (mboxByte c p))
  else if off = 0x1000 then (if size = 4 then .ok (leBytes 4 (unitStatus c)) else .ur)
  else if off = 0x1040 then (if size = 4 then .ok (leBytes 4 0) else .ur)
  else if off = 0x1044 then (if size = 4 then .ok (leBytes 4 (mboxStat c p)) else .ur)
  else if off = 0x1050 then (if size = 4 then .ok (leBytes 4 (intxStatus c p)) else .ur)
  else if off = 0x1054 then (if size = 4 then .ok (leBytes 4 (getPort c p).intxEn) else .ur)
  else if 0x1100 ≤ off && off < 0x1108 then
    .ok (readPart (if off = 0x1104 && (getPort c p).latched then (getPort c p).latch * 2 ^ 32 else now c) (off - 0x1100) size)
  else if off = 0x2000 && size = 8 then .ok (leBytes 8 (tocsinSummary c))
  else if (off = 0x2000 || off = 0x2004) && size = 4 then .ok (readPart (tocsinSummary c) (off - 0x2000) 4)
  else if bankAllowed c off size then (if bad then .poison (bankRead c off size) else .ok (bankRead c off size))
  else .ur

/-! BAR2. -/

/-- QSTATUS of a queue (R181). -/
def qStatus (x : Queue) : Nat := pack [(x.state, 1), (x.cause, 1), (inFlight x, 1), (0, 1), (x.f, 4)]

/-- MARKS of a queue (R121). -/
def qMarks (x : Queue) : Nat := pack [(x.half, 2), (x.full, 2)]

/-- A read of a queue page (R181, R307): a page that is not live reads as zero, as does an offset that is not listed. -/
def pageRead (c : Chip) (p : HPort) (q o size : Nat) : RegRead :=
  let x := getQueue c q
  if !enabled c 0 || !sizeOk o size then .ur
  else if !pageLive c p q || !pageOpen c q then .ok (zeros size)
  else if o < 4 then (if o = 0 && size = 4 then .ok (zeros 4) else .ur)
  else if 0x40 ≤ o && o < 0x48 then (if size = 4 || size = 8 then .ok (readPart x.shown (o - 0x40) size) else .ur)
  else if 0x48 ≤ o && o < 0x50 then (if size = 4 || size = 8 then .ok (readPart (qStatus x) (o - 0x48) size) else .ur)
  else if 0x50 ≤ o && o < 0x54 then (if size = 4 then .ok (leBytes 4 (qMarks x)) else .ur)
  else .ok (zeros size)

/-- What a read of a window finds. -/
def regRead (c : Chip) (p : HPort) (b : Bar) (off size : Nat) (bad : Bool) : RegRead :=
  match b with
  | .bar0 => bar0Read c p off size bad
  | .bar2 => pageRead c p (off / 4096) (off % 4096) size
  | .rom => .ur

/-- A host read of BAR0 or BAR2 and what it leaves: the completion with its data, or the completion with UR status, logged and counted; in D3hot the
port decodes no request (R17, R307, R319). -/
def hostReads (c : Chip) (p : HPort) (b : Bar) (off size : Nat) (bad : Bool) : Chip :=
  match if hostDecodes c p then regRead c p b off size bad else .ur with
  | .ok bs => complete c p 0 bs
  | .poison bs => complete c p 3 bs
  | .ur => urRead c p

/-! Configuration space (R303, R304). -/

/-- The type 0 header as the host reads it: the values that R303 names; the fields it does not name hold the standard's reset values, which the
spec does not give. -/
structure Header where
  vid : Nat
  did : Nat
  command : Nat
  revision : Nat
  classCode : Nat
  headerType : Nat
  bar0 : Nat
  bar2 : Nat
  otherBars : Nat
  subVid : Nat
  subId : Nat
  rom : Nat
  capPtr : Nat
  intPin : Nat
  deriving DecidableEq, Repr, Inhabited

/-- The Command register (R303): Memory Space Enable 1, Bus Master Enable 2, Parity Error Response 6, SERR# Enable 8, Interrupt Disable 10. -/
def commandReg (s : CfgSpace) : Nat :=
  setBit (setBit (setBit (setBit (setBit 0 1 s.mse) 2 s.bme) 6 s.parity) 8 s.serr) 10 s.intDisable

/-- The header of a port (R303, R305). -/
def header (c : Chip) (p : HPort) : Header :=
  let s := getPort c p
  { vid := s.cfg.vid, did := s.cfg.did, command := commandReg s.cfg, revision := 0x11, classCode := 0x120000, headerType := 0,
    bar0 := s.cfg.bar0, bar2 := s.cfg.bar2, otherBars := 0, subVid := s.subVid, subId := s.subId, rom := s.cfg.rom, capPtr := 0x40, intPin := 1 }

/-- The Interrupt Status bit of the Status register (R309). -/
def intStatusBit (c : Chip) (p : HPort) : Bool := bit (intxStatus c p) 0 && bit (getPort c p).intxEn 0 || bit (intxStatus c p) 1 && bit (getPort c p).intxEn 1

/-- The capabilities of a port, in the order of their offsets (R304). -/
inductive Cap where
  | powerManagement
  | pciExpress
  | aer
  | serialNumber
  | ats
  | pasid
  | pri
  | ptm
  | doe
  | ide
  | dataLinkFeature
  | physicalLayer
  | laneMargining
  | cxlDevice
  | flexBusPort
  deriving DecidableEq, Repr, Inhabited

/-- The capability list (R304): the two DVSECs stand only in CXL mode. -/
def capList (c : Chip) (p : HPort) : List (Nat × Cap) :=
  [(0x40, .powerManagement), (0x50, .pciExpress), (0x100, .aer), (0x148, .serialNumber), (0x158, .ats), (0x160, .pasid), (0x168, .pri), (0x178, .ptm),
    (0x188, .doe), (0x1A0, .ide), (0x200, .dataLinkFeature), (0x210, .physicalLayer), (0x240, .physicalLayer), (0x270, .physicalLayer),
    (0x2A0, .physicalLayer), (0x2D0, .laneMargining)]
    ++ (if (getPort c p).proto = 1 then [(0x300, .cxlDevice), (0x340, .flexBusPort)] else [])

/-- The Device Serial Number (R304): bytes 0 to 6 of object 0x1000.06, then 2 × unit number + port. -/
def deviceSerial (c : Chip) (p : HPort) : Bytes := leBytes 7 c.boot.serial ++ leBytes 1 (2 * unitNo c + portNo p)

end Sys2Proof.Machine
end

