-- ==== Sys2Proof/Safety.lean ====
section
/-! DEFINITION. The terms in which the statements speak: what a command answers, when this unit serves a request itself, the response to it, and
the invariant of the level-sensitive outputs. -/

namespace Sys2Proof.Machine

/-- The outcome is a next state. -/
def Goes (o : Host.Outcome State Fault Refusal) : Prop := ∃ t, o = .next t

/-- A command completes: `exec` answers the next state whose unit is `c`, with the level-sensitive outputs settled (R309, R358), and whose
queue is untouched. -/
def Becomes (i : Instr) (s : State) (c : Chip) : Prop := exec i s = .next (put s c)

/-- A command of a block completes so while the block runs: its clock is enabled and its domain is clocked (R340). -/
def BecomesOn (b : Nat) (i : Instr) (s : State) (c : Chip) : Prop := blockRuns s.toChip b = true → Becomes i s c

/-- A command completes with a next state that has the property, its queue untouched. -/
def Answers (i : Instr) (s : State) (post : State → Prop) : Prop := ∃ t, exec i s = .next t ∧ t.pending = s.pending ∧ post t

/-- A command of a block completes with the property while the block runs (R340). -/
def AnswersOn (b : Nat) (i : Instr) (s : State) (post : State → Prop) : Prop := blockRuns s.toChip b = true → Answers i s post

/-- The port's count of payload bytes received, after a host write of `n` bytes (R325). -/
abbrev received (c : Chip) (p : HPort) (n : Nat) : Chip := stat c (0x7012 + portNo p) 2 n

/-- A request is presented and passes every check up to the owning part's (R34, R42). -/
abbrev Passes (s : State) (src : Src) (rq : Req) : Prop := presents s.toChip src rq = true ∧ check s.toChip src rq = 0

/-- A write that this unit serves itself: it passes, and it is not one that unit 1 forwards (R286). -/
abbrev Serves (s : State) (src : Src) (rq : Req) : Prop := Passes s src rq ∧ forwards s.toChip rq = false

/-- A request row is the WRITE of one object (its row's summary says which): when this unit serves it, its part's handler `h` judges it and has
its effect, it is answered (R34) or mirrored (R287), and `after` follows; when a check of R34 refuses it, it is answered with the status and has
no effect. -/
def RowServes (row : Src → Nat → Instr) (i sub : Nat) (payload : Bytes) (h : Chip → Nat × Chip) (after : Chip → Chip) : Prop :=
  ∀ (s : State) (src : Src) (tag : Nat),
    (Serves s src (writeReq tag i sub payload) → Becomes (row src tag) s
      (after (finishWrite (h s.toChip).2 src (writeReq tag i sub payload) (h s.toChip).1 0))) ∧
    (presents s.toChip src (writeReq tag i sub payload) = true → check s.toChip src (writeReq tag i sub payload) ≠ 0 → Becomes (row src tag) s
      (after (respond s.toChip src (writeReq tag i sub payload) (check s.toChip src (writeReq tag i sub payload)) 0 [])))

/-- A request row is accepted: when this unit serves the write and `pre` holds, the unit becomes `eff` of what it was, the request is answered OK
(R34) or mirrored first (R287), and `after` follows. -/
def RowDoes (row : Src → Nat → Instr) (i sub : Nat) (payload : Bytes) (after : Chip → Chip) (pre : Chip → Prop) (eff : Chip → Chip) : Prop :=
  ∀ (s : State) (src : Src) (tag : Nat), Serves s src (writeReq tag i sub payload) → pre s.toChip →
    Becomes (row src tag) s (after (finishWrite (eff s.toChip) src (writeReq tag i sub payload) 0 0))

/-- A request row is turned away by its part: answered with the status, with none of its effect. -/
def RowTurnsAway (row : Src → Nat → Instr) (i sub : Nat) (payload : Bytes) (after : Chip → Chip) (pre : Chip → Prop) (st : Nat) : Prop :=
  ∀ (s : State) (src : Src) (tag : Nat), Serves s src (writeReq tag i sub payload) → pre s.toChip →
    Becomes (row src tag) s (after (finishWrite s.toChip src (writeReq tag i sub payload) st 0))

/-- The last response posted answers a request with a status and a payload, TOTAL 0 (R30). -/
abbrev Posted (t : State) (rq : Req) (st : Nat) (payload : Bytes) : Prop :=
  t.dict.lastResp = some ⟨rq.op, st, rq.tag, rq.index, rq.sub, 0, payload⟩

/-- The unit but for the dictionary service's record and what it has sent is as it was: nothing else changed (R34: a refused request has no
effect). The level-sensitive outputs may settle. -/
def OnlyAnswered (s t : State) : Prop := ∃ d o, t = put s { s.toChip with dict := d, out := o }

/-- The level-sensitive outputs are where the state puts them: SB_ALERT_N low exactly while an enabled summary bit is set, and each port's
INTA wire asserted exactly under the conditions of R309 (R309, R358). -/
def OutputsSettled (c : Chip) : Prop :=
  c.toc.sbAlertN = !sbAlertWanted c ∧ c.port.a.inta = intaWanted c .a ∧ c.port.b.inta = intaWanted c .b

/-! When a command completes: the conditions on the state and the operands alone under which it has its own effect. A request row is accepted; an
access of a host is one that the register takes; an event is due. -/

/-- A request is presented and passes the checks up to the owning part's (R34). -/
def passes (c : Chip) (src : Src) (rq : Req) : Bool := presents c src rq && check c src rq == 0

/-- A write that this unit serves is accepted by its part's handler (R34). -/
def accepts (c : Chip) (src : Src) (rq : Req) (h : Chip → Nat × Chip) : Bool := passes c src rq && !forwards c rq && (h c).1 == 0

/-- A Domain source write is accepted (R344). -/
def domainTaken (c : Chip) (src : Src) (rq : Req) (d v : Nat) : Bool := passes c src rq && domainSourceStatus d v c == 0

/-- A WRITE of any object is accepted by the part that owns it (R34, R344). -/
def writeTaken (c : Chip) (src : Src) (rq : Req) : Bool :=
  if 0x1321 ≤ rq.index && rq.index ≤ 0x1339 && rq.sub == 1 then domainTaken c src rq (rq.index - 0x1320) (leNat rq.payload)
  else accepts c src rq (writeObj src rq.index rq.sub (leNat rq.payload))

/-- A segment of a Pattern image is accepted at this unit (R43). -/
def imageTaken (c : Chip) (m : Master) (rq : Req) : Bool :=
  (writeSegment (imagePre (rq.index - 0x4000)) (imageApply (rq.index - 0x4000)) m rq domainMax c).1 == 0

/-- A WRITE_SEG is accepted (R43). -/
def segmentTaken (c : Chip) (src : Src) (rq : Req) : Bool :=
  passes c src rq && !forwards c rq
    && if rq.index == 0x6000 then (writeSegment (fun c => (stageStatus c, c)) stageChunk (masterOf src) rq domainMax c).1 == 0
      else imageTaken c (masterOf src) rq

/-- A write that unit 1 forwarded is accepted at unit 0, or unit 0's answer comes back to unit 1 (R286). -/
def forwardedTaken (c : Chip) (answer : Option Nat) (tag index sub : Nat) (payload : Bytes) : Bool :=
  let rq := forwardedReq tag index sub payload
  match answer with
  | none =>
    (mirrorEntry index sub).isSome
      && if rq.op == 5 then presents c .forwarded rq && !isGated c index && imageTaken c .h rq else writeTaken c .forwarded rq
  | some _ => linkedUp c && c.dbl.fwd.any (forwardedIs tag index sub)

/-- A register takes a host write of the offset and size (R307). -/
def registerOpen (p : HPort) (b : Bar) (off size : Nat) (c : Chip) : Bool :=
  match b with
  | .bar0 => bar0Allowed c off size
  | .bar2 => sizeOk off size && pageAllowed c p (off / 4096) (off % 4096) size
  | .rom => false

/-- A peer packet is accepted through a window (R260 to R264). -/
def packetTaken (node fab len : Nat) (op : PktOp) (bs : Bytes) (c : Chip) : Bool :=
  serving c && enabled c 7 && !packetBad fab len op
    && match winMatch c node fab len with
      | none => false
      | some (_, v) =>
        if wKind v == 1 then (fixedSeg c (wSpace v) (wDva v + (fab - wBase v)) len).isSome
        else op != .write || (fab == wBase v && len == 32 && bfld bs 0 1 == wTable v)

/-- A promotion starts: its tokens are there, and the frame asked of the other die, if any, is one it may have (R92, R104). -/
def promotionReady (c : Chip) (other : Option Nat) : Bool := mayCopy c && headPays c && (other.map (crossDie c)).getD true

/-- The reads of an admission arrive: those of its queue in order, while its Space is not frozen (R178, R218, R290). -/
def admitDue (c : Chip) (q e : Nat) (patch handles : RdResult) : Bool :=
  (c.pat.reads.find? fun x => x.1 == q) == some (q, e)
    && ((getLaunch c q e).map fun l => l.final == noFinal && readFits patch (enPatch l.entry) && readFits handles (8 * enHandles l.entry)
      && (getSpace c l.space).state != 4).getD false
    && admitAgrees c q e patch handles

/-- The SPDM responder answers on a transport (R384, R387). -/
def spdmServes (c : Chip) (t : Transport) : Bool := spdmReach c t && c.mode != .boot && !c.sec.fw.window

/-- The conditions under which a command has its own effect. -/
def completes (c : Chip) (i : Instr) : Bool :=
  match i with
  | .unitPwrgoodAssert => !c.boot.pwrgood
  | .unitReset pin => c.boot.pwrgood || pin == .alwaysOn
  | .resetRelease => c.boot.pwrgood && !c.boot.rstN
  | .sourceReady src => dueSourceReady c src
  | .storeLoad _ _ => c.boot.fircOn && !c.boot.storeLoaded
  | .bootClockSwitch kclk count => dueBootSwitch c kclk count
  | .xrefReadyTimeout x t =>
    c.boot.storeLoaded && (if x then !c.clk.xref1 && !c.boot.kclkDone && !c.boot.xref1Late else !c.clk.xref0 && !c.boot.mclkRuns)
      && c.boot.storeTick + 10000000 ≤ nowAt c t
  | .firmwareRelease => bootVerified c && verifyReason c c.sec.fw.running true == 0
  | .firmwareVerifyFailAtReset reason => bootVerified c && bootReason c reason
  | .modeRequest src tag v => accepts c src (writeReq tag 0x1100 2 (leBytes 1 v)) (modeRequest (v % 256))
  | .roughSettled => dueSettled c
  | .roughExit src tag v => accepts c src (writeReq tag 0x5100 2 (leBytes 1 v)) (roughExit (v % 256))
  | .mboxGo p => hostPosts c p && hostDecodes c p && (two c.dict.mbox p).state == .idle
  | .mboxAck p => hostPosts c p && hostDecodes c p && (two c.dict.mbox p).state == .done
  | .protoErrClear p => hostPosts c p && hostDecodes c p
  | .registerWrite p bar off size _ => dueRegisterWrite p bar off c && hostDecodes c p && registerOpen p bar off size c
  | .sidebandMessage body =>
    sidebandUp c && !c.sec.fw.window && c.dict.sb.outstanding.isNone && 18 ≤ body.length && bfld body 0 2 == Config.pciVendorId.toNat
      && !lengthWrong (parseReq (body.drop 2)) (body.drop 18)
  | .read src tag index sub len => passes c src ⟨1, 0, tag, index, sub, len, 0, []⟩ && !identWaits c index sub
  | .write src tag index sub payload => writeTaken c src (writeReq tag index sub payload)
  | .describe src tag index sub len => passes c src ⟨3, 0, tag, index, sub, len, 0, []⟩
  | .readSeg src tag index sub len off => passes c src ⟨4, 0, tag, index, sub, len, off, []⟩
  | .writeSeg src tag index sub off flags payload => segmentTaken c src ⟨5, flags % 4, tag, index, sub, payload.length, off, payload⟩
  | .domainStageTimeout m i s t => dueDomainStageTimeout m i s t c
  | .readViewTimeout m i s t => dueReadViewTimeout m i s t c
  | .setEndpointId eid => sidebandUp c && eid % 256 != 0 && eid % 256 != 0xFF
  | .getEndpointId => sidebandUp c
  | .getMctpVersionSupport => sidebandUp c
  | .getMessageTypeSupport => sidebandUp c
  | .getVendorDefinedMessageSupport => sidebandUp c
  | .configCommit src tag v => accepts c src (writeReq tag 0x10F0 7 (leBytes 1 v)) (configCommit (v % 256))
  | .configCommitComplete _ => c.dict.store.commit == 1
  | .spaceCreate src tag sp => sp < 1024 && accepts c src (writeReq tag (0x3000 + sp) 2 (leBytes 1 1)) (spaceCreate sp)
  | .spaceGoLive src tag sp => sp < 1024 && accepts c src (writeReq tag (0x3000 + sp) 2 (leBytes 1 2)) (spaceGoLive sp)
  | .spaceInvalidate src tag sp => sp < 1024 && accepts c src (writeReq tag (0x3000 + sp) 2 (leBytes 1 3)) (spaceInvalidate sp)
  | .spaceRetire src tag sp => sp < 1024 && accepts c src (writeReq tag (0x3000 + sp) 2 (leBytes 1 4)) (spaceRetire sp)
  | .segmentDescriptorWrite src tag sp n payload =>
    sp < 1024 && n < 16 && accepts c src (writeReq tag (0x3000 + sp) (0x10 + n) payload) (segWrite sp n (leNat payload))
  | .bumpCounterFree id => blockRuns c 2 && dueCounterFree c id
  | .bumpDrainComplete id => blockRuns c 2 && (((getBump c id).map fun b => b.phase == BumpPhase.draining && drained c b).getD false)
  | .bumpFlushReadComplete id => blockRuns c 2 && (((getBump c id).map fun b => b.phase == BumpPhase.flushing).getD false)
  | .drainAlertExpiry id t => blockRuns c 2 && dueDrainAlert id t c
  | .atsInvalidateRequest p itag _ => linkIsUp c p && itag < 32 && two c.sp.invQueued p < 32
  | .facetLoadBuild src tag payload => accepts c src (writeReq tag 0x3410 1 payload) (facetLoad (leNat payload))
  | .facetLoadFill src tag payload => accepts c src (writeReq tag 0x3410 1 payload) (facetLoad (leNat payload))
  | .facetLoadComplete r => c.sp.load.state == 1 && rdFits r (16 * c.sp.load.count)
  | .cutJobGrant cutter q e n side idx => blockRuns c 2 && dueGrant cutter q e n side idx c
  | .facetCacheMissReturn cutter line => blockRuns c 2 && c.sp.missing.contains (cutter, line)
  | .cutListRetry cutter => blockRuns c 2 && (((tget c.sp.cutters cutter).map fun j => j.phase == .list).getD false)
  | .atsTranslationCompletion cutter _ =>
    blockRuns c 2 && (((tget c.sp.cutters cutter).map fun j => j.phase == .ats && j.sent).getD false || atsOrphans c != 0)
  | .priPageResponse p _ _ => blockRuns c 2 && two c.sp.priOut p != 0
  | .sideCutComplete cutter => blockRuns c 2 && (((tget c.sp.cutters cutter).map fun j => j.phase == .done).getD false)
  | .nodeRecut q e n =>
    blockRuns c 2 && (((getLaunch c q e).map fun l => l.final == noFinal && ((getNode l n).map fun x => waitsOver c l x).getD false).getD false)
  | .faultTimeoutExpiry q e n t => blockRuns c 2 && dueFaultTimeout q e n t c
  | .mapBuildFillDone => c.geo.build.state == 1
  | .promotionTokenAccrue => blockRuns c 3 && c.geo.tokenAt < now c && c.geo.tokens < tokenCap c
  | .promotionStart other => blockRuns c 3 && promotionReady (accrue c) other
  | .promotionCopyComplete sp seg g => blockRuns c 3 && copying c sp seg g && copyOk c (.promote sp seg g) sp seg g
  | .promotionCopyFail sp seg g => blockRuns c 3 && copying c sp seg g && copyBad c (.promote sp seg g) sp seg g
  | .sweepVisit list => blockRuns c 3 && (((tget c.geo.sweeps list).map fun x => x.on).getD false) && serving c && sdRoom c
  | .writeBackComplete sp seg g => blockRuns c 3 && writingBack c sp seg g && copyOk c (.writeBack sp seg g) sp seg g
  | .writeBackFail sp seg g => blockRuns c 3 && !isPromoting (entryOf c sp seg g) && copyBad c (.writeBack sp seg g) sp seg g
  | .writeBackRequest src tag payload => accepts c src (writeReq tag 0x3500 0x12 payload) (writeBackRequest (leNat payload))
  | .grainProbeRequest src tag payload => accepts c src (writeReq tag 0x3500 0x15 payload) (grainProbe (leNat payload))
  | .quarantineTimeExpiry t => blockRuns c 3 && (oldBatch t c).isSome
  | .farDecayVisit => blockRuns c 3 && dueDecay c
  | .tallyForward inbound => blockRuns c 3 && c.mode == .doublet && (match inbound with | none => !c.geo.tallies.isEmpty | some _ => bridgeUp c)
  | .geodeStateAck sp seg g change =>
    blockRuns c 3 && (match change with | none => c.geo.acks.contains (sp, seg, g) | some _ => c.mode == .doublet && !manages c g
      && (tget c.geo.maps (mapKey sp seg)).isSome)
  | .nodeBind q e n => blockRuns c 4 && dueBind q e n c
  | .strokeIssue ch =>
    blockRuns c 4 && (ch < 64 && (getChan c ch).state == 1 && chanInService c ch && ((nextIssue c ch).map fun x => issueOk c ch x).getD false)
  | .requestResponse id a => blockRuns c 4 && ((tget c.xf.reqs id).map fun x => answerFits x a).getD false
  | .strokeComplete ch sd k =>
    blockRuns c 4 && (((getStroke c ch sd k).bind fun x => (getSd c sd).map fun d => (x, d)).map fun x => strokeOver x.1).getD false
  | .strokeErrorRetryable ch sd k cls =>
    blockRuns c 4 && (((getStroke c ch sd k).bind fun x => (getSd c sd).map fun d => (x, d)).map fun x => x.1.err == cls && retryable cls
      && !x.1.aborted && x.1.phase != .retry).getD false
  | .strokeRetryReissue ch => blockRuns c 4 && (retryStroke c ch).isSome
  | .strokeErrorFatal ch sd k cls =>
    blockRuns c 4 && (((getStroke c ch sd k).bind fun x => (getSd c sd).map fun d => (x, d)).map fun x => x.1.err == cls && 5 ≤ cls
      && !x.1.aborted).getD false
  | .channelResume src tag ch v => ch < 64 && accepts c src (writeReq tag (0x3600 + ch) 2 (leBytes 1 v)) (channelControl ch (v % 256))
  | .paceAtTickMet q e n t => blockRuns c 4 && ((paceWaits c q e n 1).map fun x => decide (dPaceTick x.body ≤ nowAt c t)).getD false
  | .pacePeriodDue ch t =>
    blockRuns c 4 && (getChan c ch).state == 2 && ((nextIssue c ch).map fun sd => decide (periodTick c sd ≤ nowAt c t)).getD true
  | .paceAfterChannelMet q e n =>
    blockRuns c 4 && ((paceWaits c q e n 3).map fun x => x.paceBase != 0 && obj c (0x3600 + dPaceCh x.body) 4 != x.paceBase - 1).getD false
  | .markFire q e n half => blockRuns c 4 && dueMark q e n half c
  | .scaleBankWrite p off size _ => hostPosts c p && hostDecodes c p && bankAllowed c off size
  | .tableDefine src tag t => 1 ≤ t && t < 256 && accepts c src (writeReq tag (0x3800 + t) 2 (leBytes 1 1)) (tableDefine t)
  | .tableUndefine src tag t => 1 ≤ t && t < 256 && accepts c src (writeReq tag (0x3800 + t) 2 (leBytes 1 2)) (tableUndefine t)
  | .manifestPost src tag payload => accepts c src (writeReq tag 0x3800 2 payload) (lapPost (leNat payload))
  | .manifestApplyStart =>
    blockRuns c 6 && serving c && enabled c 6 && !followsLead c && lapRuns c && c.lap.job.isNone
      && (c.lap.posts.head?.map fun p => !isFrozen c .table p.table && !manifestHeld c p).getD false
  | .manifestHeaderArrive r => blockRuns c 6 && ((c.lap.job.map fun j => c.lap.stat.state == 1 && j.raw.isEmpty && rdFits r j.post.len).getD false)
  | .grainOpen seg grain =>
    blockRuns c 6 && ((c.lap.job.map fun j => j.opening.any (fun x => x.1 == seg && x.2.1 == grain)
      && !eMigr (entryOf c (tabSpace c j.post.table) seg grain) && sdRoom c).getD false)
  | .rowPullComplete row r _ =>
    blockRuns c 6 && ((c.lap.job.map fun j => c.lap.stat.state == 2 && (rowReady c j row).isSome && sdRoom c
      && r == .data (pullData j row)).getD false)
  | .manifestApplied => blockRuns c 6 && c.lap.stat.state == 2 && (c.lap.job.map (allApplied c)).getD false && !c.lap.failed
  | .commitStart t =>
    blockRuns c 6 && ((c.lap.job.map fun j => c.lap.stat.state == 3 && !isFrozen c .table j.post.table && j.commitTick ≤ nowAt c t
      && (getTable c j.post.table).older == 0).getD false)
  | .commitSweepStep =>
    blockRuns c 6 && ((c.lap.job.map fun j => c.lap.stat.state == 4
      && (j.left.head?.map fun g => !eMigr (entryOf c (tabSpace c j.post.table) g.seg g.grain)).getD false).getD false)
  | .publishAck => blockRuns c 6 && c.lap.holding
  | .releaseSweepStep t => blockRuns c 6 && (getTable c t).older == 3 && !(getTable c t).relLeft.isEmpty
  | .refreshStallAlert t tick => blockRuns c 6 && (epochStalled c t (nowAt c tick) || jobStalled c t (nowAt c tick))
  | .lapidaryAbortRequest src tag t => accepts c src (writeReq tag 0x3800 5 (leBytes 1 t)) (lapAbort (t % 256))
  | .doorbellWrite p q size _ => hostPosts c p && hostDecodes c p && q < 4096 && pageAllowed c p q 0 size
  | .producerValueTake lane => blockRuns c 0 && lane < 4 && !(laneOf c lane).isEmpty
  | .ringFetchIssue => blockRuns c 0 && (fetchNext c).isSome
  | .ringReadComplete q r => blockRuns c 0 && (getQueue c q).reading != 0 && rdFits r (64 * (getQueue c q).reading) && ringAgrees c q r
  | .completionFlushReadComplete q e => blockRuns c 0 && dueFlush c q e
  | .queueCreate src tag q => q < 4096 && accepts c src (writeReq tag (0x2000 + q) 2 (leBytes 1 1)) (queueCreate q)
  | .queueResume src tag q => q < 4096 && accepts c src (writeReq tag (0x2000 + q) 2 (leBytes 1 2)) (queueResume q)
  | .queueDestroy src tag q => q < 4096 && accepts c src (writeReq tag (0x2000 + q) 2 (leBytes 1 3)) (queueDestroy q)
  | .queueReattach src tag q => q < 4096 && accepts c src (writeReq tag (0x2000 + q) 2 (leBytes 1 4)) (queueReattach q)
  | .watchdogExpiry q e t => blockRuns c 0 && dueWatchdog q e t c
  | .patternRegister src tag p => p < 1024 && accepts c src (writeReq tag (0x4000 + p) 2 (leBytes 1 1)) (patternRegister p)
  | .patternCheckComplete p => (getPat c p).state == 1
  | .patternRetire src tag p => p < 1024 && accepts c src (writeReq tag (0x4000 + p) 2 (leBytes 1 2)) (patternRetire p)
  | .patternClear src tag p => p < 1024 && accepts c src (writeReq tag (0x4000 + p) 2 (leBytes 1 3)) (patternClear p)
  | .admissionStart pipe => blockRuns c 1 && pipe < 2 && (pipeNext c pipe).isSome
  | .admissionReadsArrive q e patch handles => blockRuns c 1 && admitDue c q e patch handles
  | .joinBetweenBoundaries slot => blockRuns c 1 && (joinBetween slot c).isSome
  | .stepBoundary slot t => blockRuns c 1 && dueStepBoundary slot t c
  | .waitTickReached q e n t => blockRuns c 1 && ((readyNode c q e n 7).map fun r => decide (waitTarget r.1 r.2 ≤ nowAt c t)).getD false
  | .fenceNodeComplete q e n => blockRuns c 1 && dueFence q e n c
  | .runDispatch cluster => blockRuns c (clusterBlock cluster) && (if cluster < 16 then runDispatch c cluster else none).isSome
  | .runResult cluster core _ => blockRuns c (clusterBlock cluster) && (tget (getClu c cluster).cores core).isSome
  | .redispatchWaitExpiry q e n t => blockRuns c 1 && redispatchLate c q e n t
  | .abortWaitExpiry cluster core t =>
    blockRuns c (clusterBlock cluster) && (((tget (getClu c cluster).cores core).map fun r => r.aborted && r.abortAt ≤ nowAt c t).getD false)
  | .switchPointBoundExpiry slot t => blockRuns c 1 && (getSlot c slot).timerOn && (getSlot c slot).timer ≤ nowAt c t && !freesNow slot t c
  | .saveComplete q e =>
    blockRuns c 1 && (((getLaunch c q e).map fun l => l.ctx == .saving && l.final == noFinal).getD false) && ownerDone c (.save q e)
  | .restoreComplete q e =>
    blockRuns c 1 && (((getLaunch c q e).map fun l => l.ctx == .restoring && l.final == noFinal).getD false) && ownerDone c (.restore q e)
  | .bootstrapCopy => blockRuns c 1 && (bootNext c 1).isSome
  | .bootstrapFill => blockRuns c 1 && (bootNext c 2).isSome
  | .bootstrapDescriptor => blockRuns c 1 && (bootNext c 3).isSome
  | .bootstrapRun => blockRuns c 1 && (bootNext c 4).isSome
  | .bootstrapWait => blockRuns c 1 && (bootNext c 5).isSome
  | .bootstrapDigest => blockRuns c 1 && (bootNext c 6).isSome
  | .inboundPacket node fabric len op payload =>
    c.peer.packets.length < 1024 && (op != .write || payload.length == len) && packetTaken node fabric len op payload c
  | .inboundResponse id a => blockRuns c 7 && ((getPacket c id).map fun y => packetFits y a).getD false
  | .peerWindowCommit src tag v => accepts c src (writeReq tag 0x12F0 1 (leBytes 1 v)) (peerCommit (v % 256))
  | .peerRequestTimeout id t => blockRuns c 7 && ((tget c.xf.reqs id).map fun x => x.route == 7 && x.limit ≤ nowAt c t).getD false
  | .windowEnable src tag w => w < 64 && accepts c src (writeReq tag (0x4840 + w) 2 (leBytes 1 1)) (windowEnable w)
  | .windowDisable src tag w => w < 64 && accepts c src (writeReq tag (0x4840 + w) 2 (leBytes 1 2)) (windowDisable w)
  | .snoop p addr _ => blockRuns c 8 && cacheUp c p && addr < 2 ^ 64
  | .lineReadComplete p addr line =>
    blockRuns c 8 && ((c.coh.late.any fun x => x.1 == (lineKey p addr)) || (tgetD c.coh.lines (lineKey p addr) Line.reset).reading)
      && line.length == 64 && lanesTake c (valueQueues c (lineKey p addr))
  | .windowResume p => cacheUp c p && serving c && (portWindows c p).any fun x => x.2 == 2
  | .bridgeUp => dueBridgeUp c
  | .joinMessage _ _ => c.unit1 && linkedUp c && !joining c && (c.mode == .rough || c.mode == .normal) && !c.dbl.wasJoined
  | .joinReady reason _ => dueJoinReady c reason
  | .joinTick t => firstRough c && c.dbl.joinStep == 6 && linkedUp c && c.dbl.joinTick ≤ nowAt c t
  | .joinTimeout t => c.dbl.state == 1 && c.dbl.joinStart + obj c 0x4900 3 ≤ nowAt c t
  | .bridgeFlush => paired c
  | .flushDone => c.dbl.flushing && linkedUp c
  | .keepalive t => paired c && c.dbl.kaNext ≤ nowAt c t
  | .bridgeLossTimeout t => linkedUp c || (joining c && c.dbl.joinStart + 2000000 ≤ nowAt c t)
  | .partnerFatal => linkedUp c && (joining c || c.dbl.wasJoined)
  | .partnerDrained => linkedUp c && c.mode == .split && c.dbl.kind == 1 && !c.dbl.drained
  | .forwardedWrite answer tag index sub payload => forwardedTaken c answer tag index sub payload
  | .mirrorUpdate k num _ content =>
    linkedUp c && mirrorNum k num && !content.isEmpty && mirrorFits k (content.drop 1)
      && (if c.unit1 then joining c || c.mode == .doublet else c.mode == .doublet && c.dbl.remirror.contains (mirrorKey k num))
  | .mirrorAck k num => leadsMirror c && linkedUp c && (firstWait c k num).isSome
  | .mirrorAudit k num _ digest =>
    leadsMirror c && linkedUp c && mirrorNum k num && obj c 0x4900 5 != 0 && (firstWait c k num).isNone && digest.length == 48
  | .perstAssert p => !(getPort c p).perst
  | .perstDeassert p => (getPort c p).perst
  | .hotReset p => linkIsUp c p
  | .linkDown p => linkIsUp c p
  | .lossOfLightTimeout p t => linkIsUp c p && domainRuns c (9 + portNo p) && 40000 ≤ nowAt c t
  | .linkUp p rate width => canTrain c p && (rate == 0 || (rateOk (getPort c p).proto rate && widthOk width))
  | .linkRecovery p => linkIsUp c p
  | .initiateFlr p => linkIsUp c p && cfgAnswers c p
  | .bmeClear p => linkIsUp c p && cfgAnswers c p
  | .d3hotEntry p => linkIsUp c p && cfgAnswers c p
  | .configWrite p reg v => linkIsUp c p && cfgAnswers c p && !heldOff c p reg v
  | .portAttach src tag p => accepts c src (writeReq tag (0x1210 + portNo p) 8 (leBytes 1 1)) (portAttach src p)
  | .portDetach src tag p => accepts c src (writeReq tag (0x1210 + portNo p) 8 (leBytes 1 2)) (portDetach p)
  | .completionTimeout id t =>
    (((tget c.xf.reqs id).bind fun x => (routePort x.route).map fun p => (x, p)).map fun x => !x.1.write && decide (x.1.limit ≤ nowAt c t)).getD false
  | .l0pEntry p t => (getPort c p).link == 2 && bit (getPort c p).cfg.aspm 0 && 4 < (getPort c p).width && obj c (0x1210 + portNo p) 5 ≤ nowAt c t
  | .l1Entry p t =>
    ((getPort c p).link == 2 || (getPort c p).link == 3) && bit (getPort c p).cfg.aspm 1 && obj c (0x1210 + portNo p) 6 ≤ nowAt c t
      && readsOn c p == 0 && !activeQueue c p && !ptmDue c p (nowAt c t)
  | .linkPowerExit p => (getPort c p).link == 3 || (getPort c p).link == 4
  | .opticalPoll p _ _ _ _ t => c.boot.mclkRuns && domainRuns c (9 + portNo p) && (getPort c p).oeNext ≤ (nowAt c t)
  | .opticalEngineFault p _ width => c.boot.mclkRuns && domainRuns c (9 + portNo p) && (width == 0 || widthOk width)
  | .romRead p o n => hostReach c p && hostDecodes c p && romAllowed c p o n
  | .carillonNowLowRead p => hostReach c p && hostDecodes c p
  | .carillonNowHighRead p => hostReach c p && hostDecodes c p
  | .intxMgmtClear p => hostPosts c p && hostDecodes c p
  | .ptmRequest t =>
    ((ptmPort c).map fun p => (getPort c p).link != 4).getD false && c.boot.mclkRuns && !kclkFirc c && !followsPartner c
      && c.clk.disc.ptmNext ≤ nowAt c t
  | .ptmResponse _ t => c.clk.disc.ptmOut && nowAt c t ≤ c.clk.disc.ptmSent + 100000
  | .ppsEdge _ => c.boot.fircOn && timeSource c == 3 && !kclkFirc c && !followsPartner c
  | .timeStep src tag v => accepts c src (writeReq tag 0x1300 6 (leBytes 8 v)) (timeStep v)
  | .align src tag v => accepts c src (writeReq tag 0x1300 0xF (leBytes 1 v)) (alignWrite (v % 256))
  | .holdoverEntryExpiry t => (c.clk.disc.state == 1 || c.clk.disc.state == 2) && c.clk.disc.since + obj c 0x1300 9 ≤ nowAt c t
  | .monitorWindowEnd m _ => m < 7 && bit c.clk.armed m && (m == 0 || c.clk.firc || c.clk.xref0)
  | .pllStart src tag k => k < 4 && accepts c src (writeReq tag (0x1310 + k) 2 (leBytes 1 1)) (pllStart k)
  | .pllStop src tag k => k < 4 && accepts c src (writeReq tag (0x1310 + k) 2 (leBytes 1 2)) (pllStop k)
  | .pllLockTimeout k t => k < 4 && pllState c k == 1 && c.clk.pllAt.getD k 0 + 1000000 ≤ nowAt c t
  | .domainSourceWrite src tag d v => 1 ≤ d && d ≤ 25 && domainTaken c src (writeReq tag (0x1320 + d) 1 (leBytes 1 v)) d (v % 256)
  | .muxSwitchDone d => 1 ≤ d && d ≤ 25 && muxOf c d == 1 && normalReady c d && fallbackRuns c d
  | .meterRequest src tag payload => accepts c src (writeReq tag 0x1350 1 payload) (meterRequest (leNat payload))
  | .meterWindowEnd _ => c.clk.meter == 1 && meterRuns c c.clk.meterR
  | .meterStall => c.clk.meter == 1
  | .clockEnableSet src tag v => accepts c src (writeReq tag 0x1100 3 (leBytes 4 v)) (clockEnables v)
  | .clockEnableClear src tag v => accepts c src (writeReq tag 0x1100 3 (leBytes 4 v)) (clockEnables v)
  | .tocsinEvent n element level detail => dueTocsin c n element level detail
  | .graceTimerExpiry n t => (getSrc c n).timerOn && (getSrc c n).timer ≤ nowAt c t && policyRuns c
  | .tocsinWindowClose n t => (getSrc c n).winOpen && (getSrc c n).winClose ≤ nowAt c t
  | .sourceAck src tag n => n < 192 && accepts c src (writeReq tag (0x5000 + n) 2 (leBytes 1 1)) (sourceAck n)
  | .clearSticky src tag n => n < 192 && accepts c src (writeReq tag (0x5000 + n) 2 (leBytes 1 2)) (clearSticky n)
  | .clearAllSticky src tag v => accepts c src (writeReq tag 0x5100 4 (leBytes 1 v)) (clearAllSticky (v % 256))
  | .maskWrite src tag n v => n < 192 && accepts c src (writeReq tag (0x5000 + n) 5 (leBytes 1 v)) (maskWrite n (v % 256))
  | .telemetrySample temp power t =>
    tocsinRuns c && c.toc.sampleNext ≤ nowAt c t && decide (-2147483648 ≤ temp) && decide (temp < 2147483648) && power < 2 ^ 32
  | .rotResponse tag status payload =>
    c.boot.mclkRuns && status < 4 && payload.length ≤ 4096 && (status == 0 || payload.isEmpty) && ((c.sec.rot.map fun r => r.tag == tag).getD false)
  | .rotTimeout t => (c.sec.rot.map fun r => decide (r.sent + 100000000 ≤ nowAt c t)).getD false
  | .stageRequest src tag payload => accepts c src (writeReq tag 0x6000 2 payload) (stageRequest (leNat payload))
  | .stageWriteComplete r => c.sec.fw.state == 1 && rdFits r c.sec.fw.stageLen
  | .firmwareVerify src tag => accepts c src (writeReq tag 0x6000 5 (leBytes 1 1)) firmwareVerify
  | .verifyComplete _ => c.sec.fw.state == 2 && !verifyPending c
  | .firmwareActivate src tag => accepts c src (writeReq tag 0x6000 5 (leBytes 1 2)) firmwareActivate
  | .firmwareDiscard src tag => accepts c src (writeReq tag 0x6000 5 (leBytes 1 3)) firmwareDiscard
  | .activationLoadChecked _ => c.sec.fw.state == 5 && !c.sec.fw.window
  | .activationWindowClose => c.sec.fw.window
  | .counterRaiseRetry t => c.sec.fw.raise && c.sec.fw.raiseAt ≤ nowAt c t && !rotPending c fun b => b == .counterRaise
  | .modelMeasureRequest src tag v => accepts c src (writeReq tag 0x6008 2 (leBytes 1 v)) (measureRequest (v % 256))
  | .modelMeasureComplete r => c.sec.meas.state == 1 && measureFits r c
  | .tenancyAttach src tag => accepts c src (writeReq tag 0x6020 2 (leBytes 1 1)) tenancyAttach
  | .tenancyEnd src tag => accepts c src (writeReq tag 0x6020 2 (leBytes 1 2)) tenancyEnd
  | .tenancyScrub src tag => accepts c src (writeReq tag 0x6020 2 (leBytes 1 3)) tenancyScrub
  | .drainLimitExpiry t => c.sec.ten.state == 3 && c.sec.ten.step == 2 && c.sec.ten.endTick + obj c 0x6020 5 ≤ nowAt c t
  | .scrubComplete => scrubOver c
  | .ideCheckFailure p stream => stream < 5 && bit c.sec.spdm.streams (5 * portNo p + stream)
  | .getVersion t => spdmServes c t
  | .getCapabilities t => spdmServes c t
  | .negotiateAlgorithms t => spdmServes c t
  | .getDigests t => spdmServes c t
  | .getCertificate t slot _ _ => spdmServes c t && slot == 0
  | .challenge t slot => spdmServes c t && slot == 0
  | .getMeasurements t block => spdmServes c t && ((1 ≤ block && block ≤ 8) || block == 0xFF)
  | .keyExchange t => spdmServes c t && sessionsOf c t + handshakesOf c t < 2
  | .finish t => spdmServes c t && handshakesOf c t != 0
  | .endSession t => spdmServes c t && sessionsOf c t != 0
  | .spdmHeartbeat t => spdmServes c t && sessionsOf c t != 0
  | .keyUpdate t => spdmServes c t && sessionsOf c t != 0
  | .ideQuery p => spdmServes c (.doe p) && sessionsOf c (.doe p) != 0
  | .keyProg p stream _ _ => spdmServes c (.doe p) && sessionsOf c (.doe p) != 0 && stream < 5 && !tenantEnding c
  | .kSetGo p stream set =>
    spdmServes c (.doe p) && sessionsOf c (.doe p) != 0 && stream < 5 && !tenantEnding c && (tget c.sec.spdm.keys (ideKey p stream set)).isSome
  | .kSetStop p stream set => spdmServes c (.doe p) && sessionsOf c (.doe p) != 0 && (tget c.sec.spdm.keys (ideKey p stream set)).isSome
  | .linkError p _ => linkIsUp c p
  | .ptmResponseTimeout t => c.clk.disc.ptmOut && c.clk.disc.ptmSent + 100000 < nowAt c t
  | .bootstrapDigestComplete => blockRuns c 1 && (digestReady c).isSome
  | .bootstrapReadComplete r => blockRuns c 1 && (((bootWaits c 3).isSome && rdFits r 128) || ((bootWaits c 4).isSome && rdFits r 192))

end Sys2Proof.Machine
end

