-- ==== Sys2Proof/Certificates/Slice0/Obligations.lean ====
section
/-! DEFINITION. The statements for the provers. Each docstring names the rules of the spec behind it; a clause about a choice of the model's says so
and names its log entry. -/

open Sys2Proof Sys2Proof.Machine

/-! The machine as a whole. -/

/-- A step with a command at the front of the queue is that command's effect on the state with the queue's rest: the statements about commands reach a run through this one. -/
def Obligations.StepRunsFrontCommand : Prop :=
  ∀ (s : State) (i : Instr), step { s with pending := i :: s.pending } = exec i s

/-- On an empty queue one KCLK cycle of Carillon passes (log entry 2, DESIGN CHOICE: the commands have no row for a tick) and nothing else: with FIRC started and KCLK clocked
and on PLL-K, Carillon advances by 1 (R326). -/
def Obligations.EmptyQueuePassesOneTick : Prop :=
  (∀ s : State, s.pending = [] → ∃ t, step s = .next t ∧ t.pending = []) ∧
  (∀ s : State, s.pending = [] → s.boot.fircOn = true → domainRuns s.toChip 22 = true → kclkOnFirc s.toChip = false →
    step s = .next (put s { s.toChip with clk := { s.clk with carillon := (s.clk.carillon + 1) % 2 ^ 64 } }))

/-- No command is refused, none touches the queue, and the one way a command does not complete is the fault that names it when its conditions do not hold (log entry 1). -/
def Obligations.CommandsCompleteOrAreNotDue : Prop :=
  ∀ (i : Instr) (s : State), (∃ t, exec i s = .next t ∧ t.pending = s.pending) ∨ ∃ n, exec i s = .fault (.notDue n)

/-- Every command of the table completes, and where: for every constructor of the command type, from UNIT_PWRGOOD_ASSERT, UNIT_RESET, RESET_RELEASE, SOURCE_READY and
STORE_LOAD to BOOTSTRAP_READ_COMPLETE, `completes` gives its conditions on the state and the operands alone (a request row is presented, passes the checks of R34 and is
accepted by its part, R34; a host write reaches a register that takes it, R307; a message has the responder's answer, R387; an event is due, and its block runs, R340), and
under them the command answers a next state: its own effect, with its queue untouched and the level-sensitive outputs settled (R309, R358). What that effect is, the
statements of the families say. -/
def Obligations.EveryCommandCompletesUnderItsConditions : Prop :=
  ∀ (i : Instr) (s : State), completes s.toChip i = true → ∃ t, exec i s = .next t ∧ t.pending = s.pending ∧ OutputsSettled t.toChip

/-- Whatever the state before, after every step SB_ALERT_N and both INTA wires stand where the state puts them (R309, R358): the outputs are level-sensitive and never lag. -/
def Obligations.EveryStepSettlesOutputs : Prop :=
  ∀ s t : State, step s = .next t → OutputsSettled t.toChip

/-- The outputs are settled right after reset: SB_ALERT_N released, both INTA wires deasserted. The unit right after reset (R14, R15, R27, R326, R340, R399): MODE reads BOOT,
no clock is enabled, Carillon and every statistic read their defaults, both links are down, no queue, launch, Pattern, Space but Space 0 or table exists, every channel,
slot, Cutter and core of unit 0 is in service, no command waits. -/
def Obligations.ResetLeavesBoot : Prop :=
  OutputsSettled State.reset.toChip ∧
  readVal State.reset.toChip 0x1100 1 = 0 ∧ State.reset.clk.enables = 0 ∧ State.reset.clk.carillon = 0 ∧ State.reset.objs = []
    ∧ (getPort State.reset.toChip .a).link = 0 ∧ (getPort State.reset.toChip .b).link = 0
    ∧ State.reset.bel.queues = [] ∧ State.reset.pat.launches = [] ∧ State.reset.pat.pats = [] ∧ State.reset.lap.tables = []
    ∧ (getSpace State.reset.toChip 0).state = 2 ∧ (∀ sp, sp ≠ 0 → (getSpace State.reset.toChip sp).state = 0)
    ∧ State.reset.toc.channels = 2 ^ 64 - 1 ∧ State.reset.toc.slots = 2 ^ 32 - 1 ∧ State.reset.toc.cutters = 0xFFFF
    ∧ State.reset.pending = []

/-! The dictionary service (R24 to R45). -/

/-- The order of the checks of R34 once MCLK runs: the first that applies gives the status. "A request refused at any step has no effect" (R34): a WRITE that the checks
refuse is answered with their status and changes nothing but the service's record of responses and what was sent; so is a READ, a DESCRIBE and a segment. What `react`
does is what follows any command. -/
def Obligations.RequestsAreCheckedInOrder : Prop :=
  (∀ (c : Chip) (src : Src) (rq : Req), c.boot.mclkRuns = true →
    ((objRows rq.index).isEmpty = true → objRow rq.index rq.sub = none → check c src rq = 1) ∧
    ((objRows rq.index).isEmpty = false → objRow rq.index rq.sub = none → check c src rq = 2) ∧
    (∀ r, objRow rq.index rq.sub = some r →
      ((rq.op = 0 ∨ 5 < rq.op) → check c src rq = 4) ∧
      (1 ≤ rq.op → rq.op ≤ 5 →
        (rq.op ≠ 3 → modeServes c rq.index rq.sub = false → check c src rq = 7) ∧
        (rq.op ≠ 3 → modeServes c rq.index rq.sub = true → isGated c rq.index = true → check c src rq = 9) ∧
        ((rq.op = 3 ∨ (modeServes c rq.index rq.sub = true ∧ isGated c rq.index = false)) →
          (hasRight r (masterOf src) rq.op = false → check c src rq = 3) ∧
          (hasRight r (masterOf src) rq.op = true →
            (((rq.op = 1 ∨ rq.op = 2) ∧ r.typ = 12) ∨ ((rq.op = 4 ∨ rq.op = 5) ∧ r.typ ≠ 12) → check c src rq = 4) ∧
            (¬ (((rq.op = 1 ∨ rq.op = 2) ∧ r.typ = 12) ∨ ((rq.op = 4 ∨ rq.op = 5) ∧ r.typ ≠ 12)) →
              ((rq.op = 1 ∨ rq.op = 3) ∧ rq.len ≠ 0) ∨ (rq.op = 2 ∧ (rq.len ≠ r.size ∨ rq.payload.length ≠ rq.len))
                ∨ ((rq.op = 4 ∨ rq.op = 5) ∧ 2032 < rq.len) → check c src rq = 8)))))) ∧
  (∀ (s : State) (src : Src) (tag i sub : Nat) (payload : Bytes),
    presents s.toChip src (writeReq tag i sub payload) = true → check s.toChip src (writeReq tag i sub payload) ≠ 0 →
    Becomes (.write src tag i sub payload) s
      (react (respond s.toChip src (writeReq tag i sub payload) (check s.toChip src (writeReq tag i sub payload)) 0 []))) ∧
  (∀ (s : State) (src : Src) (tag i sub len : Nat),
    presents s.toChip src ⟨1, 0, tag, i, sub, len, 0, []⟩ = true → check s.toChip src ⟨1, 0, tag, i, sub, len, 0, []⟩ ≠ 0 →
    Answers (.read src tag i sub len) s fun t =>
      OnlyAnswered s t ∧ Posted t ⟨1, 0, tag, i, sub, len, 0, []⟩ (check s.toChip src ⟨1, 0, tag, i, sub, len, 0, []⟩) []) ∧
  (∀ (s : State) (src : Src) (tag i sub len : Nat),
    presents s.toChip src ⟨3, 0, tag, i, sub, len, 0, []⟩ = true → check s.toChip src ⟨3, 0, tag, i, sub, len, 0, []⟩ ≠ 0 →
    Answers (.describe src tag i sub len) s fun t =>
      OnlyAnswered s t ∧ Posted t ⟨3, 0, tag, i, sub, len, 0, []⟩ (check s.toChip src ⟨3, 0, tag, i, sub, len, 0, []⟩) []) ∧
  (∀ (s : State) (src : Src) (tag i sub off flags : Nat) (payload : Bytes),
    presents s.toChip src ⟨5, flags % 4, tag, i, sub, payload.length, off, payload⟩ = true →
    check s.toChip src ⟨5, flags % 4, tag, i, sub, payload.length, off, payload⟩ ≠ 0 →
    Answers (.writeSeg src tag i sub off flags payload) s fun t => OnlyAnswered s t ∧ t.dict.staged = s.dict.staged)

/-- READ returns the value of a non-DOMAIN object, DESCRIBE its attribute record and default (R31, R32); neither changes anything else. The serial number and the key digest
answer BUSY until they are fetched; a joined unit's measured offset and the bridge's byte count are free values (log entry 90). A WRITE that passes the checks and that
this unit serves takes its part's effect (`writeObj`) and is answered with its status: here for every object that only stores what lies in its range, which then reads so
(R24, R31). The response is posted when the object is not mirrored. A write that unit 1 forwards (R286): unit 0 in DOUBLET serves it as its own, a whole image becomes
the Pattern's image, and unit 1 returns the status that unit 0 answers to the presenter. -/
def Obligations.ReadsAndWritesAreServed : Prop :=
  (∀ (s : State) (src : Src) (tag i sub : Nat), Passes s src ⟨1, 0, tag, i, sub, 0, 0, []⟩ → identWaits s.toChip i sub = false →
    ¬ (i = 0x704A ∧ sub = 1) → ¬ (i = 0x4900 ∧ sub = 6) →
    Answers (.read src tag i sub 0) s fun t =>
      OnlyAnswered s t ∧ Posted t ⟨1, 0, tag, i, sub, 0, 0, []⟩ 0 (leBytes (objSize i sub) (readVal s.toChip i sub))) ∧
  (∀ (s : State) (src : Src) (tag i sub : Nat), Passes s src ⟨1, 0, tag, i, sub, 0, 0, []⟩ → identWaits s.toChip i sub = true →
    Answers (.read src tag i sub 0) s fun t => OnlyAnswered s t ∧ Posted t ⟨1, 0, tag, i, sub, 0, 0, []⟩ 6 []) ∧
  (∀ (s : State) (src : Src) (tag i sub : Nat) (r : ObjRow), Passes s src ⟨3, 0, tag, i, sub, 0, 0, []⟩ → objRow i sub = some r → r.typ ≠ 12 →
    Answers (.describe src tag i sub 0) s fun t =>
      OnlyAnswered s t ∧ Posted t ⟨3, 0, tag, i, sub, 0, 0, []⟩ 0
        (leBytes 8 (pack [(r.typ, 1), (r.accH + 4 * r.accS, 1), (r.kept, 1), (objBlock i, 1), (r.size, 4)])
          ++ leBytes r.size (defaultOf s.toChip i sub))) ∧
  (∀ (s : State) (src : Src) (tag p len off : Nat), p < 1024 → Passes s src ⟨4, 0, tag, 0x4000 + p, 3, len, off, []⟩ →
    Answers (.readSeg src tag (0x4000 + p) 3 len off) s fun t =>
      OnlyAnswered s t ∧ t.dict.lastResp = some ⟨4, 0, tag, 0x4000 + p, 3, (getPat s.toChip p).image.length,
        ((getPat s.toChip p).image.drop off).take len⟩) ∧
  (∀ (s : State) (src : Src) (tag i sub : Nat) (payload : Bytes), Serves s src (writeReq tag i sub payload) → ¬ (0x1321 ≤ i ∧ i ≤ 0x1339 ∧ sub = 1) →
    Becomes (.write src tag i sub payload) s (react
      (finishWrite (writeObj src i sub (leNat payload) s.toChip).2 src (writeReq tag i sub payload)
        (writeObj src i sub (leNat payload) s.toChip).1 0))) ∧
  (∀ (c : Chip) (src : Src) (v : Nat), v ≤ 255 → 1 ≤ v → writeObj src 0x3500 6 v c = (0, setObj c 0x3500 6 v)) ∧
  (∀ (c : Chip) (src : Src) (v : Nat), 255 < v ∨ v = 0 → writeObj src 0x3500 6 v c = (5, c)) ∧
  (∀ (c : Chip) (src : Src) (v : Nat), 20 ≤ v → v ≤ 1000000 → writeObj src 0x1300 8 v c = (0, setObj c 0x1300 8 v)) ∧
  (∀ (c : Chip) (src : Src) (v : Nat), v < 20 ∨ 1000000 < v → writeObj src 0x1300 8 v c = (5, c)) ∧
  (∀ (c : Chip) (i sub v : Nat), obj (setObj c i sub v) i sub = v) ∧
  (∀ (s : State) (tag i sub : Nat) (payload : Bytes), presents s.toChip .forwarded (writeReq tag i sub payload) = true →
    (mirrorEntry i sub).isSome = true → ¬ (0x4000 ≤ i ∧ i ≤ 0x43FF ∧ sub = 3) → check s.toChip .forwarded (writeReq tag i sub payload) = 0 →
    Becomes (.forwardedWrite none tag i sub payload) s (react
      (finishWrite (writeObj .forwarded i sub (leNat payload) s.toChip).2 .forwarded (writeReq tag i sub payload)
        (writeObj .forwarded i sub (leNat payload) s.toChip).1 0))) ∧
  (∀ (s : State) (tag p : Nat) (payload : Bytes), p < 1024 → presents s.toChip .forwarded ⟨5, 1, tag, 0x4000 + p, 3, payload.length, 0, payload⟩ = true →
    payload.length ≤ 1048576 → isGated s.toChip (0x4000 + p) = false → imageOpen s.toChip p = true → (getPat s.toChip p).run.isSome = true →
    stagedOf s.toChip .s (0x4000 + p) 3 = none → viewOpen s.toChip .s (0x4000 + p) 3 = false → payload ≠ [] →
    Becomes (.forwardedWrite none tag (0x4000 + p) 3 payload) s (react
      (finishWrite (closeView (dropStage (modPat s.toChip p fun x => { x with image := payload }) .h (0x4000 + p) 3) .h (0x4000 + p) 3)
        .forwarded ⟨5, 1, tag, 0x4000 + p, 3, payload.length, 0, payload⟩ 0 payload.length))) ∧
  (∀ (s : State) (tag i sub st : Nat) (x : Src × Req), linkedUp s.toChip = true → s.dbl.fwd.find? (forwardedIs tag i sub) = some x →
    Becomes (.forwardedWrite (some st) tag i sub []) s (forwardAnswer s.toChip x st))

/-- A DOMAIN write (R43): a first segment with LAST clear is staged and the image keeps its old value; ABANDON of one's own staged write discards it; a segment out of
sequence is refused with RANGE and discards it (and with it the run of a Pattern that then holds no image, R215). The rest of the unit stands. 100,000,000 ticks without a segment discard a staged write, and close a read view (R43, R45);
nothing else changes but Carillon, which stands at the tick of the event. -/
def Obligations.SegmentsStageAndTimeOut : Prop :=
  (∀ (s : State) (src : Src) (tag p : Nat) (payload : Bytes), p < 1024 →
    Passes s src ⟨5, 0, tag, 0x4000 + p, 3, payload.length, 0, payload⟩ →
    imageOpen s.toChip p = true → (getPat s.toChip p).run.isSome = true → stagedOf s.toChip (otherMaster (masterOf src)) (0x4000 + p) 3 = none →
    Answers (.writeSeg src tag (0x4000 + p) 3 0 0 payload) s fun t =>
      OnlyAnswered s t ∧ (stagedOf t.toChip (masterOf src) (0x4000 + p) 3).map (fun x => x.data) = some payload
        ∧ t.dict.lastResp = some ⟨5, 0, tag, 0x4000 + p, 3, (getPat s.toChip p).image.length, []⟩) ∧
  (∀ (s : State) (src : Src) (tag p off : Nat) (payload : Bytes), p < 1024 →
    Passes s src ⟨5, 2, tag, 0x4000 + p, 3, payload.length, off, payload⟩ → (stagedOf s.toChip (masterOf src) (0x4000 + p) 3).isSome = true →
    Becomes (.writeSeg src tag (0x4000 + p) 3 off 2 payload) s
      (respond (unstage s.toChip (masterOf src) (0x4000 + p) 3) src ⟨5, 2, tag, 0x4000 + p, 3, payload.length, off, payload⟩ 0
        (getPat s.toChip p).image.length [])) ∧
  (∀ (s : State) (src : Src) (tag p off : Nat) (payload : Bytes), p < 1024 → off ≠ 0 → off + payload.length ≤ 1048576 →
    Passes s src ⟨5, 0, tag, 0x4000 + p, 3, payload.length, off, payload⟩ →
    (∀ x, stagedOf s.toChip (masterOf src) (0x4000 + p) 3 = some x → x.data.length ≠ off) →
    Becomes (.writeSeg src tag (0x4000 + p) 3 off 0 payload) s
      (respond (unstage s.toChip (masterOf src) (0x4000 + p) 3) src ⟨5, 0, tag, 0x4000 + p, 3, payload.length, off, payload⟩ 5
        (getPat s.toChip p).image.length [])) ∧
  (∀ (s : State) (src : Src) (tag p : Nat) (payload : Bytes), p < 1024 → payload.length ≤ 1048576 →
    Passes s src ⟨5, 0, tag, 0x4000 + p, 3, payload.length, 0, payload⟩ →
    imageOpen s.toChip p = true → (getPat s.toChip p).run.isSome = true → (stagedOf s.toChip (otherMaster (masterOf src)) (0x4000 + p) 3).isSome = true →
    Answers (.writeSeg src tag (0x4000 + p) 3 0 0 payload) s fun t =>
      OnlyAnswered s t ∧ t.dict.lastResp = some ⟨5, 6, tag, 0x4000 + p, 3, (getPat s.toChip p).image.length, []⟩) ∧
  (∀ (s : State) (src : Src) (tag p a : Nat) (c : Chip) (payload : Bytes), p < 1024 →
    Serves s src ⟨5, 0, tag, 0x4000 + p, 3, payload.length, 0, payload⟩ → payload.length ≤ 1048576 →
    imageOpen s.toChip p = true → (getPat s.toChip p).run = none → spAlloc s.toChip 0x200000 = some (a, c) →
    stagedOf s.toChip (otherMaster (masterOf src)) (0x4000 + p) 3 = none →
    Answers (.writeSeg src tag (0x4000 + p) 3 0 0 payload) s fun t => (getPat t.toChip p).run = some (a, 0x200000) ∧ t.geo = c.geo
      ∧ (stagedOf t.toChip (masterOf src) (0x4000 + p) 3).map (fun x => x.data) = some payload) ∧
  (∀ (s : State) (m : Master) (i sub now : Nat) (x : Staged), stagedOf s.toChip m i sub = some x →
    x.last + 100000000 ≤ max s.clk.carillon (now % 2 ^ 64) →
    Becomes (.domainStageTimeout m i sub now) s (unstage (advance s.toChip now) m i sub)) ∧
  (∀ (s : State) (m : Master) (i sub now : Nat) (x : View), x ∈ s.dict.views → x.isFor m i sub = true →
    x.last + 100000000 ≤ max s.clk.carillon (now % 2 ^ 64) →
    Becomes (.readViewTimeout m i sub now) s (closeView (advance s.toChip now) m i sub))

/-! The mailbox and the side-band (R35 to R41). -/

/-- GO in IDLE captures the request half and the mailbox is BUSY, with the request presented (R35, R36); a frame that no command row can carry is answered at once instead.
ACK in DONE returns to IDLE. GO or ACK in another state, and writing 1 to PROTO_ERR, set and clear PROTO_ERR. Each changes the mailbox of its port alone, and the port counts the four bytes received (R325). A complete
message on the side-band (R40): one that is too short or of another vendor is discarded; one whose payload differs from its header is answered LENGTH; while a request is
outstanding or an activation window is open it is answered BUSY; otherwise it is presented.
The MCTP control messages (R39): SET_ENDPOINT_ID takes an endpoint ID (0 and 0xFF are refused, log entry 92, PRESUMED), the others report; each sends one response and
changes nothing else (the version entry is a free value, log entry 91). -/
def Obligations.PresentersTakeRequests : Prop :=
  (∀ (s : State) (p : HPort), hostPosts s.toChip p = true → hostDecodes s.toChip p = true → (two s.dict.mbox p).state = .idle →
    answersAtOnce (parseReq (requestHalf (two s.dict.mbox p))) = false →
    Becomes (.mboxGo p) s (setMbox (received s.toChip p 4) p
      { two s.dict.mbox p with state := .busy, captured := some (parseReq (requestHalf (two s.dict.mbox p))), since := s.clk.carillon })) ∧
  (∀ (s : State) (p : HPort), hostPosts s.toChip p = true → hostDecodes s.toChip p = true → (two s.dict.mbox p).state ≠ .idle →
    Becomes (.mboxGo p) s (setMbox (received s.toChip p 4) p { two s.dict.mbox p with protoErr := true })) ∧
  (∀ (s : State) (p : HPort), hostPosts s.toChip p = true → hostDecodes s.toChip p = true → (two s.dict.mbox p).state = .done →
    Becomes (.mboxAck p) s (setMbox (received s.toChip p 4) p { two s.dict.mbox p with state := .idle })) ∧
  (∀ (s : State) (p : HPort), hostPosts s.toChip p = true → hostDecodes s.toChip p = true → (two s.dict.mbox p).state ≠ .done →
    Becomes (.mboxAck p) s (setMbox (received s.toChip p 4) p { two s.dict.mbox p with protoErr := true })) ∧
  (∀ (s : State) (p : HPort), hostPosts s.toChip p = true → hostDecodes s.toChip p = true →
    Becomes (.protoErrClear p) s (setMbox (received s.toChip p 4) p { two s.dict.mbox p with protoErr := false })) ∧
  (∀ (s : State) (body : Bytes), sidebandUp s.toChip = true → body.length < 18 → Becomes (.sidebandMessage body) s s.toChip) ∧
  (∀ (s : State) (body : Bytes), sidebandUp s.toChip = true → 18 ≤ body.length → bfld body 0 2 ≠ Config.pciVendorId.toNat →
    Becomes (.sidebandMessage body) s s.toChip) ∧
  (∀ (s : State) (body : Bytes), sidebandUp s.toChip = true → 18 ≤ body.length → bfld body 0 2 = Config.pciVendorId.toNat →
    lengthWrong (parseReq (body.drop 2)) ((body.drop 2).drop 16) = false → s.dict.sb.outstanding.isSome = true ∨ s.sec.fw.window = true →
    Becomes (.sidebandMessage body) s (emit s.toChip (.btu 0x7E (btuPackets 33 (mctpMessage (respBytes
      ⟨(parseReq (body.drop 2)).op, 6, (parseReq (body.drop 2)).tag, (parseReq (body.drop 2)).index, (parseReq (body.drop 2)).sub,
        totalOf s.toChip (parseReq (body.drop 2)), []⟩)))))) ∧
  (∀ (s : State) (body : Bytes), sidebandUp s.toChip = true → 18 ≤ body.length → bfld body 0 2 = Config.pciVendorId.toNat →
    lengthWrong (parseReq (body.drop 2)) ((body.drop 2).drop 16) = true →
    Becomes (.sidebandMessage body) s (emit s.toChip (.btu 0x7E (btuPackets 33 (mctpMessage (respBytes
      ⟨(parseReq (body.drop 2)).op, 8, (parseReq (body.drop 2)).tag, (parseReq (body.drop 2)).index, (parseReq (body.drop 2)).sub,
        totalOf s.toChip (parseReq (body.drop 2)), []⟩)))))) ∧
  (∀ (s : State) (body : Bytes), sidebandUp s.toChip = true → 18 ≤ body.length → bfld body 0 2 = Config.pciVendorId.toNat →
    lengthWrong (parseReq (body.drop 2)) ((body.drop 2).drop 16) = false → answersAtOnce (parseReq (body.drop 2)) = false → s.dict.sb.outstanding = none → s.sec.fw.window = false →
    Becomes (.sidebandMessage body) s
      { s.toChip with dict := { s.dict with sb := { s.dict.sb with outstanding := some (parseReq (body.drop 2)), since := s.clk.carillon } } }) ∧
  (∀ (s : State) (eid : Nat), sidebandUp s.toChip = true → eid % 256 ≠ 0 → eid % 256 ≠ 0xFF →
    Answers (.setEndpointId eid) s fun t => t.dict.sb.eid = eid % 256 ∧ OnlyAnswered s t) ∧
  (∀ s : State, sidebandUp s.toChip = true →
    Becomes .getEndpointId s (emit s.toChip (.mctp 0x02 (leBytes 4 (pack [(0, 1), (s.dict.sb.eid, 1)]))))) ∧
  (∀ s : State, sidebandUp s.toChip = true → Answers .getMctpVersionSupport s fun t =>
    ∃ v, t = put s { s.toChip with free := s.free + 1, out := .mctp 0x04 (leBytes 6 (pack [(0, 1), (1, 1), (v, 4)])) :: s.out }) ∧
  (∀ s : State, sidebandUp s.toChip = true →
    Becomes .getMessageTypeSupport s (emit s.toChip (.mctp 0x05 (leBytes 5 (pack [(0, 1), (3, 1), (0x7E, 1), (5, 1), (6, 1)]))))) ∧
  (∀ s : State, sidebandUp s.toChip = true →
    Becomes .getVendorDefinedMessageSupport s
      (emit s.toChip (.mctp 0x06 (leBytes 5 (pack [(0, 1), (0xFF, 1), (0, 1), (Config.pciVendorId.toNat, 2)])))))

/-- The configuration store (R46 to R48): a commit captures every C object and writes the copy that is not active with SEQ one higher; its end makes that copy active when its
DIGEST verifies and leaves the active copy otherwise. The load table of R48: the intact copy of the higher SEQ, A when the SEQ are equal; one intact copy; none, which
leaves the defaults. The event of source 185 is raised for results 1, 3 and 4 (R48). The load itself happens once, when FIRC runs. -/
def Obligations.StoreCopiesAreCommittedAndChosen : Prop :=
  (∀ (s : State) (src : Src) (tag : Nat), Serves s src (writeReq tag 0x10F0 7 (leBytes 1 1)) → activeSeq s.toChip ≠ 0xFFFFFFFE →
    s.dict.store.commit ≠ 1 →
    Answers (.configCommit src tag 1) s fun t =>
      OnlyAnswered s t ∧ t.dict.store.commit = 1 ∧ t.dict.store.image = captureImage s.toChip ∧ Posted t (writeReq tag 0x10F0 7 (leBytes 1 1)) 0 []) ∧
  (∀ (s : State) (src : Src) (tag v : Nat), v < 256 → v ≠ 1 → Serves s src (writeReq tag 0x10F0 7 (leBytes 1 v)) →
    Answers (.configCommit src tag v) s fun t => OnlyAnswered s t ∧ Posted t (writeReq tag 0x10F0 7 (leBytes 1 v)) 5 []) ∧
  (∀ (s : State), s.dict.store.commit = 1 →
    Answers (.configCommitComplete true) s fun t => t.dict.store.commit = 2 ∧ t.dict.store.active = commitCopy s.toChip
      ∧ activeSeq t.toChip = activeSeq s.toChip + 1) ∧
  (∀ (s : State), s.dict.store.commit = 1 →
    Answers (.configCommitComplete false) s fun t => OnlyAnswered s t ∧ t.dict.store.commit = 3 ∧ t.dict.store.active = s.dict.store.active) ∧
  (∀ a b : Bytes, copyState a ≠ 0 → copyState b ≠ 0 → loadChoice a b = (2, 4)) ∧
  (∀ a b : Bytes, copyState a = 0 → copyState b ≠ 0 → loadChoice a b = (0, 1)) ∧
  (∀ a b : Bytes, copyState a ≠ 0 → copyState b = 0 → loadChoice a b = (1, 1)) ∧
  (∀ a b : Bytes, copyState a = 0 → copyState b = 0 → copySeq b < copySeq a → loadChoice a b = (0, 0)) ∧
  (∀ a b : Bytes, copyState a = 0 → copyState b = 0 → copySeq a < copySeq b → loadChoice a b = (1, 0)) ∧
  (∀ a b : Bytes, copyState a = 0 → copyState b = 0 → copySeq a = copySeq b → a.take 64 ++ copyBody a = b.take 64 ++ copyBody b →
    loadChoice a b = (0, 2)) ∧
  (∀ (s : State) (a b : Bytes), s.boot.fircOn = true → s.boot.storeLoaded = false → copyState a ≠ 0 → copyState b ≠ 0 →
    Answers (.storeLoad a b) s fun t => t.boot.storeLoaded = true ∧ t.objs = s.objs ∧ t.mode = s.mode ∧ t.bel = s.bel ∧ t.pat = s.pat) ∧
  (∀ (s : State) (a b : Bytes), s.boot.fircOn = true → s.boot.storeLoaded = false → Answers (.storeLoad a b) s fun t =>
    t.boot.storeLoaded = true ∧ t.dict.store.active = (loadChoice a b).1 ∧ t.dict.store.loadResult = (loadChoice a b).2
      ∧ t.dict.store.stA = copyState a ∧ t.dict.store.stB = copyState b)

/-! Power, reset and the modes (R14 to R16, R279, R351, R362 to R366, R399 to R402). -/

/-- Power and reset: UNIT_PWRGOOD starts the always-on logic (R399); a unit reset leaves every register at reset, with MODE BOOT, but keeps the sticky bits and the side-band,
which only the loss of always-on power clears (R15, R351); the release of reset puts every domain with a fallback on it (R399). Sources become ready (R326, R338, R342,
R399): FIRC's first ready count starts Carillon at 0, a locked PLL reads READY, and with the trims loaded the source's monitor is armed. The boot sequencer (R399 to
R401): after the count is found within 5 % of nominal the domains switch to NORMAL and the loader asks the root of trust; a late reference raises the Severe event of its
monitor, and without XREF0 the loader runs with MCLK on FIRC. -/
def Obligations.PowerResetAndSources : Prop :=
  (∀ s : State, s.boot.pwrgood = false →
    Becomes .unitPwrgoodAssert s { s.toChip with boot := { s.boot with pwrgood := true } }) ∧
  (∀ s : State, s.boot.pwrgood = true → Answers (.unitReset .rstN) s fun t =>
    t.mode = .boot ∧ t.objs = [] ∧ t.toc.srcs = [] ∧ t.bel = State.reset.bel ∧ t.pat = State.reset.pat ∧ t.sp = State.reset.sp
      ∧ t.lap = State.reset.lap ∧ t.xf = State.reset.xf ∧ t.clk = State.reset.clk ∧ t.dict.sb = s.dict.sb ∧ t.unit1 = s.unit1
      ∧ t.peer.node = Config.fabricNode s.unit1
      ∧ (∀ n, bit s.toc.sticky n = true → bit t.toc.sticky n = true)) ∧
  (∀ s : State, s.boot.pwrgood = true → Answers (.unitReset .pwrgood) s fun t =>
    t.mode = .boot ∧ t.objs = [] ∧ t.boot = State.reset.boot ∧ (∀ n, bit s.toc.sticky n = true → bit t.toc.sticky n = true)) ∧
  (∀ s : State, Answers (.unitReset .alwaysOn) s fun t => t.mode = .boot ∧ t.objs = [] ∧ t.toc.sticky = 0 ∧ t.dict = State.reset.dict) ∧
  (∀ s : State, s.boot.pwrgood = true → s.boot.rstN = false →
    Becomes .resetRelease s { s.toChip with boot := { s.boot with rstN := true }, clk := { s.clk with sel := fallbackMask } }) ∧
  (∀ s : State, s.boot.rstN = true → s.clk.firc = false → s.boot.fircOn = false → Answers (.sourceReady .firc) s fun t =>
    t.boot.fircOn = true ∧ t.clk.firc = true ∧ t.clk.carillon = 0 ∧ (s.boot.storeLoaded = true → bit t.clk.armed 0 = true)
      ∧ t.mode = s.mode ∧ t.objs = s.objs ∧ t.dict = s.dict) ∧
  (∀ s : State, s.boot.rstN = true → s.clk.firc = false → s.boot.fircOn = true → Answers (.sourceReady .firc) s fun t =>
    t.clk.firc = true ∧ t.clk.carillon = s.clk.carillon ∧ t.mode = s.mode ∧ t.objs = s.objs) ∧
  (∀ s : State, s.boot.rstN = true → s.clk.xref0 = false → Answers (.sourceReady .xref0) s fun t =>
    t.clk.xref0 = true ∧ (s.boot.storeLoaded = true → bit t.clk.armed 1 = true) ∧ (s.boot.storeLoaded = false → t.clk = { s.clk with xref0 := true })
      ∧ t.clk.carillon = s.clk.carillon ∧ t.mode = s.mode ∧ t.objs = s.objs) ∧
  (∀ s : State, s.boot.rstN = true → s.clk.xref1 = false → Answers (.sourceReady .xref1) s fun t =>
    t.clk.xref1 = true ∧ (s.boot.storeLoaded = true → bit t.clk.armed 2 = true) ∧ (s.boot.storeLoaded = false → t.clk = { s.clk with xref1 := true })
      ∧ t.clk.carillon = s.clk.carillon ∧ t.mode = s.mode ∧ t.objs = s.objs) ∧
  (∀ (s : State) (k : Nat), k < 4 → s.clk.pll.length = 4 → s.boot.rstN = true → pllState s.toChip k = 1 → pllRefRuns s.toChip k = true →
    Answers (.sourceReady (.pll k)) s fun t => pllState t.toChip k = 2 ∧ (∀ j, j ≠ k → pllState t.toChip j = pllState s.toChip j)
      ∧ (s.boot.storeLoaded = true → bit t.clk.armed (3 + k) = true) ∧ t.clk.carillon = s.clk.carillon ∧ t.mode = s.mode ∧ t.objs = s.objs) ∧
  (∀ (s : State) (count : Nat), dueBootSwitch s.toChip false count = true → Answers (.bootClockSwitch false count) s fun t =>
    t.boot.mclkRuns = true ∧ t.clk.meterCount = count ∧ t.clk.meter = 2 ∧ t.mode = s.mode ∧ t.objs = s.objs) ∧
  (∀ (s : State) (count : Nat), dueBootSwitch s.toChip true count = true → Answers (.bootClockSwitch true count) s fun t =>
    t.boot.kclkDone = true ∧ t.clk.meterCount = count ∧ t.clk.meter = 2 ∧ t.mode = s.mode ∧ t.objs = s.objs) ∧
  (∀ (s : State) (now : Nat), s.boot.storeLoaded = true → s.clk.xref1 = false → s.boot.kclkDone = false → s.boot.xref1Late = false →
    s.boot.storeTick + 10000000 ≤ max s.clk.carillon (now % 2 ^ 64) →
    Becomes (.xrefReadyTimeout true now) s
      (raiseEv { advance s.toChip now with boot := { s.boot with xref1Late := true } } 2 0 3 0)) ∧
  (∀ (s : State) (now : Nat), s.boot.storeLoaded = true → s.clk.xref0 = false → s.boot.mclkRuns = false →
    s.boot.storeTick + 10000000 ≤ max s.clk.carillon (now % 2 ^ 64) →
    Answers (.xrefReadyTimeout false now) s fun t => t.boot.xref0Late = true ∧ t.boot.mclkRuns = true ∧ t.toc.raised = s.toc.raised ++ [⟨1, 0, 3, 0⟩]
      ∧ t.mode = s.mode ∧ t.objs = s.objs)

/-- The end of BOOT (R15, R362, R374): with the active bank verified the unit enters ROUGH for the first time, with no cause; a failed verification enters ROUGH with the
Fatal of source 186 and leaves the recovery loader running. The mode request (R15): 2 in the first Rough entry after reset takes the unit to NORMAL; any other value
answers RANGE, another state of the unit STATE. With Join request set the join begins instead (R279). ROUGH (R362, R365): the entry is settled when every abort and
withdrawal has ended; the exit of a unit that was never joined returns to NORMAL, and is refused with STATE and a reason recorded while a check of R365 fails. -/
def Obligations.ModesChangeByTheirRules : Prop :=
  (∀ s : State, bootVerified s.toChip = true → verifyReason s.toChip s.sec.fw.running true = 0 → lowestFatal s.toChip = none →
    Answers .firmwareRelease s fun t => t.mode = .rough ∧ t.rough = ⟨1, true, 0xFFFF, 0, s.clk.carillon⟩
      ∧ t.sec.fw.runVersion = bfld s.sec.fw.running 4 4 ∧ t.sec.fw.runSvn = bfld s.sec.fw.running 8 4 ∧ t.objs = s.objs ∧ t.dict = s.dict) ∧
  (∀ (s : State) (n : Nat), bootVerified s.toChip = true → verifyReason s.toChip s.sec.fw.running true = 0 → lowestFatal s.toChip = some n →
    Becomes .firmwareRelease s (fatal (enterFirst (blockChanged (modFw s.toChip fun f => { f with
      runVersion := bfld s.sec.fw.running 4 4, runSvn := bfld s.sec.fw.running 8 4 }) 1)) n)) ∧
  (∀ (s : State) (reason : Nat), bootVerified s.toChip = true → reason ≠ 0 → reason = verifyReason s.toChip s.sec.fw.running true →
    Answers (.firmwareVerifyFailAtReset reason) s fun t => t.mode = .rough ∧ t.rough.kind = 2 ∧ t.rough.cause = 186
      ∧ t.sec.fw.loader = true ∧ t.sec.fw.reason = reason ∧ 4 ≤ (getSrc t.toChip 186).level ∧ bit t.toc.sticky 186 = true ∧ t.dict = s.dict) ∧
  (∀ (s : State) (src : Src) (tag : Nat), Serves s src (writeReq tag 0x1100 2 (leBytes 1 2)) → s.mode = .rough → s.rough.kind = 1 →
    joinRequest s.toChip = false → s.dbl.state ≠ 1 → s.dbl.joinStep = 0 →
    Answers (.modeRequest src tag 2) s fun t => t.mode = .normal ∧ t.rough.kind = 0 ∧ Posted t (writeReq tag 0x1100 2 (leBytes 1 2)) 0 []
      ∧ t.objs = s.objs ∧ t.bel = s.bel ∧ t.pat = s.pat ∧ t.sp = s.sp ∧ t.toc.srcs = s.toc.srcs
      ∧ t.clk = { s.clk with disc := { s.clk.disc with align := false } }) ∧
  (∀ (s : State) (src : Src) (tag v : Nat), v < 256 → v ≠ 2 → Serves s src (writeReq tag 0x1100 2 (leBytes 1 v)) →
    Answers (.modeRequest src tag v) s fun t => OnlyAnswered s t ∧ Posted t (writeReq tag 0x1100 2 (leBytes 1 v)) 5 []) ∧
  (∀ (s : State) (src : Src) (tag : Nat), Serves s src (writeReq tag 0x1100 2 (leBytes 1 2)) → ¬ (s.mode = .rough ∧ s.rough.kind = 1) →
    Answers (.modeRequest src tag 2) s fun t => OnlyAnswered s t ∧ Posted t (writeReq tag 0x1100 2 (leBytes 1 2)) 7 []) ∧
  (∀ (s : State) (src : Src) (tag : Nat), Serves s src (writeReq tag 0x1100 2 (leBytes 1 2)) → s.mode = .rough → s.rough.kind = 1 →
    joinRequest s.toChip = true → s.unit1 = false → s.dbl.state ≠ 1 →
    Answers (.modeRequest src tag 2) s fun t => t.mode = .rough ∧ t.dbl.state = 1 ∧ t.dbl.joinStart = s.clk.carillon ∧ bit t.clk.enables 18 = true
      ∧ Posted t (writeReq tag 0x1100 2 (leBytes 1 2)) 0 [] ∧ t.objs = s.objs) ∧
  (∀ s : State, dueSettled s.toChip = true →
    Becomes .roughSettled s { s.toChip with rough := { s.rough with settled := true } }) ∧
  (∀ (s : State) (src : Src) (tag : Nat), Serves s src (writeReq tag 0x5100 2 (leBytes 1 1)) → s.mode = .rough → exitReason s.toChip = 0 →
    s.dbl.wasJoined = false →
    Becomes (.roughExit src tag 1) s (react (respond (leaveRough s.toChip) src (writeReq tag 0x5100 2 (leBytes 1 1)) 0 0 []))
      ∧ (leaveRough s.toChip).mode = .normal ∧ (leaveRough s.toChip).rough.kind = 0) ∧
  (∀ (s : State) (src : Src) (tag : Nat), Serves s src (writeReq tag 0x5100 2 (leBytes 1 1)) → s.mode = .rough → exitReason s.toChip ≠ 0 →
    Becomes (.roughExit src tag 1) s (react (respond { s.toChip with rough := { s.rough with exitReason := exitReason s.toChip } } src
      (writeReq tag 0x5100 2 (leBytes 1 1)) 7 0 []))) ∧
  (∀ (s : State) (src : Src) (tag : Nat), Serves s src (writeReq tag 0x5100 2 (leBytes 1 1)) → s.mode = .rough → exitReason s.toChip = 0 →
    s.dbl.wasJoined = true → s.dbl.partnerRough = false ∨ s.dbl.partnerLeft = true →
    Becomes (.roughExit src tag 1) s (react (respond { s.toChip with rough := { s.rough with exitReason := 6 } } src
      (writeReq tag 0x5100 2 (leBytes 1 1)) 7 0 [])))

/-! The request rows: every form of each, accepted or refused, in terms of the handler of its object. -/

/-- Every row that writes an object of Spaces, facet loads, Geode or the Lapidary is that object's WRITE (R34): served by the part's handler when it passes the checks,
answered with the first failing check's status and with no effect otherwise. Every row that writes an object of queues, Patterns, channels, peer windows or coherent
windows is that object's WRITE (R34). Every row that writes an object of the modes, clocks, time, ports, sources, firmware, measurement or tenancy is that object's WRITE
(R34). -/
def Obligations.RequestRowsServe : Prop :=
  (∀ (payload : Bytes), RowServes (fun src tag => .writeBackRequest src tag payload) 0x3500 0x12 payload (writeBackRequest (leNat payload)) id) ∧
  (∀ (payload : Bytes), RowServes (fun src tag => .grainProbeRequest src tag payload) 0x3500 0x15 payload (grainProbe (leNat payload)) id) ∧
  (∀ (t : Nat), 1 ≤ t → t < 256 → RowServes (fun src tag => .tableDefine src tag t) (0x3800 + t) 2 (leBytes 1 1) (tableDefine t) id) ∧
  (∀ (t : Nat), 1 ≤ t → t < 256 → RowServes (fun src tag => .tableUndefine src tag t) (0x3800 + t) 2 (leBytes 1 2) (tableUndefine t) id) ∧
  (∀ (payload : Bytes), RowServes (fun src tag => .manifestPost src tag payload) 0x3800 2 payload (lapPost (leNat payload)) id) ∧
  (∀ (t : Nat), RowServes (fun src tag => .lapidaryAbortRequest src tag t) 0x3800 5 (leBytes 1 t) (lapAbort (t % 256)) react) ∧
  (∀ (sp : Nat), sp < 1024 → RowServes (fun src tag => .spaceCreate src tag sp) (0x3000 + sp) 2 (leBytes 1 1) (spaceCreate sp) id) ∧
  (∀ (sp : Nat), sp < 1024 → RowServes (fun src tag => .spaceGoLive src tag sp) (0x3000 + sp) 2 (leBytes 1 2) (spaceGoLive sp) id) ∧
  (∀ (sp : Nat), sp < 1024 → RowServes (fun src tag => .spaceInvalidate src tag sp) (0x3000 + sp) 2 (leBytes 1 3) (spaceInvalidate sp) react) ∧
  (∀ (sp : Nat), sp < 1024 → RowServes (fun src tag => .spaceRetire src tag sp) (0x3000 + sp) 2 (leBytes 1 4) (spaceRetire sp) react) ∧
  (∀ (sp : Nat) (n : Nat) (payload : Bytes), sp < 1024 → n < 16 → RowServes (fun src tag => .segmentDescriptorWrite src tag sp n payload) (0x3000 + sp) (0x10 + n) payload (segWrite sp n (leNat payload)) react) ∧
  (∀ (payload : Bytes), RowServes (fun src tag => .facetLoadBuild src tag payload) 0x3410 1 payload (facetLoad (leNat payload)) id) ∧
  (∀ (payload : Bytes), RowServes (fun src tag => .facetLoadFill src tag payload) 0x3410 1 payload (facetLoad (leNat payload)) id) ∧
  (∀ (q : Nat), q < 4096 → RowServes (fun src tag => .queueCreate src tag q) (0x2000 + q) 2 (leBytes 1 1) (queueCreate q) id) ∧
  (∀ (q : Nat), q < 4096 → RowServes (fun src tag => .queueResume src tag q) (0x2000 + q) 2 (leBytes 1 2) (queueResume q) id) ∧
  (∀ (q : Nat), q < 4096 → RowServes (fun src tag => .queueDestroy src tag q) (0x2000 + q) 2 (leBytes 1 3) (queueDestroy q) react) ∧
  (∀ (q : Nat), q < 4096 → RowServes (fun src tag => .queueReattach src tag q) (0x2000 + q) 2 (leBytes 1 4) (queueReattach q) id) ∧
  (∀ (p : Nat), p < 1024 → RowServes (fun src tag => .patternRegister src tag p) (0x4000 + p) 2 (leBytes 1 1) (patternRegister p) id) ∧
  (∀ (p : Nat), p < 1024 → RowServes (fun src tag => .patternRetire src tag p) (0x4000 + p) 2 (leBytes 1 2) (patternRetire p) id) ∧
  (∀ (p : Nat), p < 1024 → RowServes (fun src tag => .patternClear src tag p) (0x4000 + p) 2 (leBytes 1 3) (patternClear p) id) ∧
  (∀ (v : Nat), RowServes (fun src tag => .peerWindowCommit src tag v) 0x12F0 1 (leBytes 1 v) (peerCommit (v % 256)) id) ∧
  (∀ (w : Nat), w < 64 → RowServes (fun src tag => .windowEnable src tag w) (0x4840 + w) 2 (leBytes 1 1) (windowEnable w) id) ∧
  (∀ (w : Nat), w < 64 → RowServes (fun src tag => .windowDisable src tag w) (0x4840 + w) 2 (leBytes 1 2) (windowDisable w) id) ∧
  (∀ (ch : Nat) (v : Nat), ch < 64 → RowServes (fun src tag => .channelResume src tag ch v) (0x3600 + ch) 2 (leBytes 1 v) (channelControl ch (v % 256)) (fun c => react (bindParts c))) ∧
  (∀ (v : Nat), RowServes (fun src tag => .modeRequest src tag v) 0x1100 2 (leBytes 1 v) (modeRequest (v % 256)) id) ∧
  (∀ (v : Nat), RowServes (fun src tag => .timeStep src tag v) 0x1300 6 (leBytes 8 v) (timeStep v) id) ∧
  (∀ (v : Nat), RowServes (fun src tag => .align src tag v) 0x1300 0xF (leBytes 1 v) (alignWrite (v % 256)) id) ∧
  (∀ (k : Nat), k < 4 → RowServes (fun src tag => .pllStart src tag k) (0x1310 + k) 2 (leBytes 1 1) (pllStart k) id) ∧
  (∀ (k : Nat), k < 4 → RowServes (fun src tag => .pllStop src tag k) (0x1310 + k) 2 (leBytes 1 2) (pllStop k) id) ∧
  (∀ (payload : Bytes), RowServes (fun src tag => .meterRequest src tag payload) 0x1350 1 payload (meterRequest (leNat payload)) id) ∧
  (∀ (v : Nat), RowServes (fun src tag => .clockEnableSet src tag v) 0x1100 3 (leBytes 4 v) (clockEnables v) react) ∧
  (∀ (v : Nat), RowServes (fun src tag => .clockEnableClear src tag v) 0x1100 3 (leBytes 4 v) (clockEnables v) react) ∧
  (∀ (v : Nat), RowServes (fun src tag => .configCommit src tag v) 0x10F0 7 (leBytes 1 v) (configCommit (v % 256)) id) ∧
  (∀ (p : HPort), RowServes (fun src tag => .portDetach src tag p) (0x1210 + portNo p) 8 (leBytes 1 2) (portDetach p) id) ∧
  (∀ (v : Nat), RowServes (fun src tag => .roughExit src tag v) 0x5100 2 (leBytes 1 v) (roughExit (v % 256)) react) ∧
  (∀ (payload : Bytes), RowServes (fun src tag => .stageRequest src tag payload) 0x6000 2 payload (stageRequest (leNat payload)) id) ∧
  (∀ (v : Nat), RowServes (fun src tag => .modelMeasureRequest src tag v) 0x6008 2 (leBytes 1 v) (measureRequest (v % 256)) id) ∧
  (∀ (n : Nat), n < 192 → RowServes (fun src tag => .sourceAck src tag n) (0x5000 + n) 2 (leBytes 1 1) (sourceAck n) id) ∧
  (∀ (n : Nat), n < 192 → RowServes (fun src tag => .clearSticky src tag n) (0x5000 + n) 2 (leBytes 1 2) (clearSticky n) id) ∧
  (∀ (v : Nat), RowServes (fun src tag => .clearAllSticky src tag v) 0x5100 4 (leBytes 1 v) (clearAllSticky (v % 256)) id) ∧
  (∀ (n : Nat) (v : Nat), n < 192 → RowServes (fun src tag => .maskWrite src tag n v) (0x5000 + n) 5 (leBytes 1 v) (maskWrite n (v % 256)) id) ∧
  (RowServes (fun src tag => .firmwareVerify src tag) 0x6000 5 (leBytes 1 1) firmwareVerify id) ∧
  (RowServes (fun src tag => .firmwareActivate src tag) 0x6000 5 (leBytes 1 2) firmwareActivate id) ∧
  (RowServes (fun src tag => .firmwareDiscard src tag) 0x6000 5 (leBytes 1 3) firmwareDiscard id) ∧
  (RowServes (fun src tag => .tenancyAttach src tag) 0x6020 2 (leBytes 1 1) tenancyAttach id) ∧
  (RowServes (fun src tag => .tenancyEnd src tag) 0x6020 2 (leBytes 1 2) tenancyEnd (fun c => tenantGo (react c))) ∧
  (RowServes (fun src tag => .tenancyScrub src tag) 0x6020 2 (leBytes 1 3) tenancyScrub react)

/-! Spaces, bumps, invalidations and facet loads (R54 to R64, R78, R80 to R82). -/

/-- Creating a Space, its first segments and going live (R54, R56, R58): CREATE of a FREE Space other than Space 0 with a tenant attached gives BUILDING with every segment
UNUSED; in BUILDING an accepted Fixed or UNUSED segment takes effect at once; GO_LIVE gives LIVE. The other states answer STATE, and a running map build of the Space
answers BUSY. Nothing else changes. What a segment write is refused for (R58, R59, R86, R88): an unaligned or empty range, a range past 2^56, an overlap, a KIND, GRAIN or
CLASS outside its values answer RANGE; a Space that is neither BUILDING nor LIVE STATE; a running withdrawal BUSY. -/
def Obligations.SpacesAreBuiltAndGoLive : Prop :=
  (∀ sp, sp < 1024 → sp ≠ 0 → RowDoes (fun src tag => .spaceCreate src tag sp) (0x3000 + sp) 2 (leBytes 1 1) id
    (fun c => (getSpace c sp).state = 0 ∧ c.sec.ten.state = 2)
    (fun c => setSpace c sp { getSpace c sp with state := 1, segs := [] })) ∧
  (∀ sp, sp < 1024 → RowTurnsAway (fun src tag => .spaceCreate src tag sp) (0x3000 + sp) 2 (leBytes 1 1) id
    (fun c => sp = 0 ∨ (getSpace c sp).state ≠ 0 ∨ c.sec.ten.state ≠ 2) 7) ∧
  (∀ sp, sp < 1024 → RowDoes (fun src tag => .spaceGoLive src tag sp) (0x3000 + sp) 2 (leBytes 1 2) id
    (fun c => (getSpace c sp).state = 1 ∧ ¬ (c.geo.build.state = 1 ∧ c.geo.build.space = sp))
    (fun c => setSpace c sp { getSpace c sp with state := 2 })) ∧
  (∀ sp, sp < 1024 → RowTurnsAway (fun src tag => .spaceGoLive src tag sp) (0x3000 + sp) 2 (leBytes 1 2) id
    (fun c => (getSpace c sp).state ≠ 1) 7) ∧
  (∀ sp, sp < 1024 → RowTurnsAway (fun src tag => .spaceGoLive src tag sp) (0x3000 + sp) 2 (leBytes 1 2) id
    (fun c => (getSpace c sp).state = 1 ∧ c.geo.build.state = 1 ∧ c.geo.build.space = sp) 6) ∧
  (∀ sp n payload, sp < 1024 → n < 16 → (segOf (leNat payload)).kind ≤ 1 →
    RowDoes (fun src tag => .segmentDescriptorWrite src tag sp n payload) (0x3000 + sp) (0x10 + n) payload react
      (fun c => segStatus c sp n (segOf (leNat payload)) = 0 ∧ (getSpace c sp).state = 1 ∧ (getSeg (getSpace c sp) n).kind ≤ 1)
      (fun c => modSpace c sp fun x => { x with segs := tput x.segs Seg.reset n { segOf (leNat payload) with effGen := (getSpace c sp).gen } })) ∧
  (∀ sp n payload st, sp < 1024 → n < 16 → st ≠ 0 →
    RowTurnsAway (fun src tag => .segmentDescriptorWrite src tag sp n payload) (0x3000 + sp) (0x10 + n) payload react
      (fun c => segStatus c sp n (segOf (leNat payload)) = st) st) ∧
  (∀ (s : State) (src : Src) (tag sp n a : Nat) (payload : Bytes) (c : Chip), sp < 1024 → n < 16 → (segOf (leNat payload)).kind = 3 →
    Serves s src (writeReq tag (0x3000 + sp) (0x10 + n) payload) → segStatus s.toChip sp n (segOf (leNat payload)) = 0 → (getSpace s.toChip sp).state = 1 →
    spAlloc s.toChip (roundUp (8 * grainCount (segOf (leNat payload))) 0x200000) = some (a, c) → (getSpace c sp).state = 1 →
    Becomes (.segmentDescriptorWrite src tag sp n payload) s (react (finishWrite
      { c with geo := { c.geo with build := ⟨1, 0, sp, n, 0, { segOf (leNat payload) with tableBase := a }, a, roundUp (8 * grainCount (segOf (leNat payload))) 0x200000⟩ } }
      src (writeReq tag (0x3000 + sp) (0x10 + n) payload) 0 0))) ∧
  (∀ (c : Chip) (sp n : Nat) (s : Seg),
    (s.start % 4096 ≠ 0 ∨ s.len % 4096 ≠ 0 ∨ s.target % 4096 ≠ 0 → segStatus c sp n s = 5) ∧
    (3 < s.kind ∨ 7 < s.grain ∨ (s.kind ≠ 0 ∧ s.len = 0) ∨ 2 ^ 56 < s.start + s.len → segStatus c sp n s = 5) ∧
    (∀ m o, (m, o) ∈ (getSpace c sp).segs → m ≠ n → o.kind ≠ 0 → o.start < s.start + s.len → s.start < o.start + o.len → segStatus c sp n s = 5) ∧
    (s.kind = 1 → s.cls = 0 ∨ 6 < s.cls → segStatus c sp n s = 5) ∧
    (s.kind = 1 → s.cls = 1 → meetsGeode c s.target s.len = true → segStatus c sp n s = 5) ∧
    (s.kind = 2 → s.target ≠ 0 ∨ s.facetCount = 0 ∨ 1048576 < s.facetCount → segStatus c sp n s = 5) ∧
    (s.kind = 3 → s.start % grainBytes s ≠ 0 ∨ s.len % grainBytes s ≠ 0 → segStatus c sp n s = 5) ∧
    (segRangeBad (getSpace c sp) n s = false → kindRangeBad c s = false → s.kind ≤ 1 → (getSpace c sp).state ≠ 1 → (getSpace c sp).state ≠ 2 →
      segStatus c sp n s = 7) ∧
    (segRangeBad (getSpace c sp) n s = false → kindRangeBad c s = false → s.kind ≤ 1 → poolMissing c s = false → (getSpace c sp).state = 1 ∨ (getSpace c sp).state = 2 →
      segStatus c sp n s = if withdrawing c sp then 6 else 0))

/-- "A bump … raises the generation number by 1" (R80): a bump that need not wait takes effect at once, in generation g + 1 modulo 2^32; one that must wait for a counter
leaves the generation as it is and stands in the list of waiting bumps; unit 1 in DOUBLET asks unit 0 (R288). No other Space's generation moves. Withdrawals (R54, R56,
R80): INVALIDATE of a LIVE Space is a hard bump without a change; RETIRE of a LIVE Space that no queue is bound to gives RETIRING and a hard bump that clears its
segments; a changed segment of a LIVE Space is a hard bump that installs it. Their refusals have no effect. -/
def Obligations.BumpsRaiseTheGeneration : Prop :=
  (∀ (c : Chip) (sp : Nat) (hard : Bool) (by_ : BumpBy) (m : MapChange), shareBump c sp hard by_ = none →
    (followsLead c = false → bumpBlocked c sp (freshBump c) = false →
      (getSpace (requestBump c sp hard by_ m) sp).gen = ((getSpace c sp).gen + 1) % 2 ^ 32) ∧
    (followsLead c = false → bumpBlocked c sp (freshBump c) = true →
      (getSpace (requestBump c sp hard by_ m) sp).gen = (getSpace c sp).gen
        ∧ ∃ b, b ∈ (requestBump c sp hard by_ m).sp.bumps ∧ b.id = freshBump c ∧ b.space = sp ∧ b.phase = .waiting ∧ b.change = m) ∧
    (followsLead c = true → (getSpace (requestBump c sp hard by_ m) sp).gen = (getSpace c sp).gen) ∧
    (∀ sp', sp' ≠ sp → (getSpace (requestBump c sp hard by_ m) sp').gen = (getSpace c sp').gen)) ∧
  (∀ sp, sp < 1024 → RowDoes (fun src tag => .spaceInvalidate src tag sp) (0x3000 + sp) 2 (leBytes 1 3) react
    (fun c => (getSpace c sp).state = 2 ∧ withdrawing c sp = false) (fun c => requestBump c sp true .software .none)) ∧
  (∀ sp, sp < 1024 → RowTurnsAway (fun src tag => .spaceInvalidate src tag sp) (0x3000 + sp) 2 (leBytes 1 3) react
    (fun c => (getSpace c sp).state ≠ 2) 7) ∧
  (∀ sp, sp < 1024 → RowTurnsAway (fun src tag => .spaceInvalidate src tag sp) (0x3000 + sp) 2 (leBytes 1 3) react
    (fun c => (getSpace c sp).state = 2 ∧ withdrawing c sp = true) 6) ∧
  (∀ sp, sp < 1024 → sp ≠ 0 → RowDoes (fun src tag => .spaceRetire src tag sp) (0x3000 + sp) 2 (leBytes 1 4) react
    (fun c => (getSpace c sp).state = 2 ∧ spaceBound c sp = false ∧ withdrawing c sp = false)
    (fun c => requestBump (setSpace c sp { getSpace c sp with state := 3 }) sp true .software .clear)) ∧
  (∀ sp, sp < 1024 → RowTurnsAway (fun src tag => .spaceRetire src tag sp) (0x3000 + sp) 2 (leBytes 1 4) react
    (fun c => sp = 0 ∨ (getSpace c sp).state ≠ 2 ∨ spaceBound c sp = true) 7) ∧
  (∀ sp n payload, sp < 1024 → n < 16 → (segOf (leNat payload)).kind ≤ 1 →
    RowDoes (fun src tag => .segmentDescriptorWrite src tag sp n payload) (0x3000 + sp) (0x10 + n) payload react
      (fun c => segStatus c sp n (segOf (leNat payload)) = 0 ∧ (getSpace c sp).state = 2)
      (fun c => requestBump c sp true .software (.seg n (segOf (leNat payload)))))

/-- The steps of a bump (R80 to R82): a waiting bump takes effect when the counter it reuses is free; when the older generations have drained, the ports that they wrote are
flushed; then its memory is released and the software that asked reads WITHDRAWN. A withdrawal past the drain alert time raises source 177 once. ATS invalidations (R78):
one that applies to no LIVE Space is completed at once; otherwise every Space it applies to gets a hard bump, and the request is queued. -/
def Obligations.BumpsGoThroughTheirSteps : Prop :=
  (∀ (s : State) (b : Bump), getBump s.toChip b.id = some b → b.phase = .waiting → followsLead s.toChip = false → bumpBlocked s.toChip b.space b.id = false →
    BecomesOn 2 (.bumpCounterFree b.id) s (react (mirror (applyBump s.toChip b.id) .space b.space none))) ∧
  (∀ (s : State) (b : Bump), getBump s.toChip b.id = some b → b.phase = .draining → drained s.toChip b = true → portsWrote (getSpace s.toChip b.space) b.gen = 0 →
    BecomesOn 2 (.bumpDrainComplete b.id) s
      { s.toChip with sp := { s.sp with bumps := lmod s.sp.bumps (·.id == b.id) fun x => { x with phase := .flushing, ports := 0 } } }) ∧
  (∀ (s : State) (b : Bump), getBump s.toChip b.id = some b → b.phase = .draining → drained s.toChip b = true →
    AnswersOn 2 (.bumpDrainComplete b.id) s fun t =>
      t.sp.bumps = lmod s.sp.bumps (·.id == b.id) (fun x => { x with phase := .flushing, ports := portsWrote (getSpace s.toChip b.space) b.gen })
        ∧ t.sp.spaces = s.sp.spaces ∧ t.geo = s.geo ∧ t.objs = s.objs) ∧
  (∀ (s : State) (b : Bump), getBump s.toChip b.id = some b → b.phase = .flushing → b.oldRuns = [] → b.oldFrames = [] → b.bys = [.software] → b.change = .none →
    BecomesOn 2 (.bumpFlushReadComplete b.id) s (tenantGo (react (modSpace
      { s.toChip with sp := { s.sp with bumps := s.sp.bumps.filter fun x => x.id != b.id } } b.space fun x => { x with wStat := 3 })))) ∧
  (∀ (s : State) (b : Bump), getBump s.toChip b.id = some b → b.phase = .flushing → b.oldRuns = [] → b.oldFrames = [] → b.bys = [.software] → b.change = .clear →
    (getSpace s.toChip b.space).state = 3 → leadsMirror s.toChip = false →
    BecomesOn 2 (.bumpFlushReadComplete b.id) s (tenantGo (react (modSpace
      { s.toChip with sp := { s.sp with bumps := s.sp.bumps.filter fun x => x.id != b.id } } b.space fun x => { x with wStat := 3, state := 0 })))) ∧
  (∀ (s : State) (b : Bump) (t : Nat), getBump s.toChip b.id = some b → b.alerted = false → b.since + obj s.toChip 0x3400 2 ≤ max s.clk.carillon (t % 2 ^ 64) →
    BecomesOn 2 (.drainAlertExpiry b.id t) s (raiseEv (modBump (advance s.toChip t) b.id fun x => { x with alerted := true }) 177 b.space 2 0)) ∧
  (∀ (s : State) (p : HPort) (itag : Nat) (pasid : Option Nat), linkIsUp s.toChip p = true → itag < 32 → two s.sp.invQueued p < 32 →
    atsTargets s.toChip p pasid = [] → Becomes (.atsInvalidateRequest p itag pasid) s (react (emit s.toChip (.invalidateDone p itag 1)))) ∧
  (∀ (s : State) (p : HPort) (itag sp : Nat) (pasid : Option Nat), linkIsUp s.toChip p = true → itag < 32 → two s.sp.invQueued p < 32 →
    atsTargets s.toChip p pasid = [sp] →
    Becomes (.atsInvalidateRequest p itag pasid) s (react (requestBump
      { s.toChip with sp := { s.sp with invQueued := setTwo s.sp.invQueued p (two s.sp.invQueued p + 1) } } sp true (.ats p itag) .none))) ∧
  (∀ (c : Chip) (p : HPort) (pasid : Option Nat) (sp : Nat), sp ∈ atsTargets c p pasid →
    (getSpace c sp).state = 2 ∧ svaPort c sp = p ∧ (∀ x, pasid = some x → svaEn c sp = true ∧ svaPasid c sp = x))

/-- Facet loads (R63, R64): an accepted BUILD or FILL is LOADING and reads its list from the host; a BUILD with sound facets leaves a READY table in a fresh run, and one with
a bad facet, or whose read fails, FAILED with its reason; a FILL replaces the ABSENT facets in place. -/
def Obligations.FacetLoadsComplete : Prop :=
  (∀ payload, loadRangeBad (leNat payload) = false → fld (leNat payload) 3 1 = 0 →
    RowDoes (fun src tag => .facetLoadBuild src tag payload) 0x3410 1 payload id (fun c => c.sp.load.state ≠ 1 ∧ c.sp.load.ready = none)
      (fun c => emit { c with sp := { c.sp with load := ⟨1, 0, 0, false, fld (leNat payload) 0 2, fld (leNat payload) 2 1, fld (leNat payload) 4 4, fld (leNat payload) 8 4,
          fld (leNat payload) 12 1 == 1, fld (leNat payload) 16 8, none⟩ } }
        (.hostRead (portOf (fld (leNat payload) 12 1 == 1)) (fld (leNat payload) 16 8) (fld (leNat payload) 8 4 * 16)))) ∧
  (∀ payload, loadRangeBad (leNat payload) = false → fld (leNat payload) 3 1 = 1 →
    RowDoes (fun src tag => .facetLoadFill src tag payload) 0x3410 1 payload id
      (fun c => c.sp.load.state ≠ 1 ∧ (installedTab c (fld (leNat payload) 0 2) (fld (leNat payload) 2 1)).isSome = true ∧ fillPastEnd c (leNat payload) = false)
      (fun c => emit { c with sp := { c.sp with load := ⟨1, 0, 0, true, fld (leNat payload) 0 2, fld (leNat payload) 2 1, fld (leNat payload) 4 4, fld (leNat payload) 8 4,
          fld (leNat payload) 12 1 == 1, fld (leNat payload) 16 8, c.sp.load.ready⟩ } }
        (.hostRead (portOf (fld (leNat payload) 12 1 == 1)) (fld (leNat payload) 16 8) (fld (leNat payload) 8 4 * 16)))) ∧
  (∀ (s : State) (bs : Bytes) (a : Nat) (c : Chip), s.sp.load.state = 1 → s.sp.load.fill = false → bs.length = 16 * s.sp.load.count →
    buildBad (logRead s.toChip (portOf s.sp.load.portB) (.data bs)) 0 none (facetsOf bs s.sp.load.count) = none →
    spAlloc (logRead s.toChip (portOf s.sp.load.portB) (.data bs)) (16 * (facetsOf bs s.sp.load.count).length) = some (a, c) →
    Becomes (.facetLoadComplete (.data bs)) s (react { c with sp := { c.sp with load := { s.sp.load with
      state := 2, ready := some ⟨s.sp.load.space, s.sp.load.seg, ⟨a, roundUp (16 * (facetsOf bs s.sp.load.count).length) 0x200000, facetsOf bs s.sp.load.count⟩⟩ } } })) ∧
  (∀ (s : State) (bs : Bytes) (why k : Nat), s.sp.load.state = 1 → s.sp.load.fill = false → bs.length = 16 * s.sp.load.count →
    buildBad (logRead s.toChip (portOf s.sp.load.portB) (.data bs)) 0 none (facetsOf bs s.sp.load.count) = some (why, k) →
    Becomes (.facetLoadComplete (.data bs)) s (react (loadFail (logRead s.toChip (portOf s.sp.load.portB) (.data bs)) why k))) ∧
  (∀ (s : State), s.sp.load.state = 1 → Becomes (.facetLoadComplete .linkDown) s
    (react { s.toChip with sp := { s.sp with load := { s.sp.load with state := 3, reason := 6, index := 0 } } })) ∧
  (∀ (c : Chip) (k : Nat) (f : Facet) (fs : List Facet), f.start ≠ 0 → buildBad c k none (f :: fs) = some (1, k)) ∧
  (∀ (c : Chip) (k p : Nat) (f : Facet) (fs : List Facet), f.start ≤ p → buildBad c k (some p) (f :: fs) = some (1, k))

/-! Translation (R59, R66 to R77). -/

/-- How a piece of an access translates (R59, R62, R70, R73, R75): outside every segment and past 2^56 it is UNMAPPED (cause 1) with segment number 0xFF, and so is a target on
the other die that the bridge cannot carry; a Fixed segment adds the offset to its TARGET, by its class; an absent facet waits (cause 2) or ends the launch as FAULT_WAIT
says; in ROUGH only Fixed segments translate (cause 9). The state and the hint stand. -/
def Obligations.TranslationFollowsTheSegment : Prop :=
  (∀ (c : Chip) (x : CutCtx) (va len lg : Nat) (h : Option (Nat × Nat)), x.direct = false → va ≥ 2 ^ 56 ∨ findSeg c x.sp va = none →
    cutPiece c x va len lg h = (.fault 1 0xFF, h, c)) ∧
  (∀ (c : Chip) (x : CutCtx) (va len lg n : Nat) (s : Seg) (h : Option (Nat × Nat)), x.direct = false → va < 2 ^ 56 → findSeg c x.sp va = some (n, s) →
    lostTable c s = false → c.mode = .rough → s.kind ≠ 1 → cutPiece c x va len lg h = (.fault 9 n, h, c)) ∧
  (∀ (c : Chip) (x : CutCtx) (va len lg n : Nat) (s : Seg) (h : Option (Nat × Nat)), x.direct = false → va < 2 ^ 56 → findSeg c x.sp va = some (n, s) → s.kind = 1 →
    (s.cls = 1 → bits (s.target + (va - s.start)) 39 1 = unitNo c →
      cutPiece c x va len lg h = (.entry ⟨0, false, s.target + (va - s.start), min len (s.len - (va - s.start)), lg, []⟩, h, c)) ∧
    (s.cls = 1 → bits (s.target + (va - s.start)) 39 1 ≠ unitNo c → bridgeUp c = true →
      cutPiece c x va len lg h = (.entry ⟨1, false, s.target + (va - s.start), min len (s.len - (va - s.start)), lg, []⟩, h, c)) ∧
    (s.cls = 1 → bits (s.target + (va - s.start)) 39 1 ≠ unitNo c → bridgeUp c = false → cutPiece c x va len lg h = (.fault 1 0xFF, h, c)) ∧
    (s.cls = 2 → cutPiece c x va len lg h =
      (.entry ⟨if s.portB then 4 else 3, false, s.target + (va - s.start), min len (s.len - (va - s.start)), lg, nsFrom s.ns lg⟩, h, c)) ∧
    (s.cls = 3 → svaEn c x.sp = false → cutPiece c x va len lg h = (.fault 7 n, h, c)) ∧
    (s.cls = 4 → cutPiece c x va len lg h = (.entry ⟨4, false, s.target + (va - s.start), min len (s.len - (va - s.start)), lg, nsFrom s.ns lg⟩, h, c)) ∧
    (s.cls = 5 → cutPiece c x va len lg h = (.entry ⟨7, false, s.target + (va - s.start), min len (s.len - (va - s.start)), lg, []⟩, h, c)) ∧
    (s.cls = 6 → cutPiece c x va len lg h = (.entry ⟨2, false, s.target + (va - s.start), min len (s.len - (va - s.start)), lg, []⟩, h, c))) ∧
  (∀ (c : Chip) (x : CutCtx) (va len lg n k ge : Nat) (s : Seg) (t : FacetTab) (f : Facet) (h : Option (Nat × Nat)), x.direct = false → va < 2 ^ 56 →
    findSeg c x.sp va = some (n, s) → lostTable c s = false → c.mode ≠ .rough → s.kind = 2 → tget (getSpace c x.sp).tabs n = some t →
    findFacet t s.len ((va - s.start) / 4096) = some (k, f, ge) → f.cls = 0 →
    cutPiece c x va len lg h = (if s.faultWait then .wait 2 n (.absent n k) else .fault 2 n, h, c))

/-- A Cutter takes the side that R66 grants: the next waiting side goes to the next idle Cutter in rotation (R21), and starts at the first stroke not yet cut, after the lines
of its Space's segment descriptors (R70); a whole index list that does not lie in one Fixed segment of class HBM or CLUSTER is UNMAPPED (R112). A line that comes enters the
facet cache, and the job goes on (R71, R72). A side that has been cut (R68, R70, R74): with waiting causes its node is switched out; else its entries are written, in the
set descriptor when they fit, in a working-pool block otherwise; with no block the Cutter waits and tries again. -/
def Obligations.CuttersCutSides : Prop :=
  (∀ (s : State) (k q e n : Nat) (side : Side) (l : Launch) (x : NodeRt), getLaunch s.toChip q e = some l → getNode l n = some x →
    nextKey s.sp.jobPtr (waitingJobs s.toChip) = some (jobKey q e n side) → rotate (s.sp.cutPtr % 16) 16 (cutterIdle s.toChip) = some k →
    indexedSide x.body side = false →
    BecomesOn 2 (.cutJobGrant k q e n side []) s
      (let o := openCut (passSwitch { s.toChip with sp := { s.sp with cutPtr := (k + 1) % 16, jobPtr := jobKey q e n side + 1 } } q e) l n x
       let c := passSwitch { s.toChip with sp := { s.sp with cutPtr := (k + 1) % 16, jobPtr := jobKey q e n side + 1 } } q e
       let lo := (strokeSpan x.body side (cutLo c x)).1
       react (runJob (if sideScratch x.hdr side then o.2 else readSegs o.2 k l.space) k
         ⟨q, e, n, side, o.1, x.redo, lo, lo / elemUnit x.body side, lo / elemUnit x.body side, [], [], [], [], none, [], false, [], .run, 0, 0, false⟩))) ∧
  (∀ (s : State) (k q e n : Nat) (side : Side) (idx : List Nat) (l : Launch) (x : NodeRt), dueGrant k q e n side idx s.toChip = true →
    getLaunch s.toChip q e = some l → getNode l n = some x → indexedSide x.body side = true →
    idxHome (passSwitch { s.toChip with sp := { s.sp with cutPtr := (k + 1) % 16, jobPtr := jobKey q e n side + 1 } } q e) l.space x.body = false →
    BecomesOn 2 (.cutJobGrant k q e n side idx) s
      (react (faultEnd (passSwitch { s.toChip with sp := { s.sp with cutPtr := (k + 1) % 16, jobPtr := jobKey q e n side + 1 } } q e) q e n 1 (dIdxList x.body) 0xFF))) ∧
  (∀ (s : State) (k ln : Nat) (j : CutJob), s.sp.missing.contains (k, ln) = true → tget s.sp.cutters k = some j → j.phase = .miss →
    BecomesOn 2 (.facetCacheMissReturn k ln) s
      (react (runJob (cacheFill { s.toChip with sp := { s.sp with missing := s.sp.missing.filter (· != (k, ln)) } } ln) k j))) ∧
  (∀ (s : State) (k ln : Nat), s.sp.missing.contains (k, ln) = true → tget s.sp.cutters k = none →
    BecomesOn 2 (.facetCacheMissReturn k ln) s (react (cacheFill { s.toChip with sp := { s.sp with missing := s.sp.missing.filter (· != (k, ln)) } } ln))) ∧
  (∀ (c : Chip) (ln : Nat), cacheHas (cacheFill c ln) ln = true) ∧
  (∀ (s : State) (k : Nat) (j : CutJob), tget s.sp.cutters k = some j → j.phase = .done → j.waited = true →
    BecomesOn 2 (.sideCutComplete k) s (react (switchOut s.toChip j.q j.e j.n))) ∧
  (∀ (s : State) (k : Nat) (j : CutJob) (l : Launch) (x : NodeRt), tget s.sp.cutters k = some j → j.phase = .done → j.waited = false →
    getLaunch s.toChip j.q j.e = some l → getNode l j.n = some x → (j.entries.reverse.take 65536).length ≤ inlineCap (sideForm x.body j.side) →
    BecomesOn 2 (.sideCutComplete k) s (react (putSide s.toChip k j ⟨sideForm x.body j.side, firstSeg s.toChip l.space x j, j.entries.reverse.take 65536, none⟩
      (coveredHi x.body j.side (strokeCount x.body) (((j.entries.reverse.take 65536).getLast?.map fun e => e.logical + e.len).getD j.lo))))) ∧
  (∀ (s : State) (k a sz : Nat) (j : CutJob) (l : Launch) (x : NodeRt) (c : Chip), tget s.sp.cutters k = some j → j.phase = .done → j.waited = false →
    getLaunch s.toChip j.q j.e = some l → getNode l j.n = some x → inlineCap (sideForm x.body j.side) < (j.entries.reverse.take 65536).length →
    wpAlloc s.toChip ((j.entries.reverse.take 65536).length * (if sideForm x.body j.side = 1 then 8 else 16)) = some (a, sz, c) →
    BecomesOn 2 (.sideCutComplete k) s (react (putSide (nocWrites c (hbmRoute c a) a ((j.entries.reverse.take 65536).flatMap (entryBytes (sideForm x.body j.side)))) k j
      ⟨sideForm x.body j.side, firstSeg s.toChip l.space x j, j.entries.reverse.take 65536, some (a, sz)⟩
      (coveredHi x.body j.side (strokeCount x.body) (((j.entries.reverse.take 65536).getLast?.map fun e => e.logical + e.len).getD j.lo))))) ∧
  (∀ (s : State) (k : Nat) (j : CutJob) (l : Launch) (x : NodeRt), tget s.sp.cutters k = some j → j.phase = .list → j.waited = false →
    getLaunch s.toChip j.q j.e = some l → getNode l j.n = some x → inlineCap (sideForm x.body j.side) < (j.entries.reverse.take 65536).length →
    wpAlloc s.toChip ((j.entries.reverse.take 65536).length * (if sideForm x.body j.side = 1 then 8 else 16)) = none →
    BecomesOn 2 (.cutListRetry k) s (react (setCut (stat s.toChip 0x7035 8 1) k { j with phase := .list }))) ∧
  (∀ (s : State) (k : Nat) (j : CutJob), tget s.sp.cutters k = some j → j.phase = .list → j.waited = false →
    BecomesOn 2 (.cutListRetry k) s (react (writeSide k j s.toChip)))

/-- ATS and PRI (R76, R77): a failed translation is cause 7; a page with the permission joins what the Cutter knows, which goes on; a page request answered Success resolves
the cause of the node that waits for it, switched out or still being cut; any other answer is cause 6, and a Response Failure stops page requests on the port. A
switched-out node (R74): when every cause is resolved it can be cut again; when its fault timeout passes first, cause 8 ends the launch with FAULT_UNRESOLVED, unless it has
ended already, which counts in the Space's fault record and on source 176 (R75, R229). -/
def Obligations.FaultsAndAnswersOfTranslation : Prop :=
  (∀ (s : State) (k : Nat) (j : CutJob) (l : Launch) (x : NodeRt), tget s.sp.cutters k = some j → j.phase = .ats → j.sent = true →
    getLaunch s.toChip j.q j.e = some l → getNode l j.n = some x →
    BecomesOn 2 (.atsTranslationCompletion k .failed) s (react (sendWaiting (faultEnd { s.toChip with sp := { s.sp with atsOut := s.sp.atsOut - 1 } } j.q j.e j.n 7
      (elemStart x.body j.side j.idx j.atsElem) (((findSeg s.toChip l.space (elemStart x.body j.side j.idx j.atsElem)).map (·.1)).getD 0xFF))))) ∧
  (∀ (s : State) (k pa size : Nat) (rd wr : Bool) (j : CutJob) (l : Launch) (x : NodeRt), tget s.sp.cutters k = some j → j.phase = .ats → j.sent = true →
    getLaunch s.toChip j.q j.e = some l → getNode l j.n = some x → (if j.side = .dst then wr else rd) = true →
    BecomesOn 2 (.atsTranslationCompletion k (.page pa size rd wr)) s (react (sendWaiting (runJob { s.toChip with sp := { s.sp with atsOut := s.sp.atsOut - 1 } } k
      { j with memo := (j.atsPage / max 4096 size * max 4096 size, max 4096 size, pa) :: j.memo })))) ∧
  (∀ (s : State) (p : HPort) (page : Nat), two s.sp.priOut p ≠ 0 → nodesWaiting s.toChip (isPageWait p page) = [] →
    BecomesOn 2 (.priPageResponse p page .success) s (react (sendNextPri { s.toChip with sp := { s.sp with priOut := setTwo s.sp.priOut p (two s.sp.priOut p - 1) } } p))) ∧
  (∀ (s : State) (p : HPort) (page q e n : Nat) (r : List (Nat × Nat × Nat)), two s.sp.priOut p ≠ 0 → nodesWaiting s.toChip (isPageWait p page) = (q, e, n) :: r →
    BecomesOn 2 (.priPageResponse p page .success) s (react (sendNextPri (modWaits { s.toChip with sp := { s.sp with
      priOut := setTwo s.sp.priOut p (two s.sp.priOut p - 1) } } q e n fun ws => ldel ws (isPageWait p page)) p))) ∧
  (∀ (s : State) (p : HPort) (page : Nat), two s.sp.priOut p ≠ 0 → nodesWaiting s.toChip (isPageWait p page) = [] →
    BecomesOn 2 (.priPageResponse p page .failure) s (react (sendNextPri { s.toChip with sp := { s.sp with
      priOut := setTwo s.sp.priOut p (two s.sp.priOut p - 1), priOff := setTwo s.sp.priOff p true } } p))) ∧
  (∀ (s : State) (p : HPort) (page q e n : Nat) (r : List (Nat × Nat × Nat)) (l : Launch) (x : NodeRt), two s.sp.priOut p ≠ 0 →
    nodesWaiting s.toChip (isPageWait p page) = (q, e, n) :: r → getLaunch s.toChip q e = some l → getNode l n = some x →
    BecomesOn 2 (.priPageResponse p page .failure) s (react (sendNextPri (faultEnd { s.toChip with sp := { s.sp with
      priOut := setTwo s.sp.priOut p (two s.sp.priOut p - 1), priOff := setTwo s.sp.priOff p true } } q e n 6 x.waitDva x.waitSeg) p))) ∧
  (∀ (s : State) (q e n : Nat) (l : Launch) (x : NodeRt), getLaunch s.toChip q e = some l → getNode l n = some x → l.final = 0xFF → x.out = true →
    (∀ w, w ∈ x.waits → waitOver s.toChip l.space w = true) →
    BecomesOn 2 (.nodeRecut q e n) s (react (modNode s.toChip q e n fun y => { y with out := false, restart := true, waits := [], timeout := 0 }))) ∧
  (∀ (s : State) (q e n now : Nat) (w : Wait) (l : Launch) (x : NodeRt), getLaunch s.toChip q e = some l → getNode l n = some x → l.final = 0xFF → x.out = true →
    x.timeout ≤ max s.clk.carillon (now % 2 ^ 64) → w ∈ x.waits → waitOver s.toChip l.space w = false →
    BecomesOn 2 (.faultTimeoutExpiry q e n now) s (react (faultEnd (advance s.toChip now) q e n 8 x.waitDva x.waitSeg))) ∧
  (∀ (c : Chip) (sp cause dva node q seg : Nat) (terminal : Bool),
    (getSpace (spaceFault c sp cause dva node q seg terminal) sp).faultCount = min 0xFFFFFFFF ((getSpace c sp).faultCount + 1)
      ∧ (spaceFault c sp cause dva node q seg terminal).toc.raised = c.toc.raised ++ (if terminal then [⟨176, sp, 1, 0⟩] else [])
      ∧ (spaceFault c sp cause dva node q seg terminal).bel = c.bel ∧ (spaceFault c sp cause dva node q seg terminal).pat = c.pat)

/-! The Geode (R84 to R105). -/

/-- The resolve table of R89 and R90, on the entry after the access has been counted: a FAR or PROMOTING grain is read at its far home and holds a write; a grain in HBM is
accessed at its frame, but for a reader of the older epoch, who gets the prior entry; a write to an EVICTING grain keeps it RESIDENT and DIRTY. -/
def Obligations.ResolvesFollowTheGrainState : Prop :=
  ∀ (c : Chip) (sp seg off v : Nat) (s : Seg) (pin : Option Nat),
    v = entryOf (countAccess c sp seg (off / grainBytes s)) sp seg (off / grainBytes s) →
    (isFar v = true → (geodeResolve c sp seg off s true pin).1 = .hold) ∧
    (isFar v = true → (geodeResolve c sp seg off s false pin).1 = farAns c s off (eSealed v)) ∧
    (isPromoting v = true → (geodeResolve c sp seg off s true pin).1 = .hold) ∧
    (isPromoting v = true → (geodeResolve c sp seg off s false pin).1 = farAns c s off (eSealed v)) ∧
    (eRes v = true → (geodeResolve c sp seg off s true pin).1 = .hbm (frameAddr c (eFrame c v) + off % grainBytes s)) ∧
    (eRes v = true → ePrior v = false → (geodeResolve c sp seg off s false pin).1 = .hbm (frameAddr c (eFrame c v) + off % grainBytes s)) ∧
    (eRes v = true → ePrior v = true → readsPrior c s.tableId pin = true → (geodeResolve c sp seg off s false pin).1 = priorAns c s seg (off / grainBytes s) off) ∧
    (isFar v = true → promotes c = true → manages c (off / grainBytes s) = true → c.geo.queue.length < 4096 → eFresh v = false → obj c 0x3500 6 ≤ eTally v →
      (geodeResolve c sp seg off s false pin).2.geo.queue = c.geo.queue ++ [(sp, seg, off / grainBytes s)]) ∧
    (isFar v = true → promotes c = true → manages c (off / grainBytes s) = true → c.geo.queue.length < 4096 → eFresh v = false →
      (geodeResolve c sp seg off s true pin).2.geo.queue = (sp, seg, off / grainBytes s) :: c.geo.queue) ∧
    (isFar v = true → eTally v < obj c 0x3500 6 → (geodeResolve c sp seg off s false pin).2.geo.queue = c.geo.queue)

/-- Promotion (R90, R92): tokens accrue up to the burst; the head takes the tokens of its size once, then the lowest frame that a list gives, and starts its copy; with no frame
it stays at the head and the sweeps of its grain size start. In DOUBLET a frame of the other die serves it when the lists here are below the low watermark (R104). A copy
that completes leaves the grain RESIDENT, not DIRTY, with TALLY at the threshold; one that fails leaves it FAR and returns the frame. -/
def Obligations.PromotionsRunTheirCourse : Prop :=
  (∀ s : State, s.geo.tokenAt < s.clk.carillon → s.geo.tokens < tokenCap s.toChip →
    BecomesOn 3 .promotionTokenAccrue s { s.toChip with geo := { s.geo with
      tokens := min (tokenCap s.toChip) (s.geo.tokens + (obj s.toChip 0x3500 0xB : Int) * ((s.clk.carillon - s.geo.tokenAt : Nat) : Int)), tokenAt := s.clk.carillon } }) ∧
  (∀ (s : State) (sp seg g : Nat) (r : List (Nat × Nat × Nat)), mayCopy s.toChip = true → s.geo.queue = (sp, seg, g) :: r → headPays (accrue s.toChip) = true →
    BecomesOn 3 (.promotionStart none) s (promote (accrue s.toChip) sp seg g none)) ∧
  (∀ (s : State) (sp seg g k : Nat) (r : List (Nat × Nat × Nat)), mayCopy s.toChip = true → s.geo.queue = (sp, seg, g) :: r → headPays (accrue s.toChip) = true →
    crossDie (accrue s.toChip) k = true → BecomesOn 3 (.promotionStart (some k)) s (promote (accrue s.toChip) sp seg g (some k))) ∧
  (∀ (c : Chip) (x : Nat × Nat × Nat) (grain : Nat), c.geo.paid.contains x = false →
    (payTokens c x grain).geo.tokens = c.geo.tokens - tokenCost grain ∧ (payTokens c x grain).geo.paid = x :: c.geo.paid) ∧
  (∀ (c : Chip) (x : Nat × Nat × Nat) (grain : Nat), c.geo.paid.contains x = true → payTokens c x grain = c) ∧
  (∀ (c d : Chip) (sp seg g k : Nat),
    takeFrame (payTokens c (sp, seg, g) (getSeg (getSpace c sp) seg).grain) (getSeg (getSpace c sp) seg).grain 1 (.grain sp seg g) = (some k, d) →
    promote c sp seg g none = startCopy d sp seg g k) ∧
  (∀ (c d : Chip) (sp seg g : Nat),
    takeFrame (payTokens c (sp, seg, g) (getSeg (getSpace c sp) seg).grain) (getSeg (getSpace c sp) seg).grain 1 (.grain sp seg g) = (none, d) →
    promote c sp seg g none = sweepFor d (getSeg (getSpace c sp) seg).grain) ∧
  (∀ (c : Chip) (sp seg g k : Nat), (startCopy c sp seg g k).geo.queue = c.geo.queue.drop 1 ∧ (startCopy c sp seg g k).geo.tokens = c.geo.tokens
    ∧ (startCopy c sp seg g k).geo.frames = c.geo.frames ∧ (startCopy c sp seg g k).bel = c.bel ∧ (startCopy c sp seg g k).clk = c.clk
    ∧ (startCopy c sp seg g k).lap = c.lap) ∧
  (∀ (s : State) (sp seg g : Nat), copying s.toChip sp seg g = true → copyOk s.toChip (.promote sp seg g) sp seg g = true → s.mode ≠ .doublet →
    BecomesOn 3 (.promotionCopyComplete sp seg g) s (react (stat (putEntry s.toChip sp seg g
      (setTally (setBit (setState (entryOf s.toChip sp seg g) false true) 34 false) (obj s.toChip 0x3500 6))) 0x7035 2 1))) ∧
  (∀ (s : State) (sp seg g : Nat), copying s.toChip sp seg g = true → copyBad s.toChip (.promote sp seg g) sp seg g = true →
    BecomesOn 3 (.promotionCopyFail sp seg g) s (react (copyFailed (freeFrame (changeEntry s.toChip sp seg g (toFar (entryOf s.toChip sp seg g)))
      (eFrame s.toChip (entryOf s.toChip sp seg g))) sp seg g (eFrame s.toChip (entryOf s.toChip sp seg g))))) ∧
  (∀ (c : Chip) (sp seg g k : Nat), c.mode ≠ .rough → (copyFailed c sp seg g k).toc.raised = c.toc.raised ++ [⟨178, k / 2 ^ 28, 1, 0⟩])

/-- The sweep and write-backs (R90, R93): the hand judges the grain of its frame: a cold clean grain is evicted, a cold dirty one is written back, a warm one's TALLY is
shifted; another frame is passed over; a written-back grain is clean and, unless a flush asked for it, leaves HBM; a failed write-back stays RESIDENT and DIRTY. -/
def Obligations.SweepsEvictAndWriteBack : Prop :=
  (∀ (s : State) (i : Nat) (w : Sweep), tget s.geo.sweeps i = some w → w.on = true → serving s.toChip = true → sdRoom s.toChip = true → tget s.geo.frames (i * 2 ^ 28 + w.hand) = none →
    BecomesOn 3 (.sweepVisit i) s (react (sweepNext s.toChip i))) ∧
  (∀ (s : State) (i sp seg g : Nat) (w : Sweep), tget s.geo.sweeps i = some w → w.on = true → serving s.toChip = true → sdRoom s.toChip = true →
    tget s.geo.frames (i * 2 ^ 28 + w.hand) = some (.grain sp seg g) → isResident (entryOf s.toChip sp seg g) = true → manages s.toChip g = true →
    (obj s.toChip 0x3500 7 ≤ eTally (entryOf s.toChip sp seg g) → BecomesOn 3 (.sweepVisit i) s (react (sweepNext (putEntry (stat s.toChip 0x7035 7 1) sp seg g
      (setTally (entryOf s.toChip sp seg g) (eTally (entryOf s.toChip sp seg g) / 2 ^ obj s.toChip 0x3500 8))) i))) ∧
    (eTally (entryOf s.toChip sp seg g) < obj s.toChip 0x3500 7 → ePrior (entryOf s.toChip sp seg g) = false → eFresh (entryOf s.toChip sp seg g) = false →
      openHeld s.toChip sp seg g = false →
      (isClean (getSeg (getSpace s.toChip sp) seg) (entryOf s.toChip sp seg g) = true →
        BecomesOn 3 (.sweepVisit i) s (react (sweepNext (evictGrain (stat s.toChip 0x7035 7 1) sp seg g (entryOf s.toChip sp seg g)) i))) ∧
      (isClean (getSeg (getSpace s.toChip sp) seg) (entryOf s.toChip sp seg g) = false →
        BecomesOn 3 (.sweepVisit i) s (react (sweepNext (writeBack (stat s.toChip 0x7035 7 1) sp seg g) i))))) ∧
  (∀ (s : State) (sp seg g : Nat), isEvicting (entryOf s.toChip sp seg g) = true → copyOk s.toChip (.writeBack sp seg g) sp seg g = true →
    s.geo.flushing.contains (sp, seg, g) = false →
    BecomesOn 3 (.writeBackComplete sp seg g) s (react (evictGrain (stat s.toChip 0x7035 6 1) sp seg g
      (setBit (setBit (entryOf s.toChip sp seg g) 34 false) 35 (getSeg (getSpace s.toChip sp) seg).sealed)))) ∧
  (∀ (s : State) (sp seg g : Nat), isEvicting (entryOf s.toChip sp seg g) = true → copyOk s.toChip (.writeBack sp seg g) sp seg g = true →
    s.geo.flushing.contains (sp, seg, g) = true → s.mode ≠ .doublet →
    BecomesOn 3 (.writeBackComplete sp seg g) s (react (flushPart (putEntry (stat s.toChip 0x7035 6 1) sp seg g
      (setState (setBit (setBit (entryOf s.toChip sp seg g) 34 false) 35 (getSeg (getSpace s.toChip sp) seg).sealed) false true)) sp seg g 1))) ∧
  (∀ (s : State) (sp seg g : Nat), isEvicting (entryOf s.toChip sp seg g) = true → copyBad s.toChip (.writeBack sp seg g) sp seg g = true →
    BecomesOn 3 (.writeBackFail sp seg g) s (react (copyFailed (flushPart (changeEntry s.toChip sp seg g (setBit (setState (entryOf s.toChip sp seg g) false true) 34 true)) sp seg g 0)
      sp seg g (eFrame s.toChip (entryOf s.toChip sp seg g))))) ∧
  (∀ (c : Chip) (sp seg g v : Nat), c.mode ≠ .doublet → (tget c.geo.maps (mapKey sp seg)).isSome = true →
    entryOf (evictGrain c sp seg g v) sp seg g = setTally (toFar v) 0)

/-- A write-back request and a grain probe (R101, R105): a segment that is not Tiered, or a grain past its end, answers RANGE; a running flush BUSY; the flush writes back
every grain that is RESIDENT and not clean; the probe shows the entry. Map builds, quarantine, decay and tallies (R88, R94, R95, R103): a filled map takes its segment; an
open batch closes when its time has passed; an acknowledged eviction's frame goes to quarantine; a decay visit halves the TALLY of a FAR grain; tallies of the other
unit's grains are sent to it, and what it sends is counted here; a change that it made is taken and acknowledged. -/
def Obligations.GeodeRequestsAndUpkeepRun : Prop :=
  (∀ payload, fld (leNat payload) 0 2 ≤ 1023 → fld (leNat payload) 2 1 ≤ 15 →
    RowDoes (fun src tag => .writeBackRequest src tag payload) 0x3500 0x12 payload id
      (fun c => (getSeg (getSpace c (fld (leNat payload) 0 2)) (fld (leNat payload) 2 1)).kind = 3 ∧ c.geo.flush.state ≠ 1
        ∧ flushGrains c (fld (leNat payload) 0 2) (fld (leNat payload) 2 1) = [])
      (fun c => { c with geo := { c.geo with flush := ⟨2, fld (leNat payload) 0 2, fld (leNat payload) 2 1, [], 0⟩ } })) ∧
  (∀ payload, fld (leNat payload) 0 2 ≤ 1023 → fld (leNat payload) 2 1 ≤ 15 →
    RowDoes (fun src tag => .writeBackRequest src tag payload) 0x3500 0x12 payload id
      (fun c => (getSeg (getSpace c (fld (leNat payload) 0 2)) (fld (leNat payload) 2 1)).kind = 3 ∧ c.geo.flush.state ≠ 1)
      (fun c => flushNext
        { c with geo := { c.geo with
          flush := ⟨1, fld (leNat payload) 0 2, fld (leNat payload) 2 1, flushGrains c (fld (leNat payload) 0 2) (fld (leNat payload) 2 1), 0⟩,
          flushing := c.geo.flushing ++ (flushGrains c (fld (leNat payload) 0 2) (fld (leNat payload) 2 1)).map fun g => (fld (leNat payload) 0 2, fld (leNat payload) 2 1, g) } })) ∧
  (∀ payload, RowTurnsAway (fun src tag => .writeBackRequest src tag payload) 0x3500 0x12 payload id
    (fun c => 1023 < fld (leNat payload) 0 2 ∨ 15 < fld (leNat payload) 2 1 ∨ (getSeg (getSpace c (fld (leNat payload) 0 2)) (fld (leNat payload) 2 1)).kind ≠ 3) 5) ∧
  (∀ payload, fld (leNat payload) 0 2 ≤ 1023 → fld (leNat payload) 2 1 ≤ 15 → RowTurnsAway (fun src tag => .writeBackRequest src tag payload) 0x3500 0x12 payload id
    (fun c => (getSeg (getSpace c (fld (leNat payload) 0 2)) (fld (leNat payload) 2 1)).kind = 3 ∧ c.geo.flush.state = 1) 6) ∧
  (∀ payload, fld (leNat payload) 0 2 ≤ 1023 → fld (leNat payload) 2 1 ≤ 15 →
    RowDoes (fun src tag => .grainProbeRequest src tag payload) 0x3500 0x15 payload id
      (fun c => (getSeg (getSpace c (fld (leNat payload) 0 2)) (fld (leNat payload) 2 1)).kind = 3
        ∧ fld (leNat payload) 8 8 < grainCount (getSeg (getSpace c (fld (leNat payload) 0 2)) (fld (leNat payload) 2 1)))
      (fun c => { c with geo := { c.geo with probe := entryOf c (fld (leNat payload) 0 2) (fld (leNat payload) 2 1) (fld (leNat payload) 8 8) } })) ∧
  (∀ payload, RowTurnsAway (fun src tag => .grainProbeRequest src tag payload) 0x3500 0x15 payload id
    (fun c => 1023 < fld (leNat payload) 0 2 ∨ 15 < fld (leNat payload) 2 1 ∨ (getSeg (getSpace c (fld (leNat payload) 0 2)) (fld (leNat payload) 2 1)).kind ≠ 3
      ∨ grainCount (getSeg (getSpace c (fld (leNat payload) 0 2)) (fld (leNat payload) 2 1)) ≤ fld (leNat payload) 8 8) 5) ∧
  (∀ s : State, s.geo.build.state = 1 →
    Becomes .mapBuildFillDone s (react (mirror (segTake { s.toChip with geo := { s.geo with build := { s.geo.build with state := 2, filled := grainCount s.geo.build.desc } } }
      s.geo.build.space s.geo.build.seg s.geo.build.desc) .space s.geo.build.space none))) ∧
  (∀ (s : State) (now : Nat) (b : Batch) (r : List Batch), s.geo.batches = b :: r → b.closed = false → b.opened + obj s.toChip 0x3500 0xF ≤ max s.clk.carillon (now % 2 ^ 64) →
    BecomesOn 3 (.quarantineTimeExpiry now) s (react (b.spaces.foldl (fun c sp => requestBump c sp false (.batch b.id) .none)
      { advance s.toChip now with geo := { s.geo with batches := lmod s.geo.batches (·.id == b.id) fun x => { x with closed := true } } }))) ∧
  (∀ (s : State) (sp seg g k : Nat), s.geo.acks = [(sp, seg, g)] → (s.geo.frames.filter fun x => x.2 == .returning sp seg g) = [(k, .returning sp seg g)] →
    BecomesOn 3 (.geodeStateAck sp seg g none) s (react (quarantine { s.toChip with geo := { s.geo with acks := [] } } sp k))) ∧
  (∀ (s : State) (sp seg g v : Nat), s.mode = .doublet → manages s.toChip g = false → (tget s.geo.maps (mapKey sp seg)).isSome = true →
    BecomesOn 3 (.geodeStateAck sp seg g (some v)) s (react (emit (setEntry s.toChip sp seg g v)
      (.bridge 21 (leBytes 16 (pack [(sp, 2), (seg, 1), (0, 5), (g, 8)])))))) ∧
  (∀ (s : State) (sp seg g : Nat), dueDecay s.toChip = true → grainAt (tieredSegs s.toChip) s.geo.decayGrain = some (sp, seg, g) →
    isFar (entryOf s.toChip sp seg g) = true → manages s.toChip g = true →
    s.geo.decayGrain + 1 < (tieredSegs s.toChip).foldl (fun m x => m + x.2.2) 0 →
    BecomesOn 3 .farDecayVisit s (let c := setEntry s.toChip sp seg g (setTally (entryOf s.toChip sp seg g) (eTally (entryOf s.toChip sp seg g) / 2))
      { c with geo := { c.geo with hbmTally := tmod s.geo.hbmTally (tallyKey sp seg g) (· / 2), decayGrain := s.geo.decayGrain + 1 } })) ∧
  (∀ s : State, s.mode = .doublet → s.geo.tallies ≠ [] →
    BecomesOn 3 (.tallyForward none) s (emit { s.toChip with geo := { s.geo with tallies := [] } }
      (.bridge 5 (s.geo.tallies.flatMap fun x => leBytes 16 (pack [(x.1, 2), (x.2.1, 1), (0, 5), (x.2.2, 8)]))))) ∧
  (∀ (s : State) (m : GeoMsg), s.mode = .doublet → bridgeUp s.toChip = true → BecomesOn 3 (.tallyForward (some m)) s (react (takeForward m s.toChip))) ∧
  (∀ (c : Chip) (sp seg g : Nat), manages c g = true → takeForward ⟨[(sp, seg, g)], [], [], []⟩ c = countEntry c sp seg g)

/-- The pools (R97, R98): a run that the structure pool gives lies in the pool, is whole 2 MiB units, and meets neither the frame table nor a run in use; a block that the
working pool gives is a power of two from 4 KiB to 1 MiB that holds the request, and meets no block in use; what is returned is free again. -/
def Obligations.PoolsGiveDisjointRuns : Prop :=
  (∀ (c c' : Chip) (bytes a : Nat), spAlloc c bytes = some (a, c') →
    spBase c ≤ a ∧ a + roundUp bytes 0x200000 ≤ spBase c + spLen c
      ∧ (∀ u, u ∈ frameTableRun c ++ c.geo.spUsed → overlaps a (roundUp bytes 0x200000) u.1 u.2 = false)
      ∧ c'.geo.spUsed = (a, roundUp bytes 0x200000) :: c.geo.spUsed ∧ c'.objs = c.objs) ∧
  (∀ (c c' : Chip) (bytes a s : Nat), wpAlloc c bytes = some (a, s, c') →
    bytes ≤ s ∧ 4096 ≤ s ∧ s ≤ 0x100000 ∧ (∃ k, s = 2 ^ k) ∧ a + s ≤ fld (obj c 0x3500 2) 0 8 + fld (obj c 0x3500 2) 8 8
      ∧ (∀ u, u ∈ c.geo.wpBlocks → overlaps a s u.1 u.2 = false) ∧ c'.geo.wpBlocks = (a, s) :: c.geo.wpBlocks ∧ c'.objs = c.objs) ∧
  (∀ (c : Chip) (a b n : Nat), (b, n) ∈ (wpRelease c a).geo.wpBlocks ↔ (b, n) ∈ c.geo.wpBlocks ∧ b ≠ a) ∧
  (∀ (c : Chip) (a b n : Nat), (b, n) ∈ (spFree c a).geo.spUsed ↔ (b, n) ∈ c.geo.spUsed ∧ b ≠ a)

/-! The Transfer Engine (R106 to R153). -/

/-- The binder (R107): a node that may bind goes to the eligible channel with the fewest queued bytes; when every one is full it waits, which is counted once. An eligible
channel is a launch channel in service, neither HALTED nor FENCED, with fewer than eight owners bound. Paces, marks and scale banks (R118, R120, R121, R144): the tick of
an AT_TICK node, the end of another channel's node, the period of a channel let their node go on; a mark fires when its flush reads have returned: it advances HALF or FULL of its queue modulo
2^16 and satisfies the node's mark edges; a host write of 4 or 8 bytes stores one or two scales. -/
def Obligations.NodesBindAndPace : Prop :=
  (∀ (s : State) (q e n ch : Nat), n ≠ 8192 → bindable s.toChip q e n = true → bestChan s.toChip (partChan s.toChip (.node q e n)) = some ch →
    BecomesOn 4 (.nodeBind q e n) s (react (bindTo (modNode (passSwitch s.toChip q e) q e n fun x => { x with st := .bound, bindWait := false }) (.node q e n) ch))) ∧
  (∀ (s : State) (q e n : Nat), n ≠ 8192 → bindable s.toChip q e n = true → bestChan s.toChip (partChan s.toChip (.node q e n)) = none → hasWaited s.toChip q e n = false →
    BecomesOn 4 (.nodeBind q e n) s (react (stat (modNode s.toChip q e n fun x => { x with bindWait := true }) 0x7036 5 1))) ∧
  (∀ (c : Chip) (ok : Nat → Bool) (ch : Nat), bestChan c ok = some ch →
    ch < 64 ∧ ok ch = true ∧ ∀ j, j < 64 → ok j = true → chanQueued c ch ≤ chanQueued c j) ∧
  (∀ (c : Chip) (ok : Nat → Bool), bestChan c ok = none ↔ ∀ j, j < 64 → ok j = false) ∧
  (∀ (c : Chip) (ch : Nat), canBind c ch = true ↔ ch < 64 ∧ bit c.toc.channels ch = true ∧ bit (obj c 0x3500 0x10) ch = false ∧ bit (obj c 0x3800 1) ch = false
    ∧ (getChan c ch).state ≠ 4 ∧ (getChan c ch).state ≠ 5 ∧ (getChan c ch).bound.length < 8) ∧
  (∀ (c : Chip) (q e n ch : Nat), q ≠ lapQ → partChan c (.node q e n) ch = canBind c ch) ∧
  (∀ (s : State) (q e n now : Nat) (x : NodeRt), paceWaits s.toChip q e n 1 = some x → dPaceTick x.body ≤ max s.clk.carillon (now % 2 ^ 64) →
    BecomesOn 4 (.paceAtTickMet q e n now) s (react (modNode (advance s.toChip now) q e n fun y => { y with paceOk := true }))) ∧
  (∀ (s : State) (ch now : Nat) (sd : SetDesc), (getChan s.toChip ch).state = 2 → nextIssue s.toChip ch = some sd → periodTick s.toChip sd ≤ max s.clk.carillon (now % 2 ^ 64) →
    BecomesOn 4 (.pacePeriodDue ch now) s (settleChan (advance s.toChip now) ch)) ∧
  (∀ (s : State) (q e n : Nat) (x : NodeRt), paceWaits s.toChip q e n 3 = some x → x.paceBase ≠ 0 → obj s.toChip (0x3600 + dPaceCh x.body) 4 ≠ x.paceBase - 1 →
    BecomesOn 4 (.paceAfterChannelMet q e n) s (react (modNode s.toChip q e n fun y => { y with paceOk := true }))) ∧
  (∀ (s : State) (q e n : Nat) (half : Bool) (l : Launch) (m : Mark), getLaunch s.toChip q e = some l → firstMark l n = some m → m.half = half → m.ports = [] →
    (∀ i, i ∈ m.reads → tget s.xf.reqs i = none) → waitsLink s.toChip l = false →
    BecomesOn 4 (.markFire q e n half) s (react (modLaunch
      (modQueue s.toChip q fun x => if half then { x with half := (x.half + 1) % 65536 } else { x with full := (x.full + 1) % 65536 }) q e
      fun y => if m.old then { y with marks := y.marks.erase m } else resolveEdges { y with marks := y.marks.erase m } n [if half then 1 else 2] 1))) ∧
  (∀ (s : State) (p : HPort) (off v : Nat), hostPosts s.toChip p = true → hostDecodes s.toChip p = true → bankAllowed s.toChip off 4 = true →
    Becomes (.scaleBankWrite p off 4 v) s (setBank (received s.toChip p 4) ((off - 0x40000) / 4 / 1024) ((off - 0x40000) / 4) v)) ∧
  (∀ (s : State) (p : HPort) (off v : Nat), hostPosts s.toChip p = true → hostDecodes s.toChip p = true → bankAllowed s.toChip off 8 = true →
    Becomes (.scaleBankWrite p off 8 v) s (setBank (setBank (received s.toChip p 8) ((off - 0x40000) / 4 / 1024) ((off - 0x40000) / 4) v)
      (((off - 0x40000) / 4 + 1) / 1024) ((off - 0x40000) / 4 + 1) (v / 2 ^ 32))) ∧
  (∀ (c : Chip) (b i v : Nat), i < 1024 → bankEntry (setBank c b i v) b i = v % 2 ^ 32)

/-- A stroke issues and its requests are answered (R79, R113, R114, R132): the next stroke of the channel goes out and NEXT_STROKE advances; read data are laid into the
stroke, an acknowledged write settles, an error CLASS stops the stroke. The entry of the tracker frees with every answer. A stroke ends (R79, R113, R130): its requests
settled and its writes made, it leaves its channel and its set descriptor, is counted, and its node hears of it; one that an abort ends is counted as such. -/
def Obligations.StrokesIssueAndComplete : Prop :=
  (∀ (s : State) (ch q e n : Nat) (sd : SetDesc), ch < 64 → (getChan s.toChip ch).state = 1 → bit s.toc.channels ch = true → nextIssue s.toChip ch = some sd →
    issueOk s.toChip ch sd = true → sd.owner = .node q e n → pullCost sd sd.next = 0 →
    BecomesOn 4 (.strokeIssue ch) s
      (let x := freshStroke s.toChip ch sd sd.next s.xf.nextStroke 0 (issueScales s.toChip sd.body)
       let c := presentAll (modChan (modNode (modSd { s.toChip with xf := { s.xf with nextStroke := x.seq + 1 } } sd.id fun y => { y with next := y.next + 1, live := y.live + 1 })
         q e n fun y => { y with next := sd.next + 1, t0 := if sd.next = 0 then s.clk.carillon + 1 else y.t0 }) ch fun y => { y with strokes := y.strokes ++ [x] })
       react (settleChan (if ((getLaunch c q e).bind fun l => (getNode l n).map fun y => y.out).getD false then leaveIdle c q e n else c) ch))) ∧
  (∀ (s : State) (id : Nat) (r : XReq) (a : ReqAnswer), tget s.xf.reqs id = some r → answerFits r a = true →
    BecomesOn 4 (.requestResponse id a) s (shutGo (presentAll (answerReq s.toChip r a)))) ∧
  (∀ (c : Chip) (r : XReq) (p : HPort) (bs : Bytes), routePort r.route = some p → ((getSd c r.sd).map fun sd => isLapOwner sd.owner).getD false = false →
    answerReq c r (.data bs) = refreshAt (settleReq (stat c (0x7012 + portNo p) 2 bs.length) r
      fun x => { x with data := putPiece r.off (readData (stat c (0x7012 + portNo p) 2 bs.length) r bs) x.data }) r.ch r.sd r.k) ∧
  (∀ (c : Chip) (r : XReq) (bs : Bytes), routePort r.route = none → offDie r.route = false →
    answerReq c r (.data bs) = refreshAt (settleReq c r fun x => { x with data := putPiece r.off (readData c r bs) x.data }) r.ch r.sd r.k) ∧
  (∀ (c : Chip) (r : XReq), answerReq c r .ack = settleReq c r fun x => x) ∧
  (∀ (c : Chip) (r : XReq) (cls : Nat), answerReq c r (.err cls) = settleReq (portError c r cls) r
      fun x => if x.err = 0 then { x with err := cls, errRoute := r.route, todo := [], wtodo := [] } else x) ∧
  (∀ (c : Chip) (r : XReq) (f : Stroke → Stroke) (k : Nat), tget (settleReq c r f).xf.reqs k = if k = r.id then none else tget c.xf.reqs k) ∧
  (∀ (s : State) (ch sd k q e n : Nat) (x : Stroke) (d : SetDesc), getStroke s.toChip ch sd k = some x → getSd s.toChip sd = some d → x.out = 0 → x.aborted = false →
    x.phase = .writing → x.wtodo = [] → x.err = 0 → d.owner = .node q e n →
    BecomesOn 4 (.strokeComplete ch sd k) s (react (settleChan (presentAll (retryDone
      (nodeStroke (strokeStats (dropStroke s.toChip ch x) ch d.body x) ch q e n d.body x) ch)) ch))) ∧
  (∀ (s : State) (ch sd k : Nat) (x : Stroke) (d : SetDesc), getStroke s.toChip ch sd k = some x → getSd s.toChip sd = some d → x.out = 0 → x.aborted = true →
    BecomesOn 4 (.strokeComplete ch sd k) s (react (settleChan (presentAll (retryDone (dropStroke s.toChip ch x) ch)) ch))) ∧
  (∀ (c : Chip) (ch : Nat) (x : Stroke), obj (abortStroke c ch x) 0x7036 2 = (obj c 0x7036 2 + 1) % 2 ^ 64) ∧
  (∀ (b : Nat) (x : Stroke) (r : ConvRes), dConverts b = true →
    (convAdd b x r).sat = min 0xFFFFFFFF (r.sat + x.sat) ∧ (convAdd b x r).unf = min 0xFFFFFFFF (r.unf + x.unf) ∧ (convAdd b x r).nan = min 0xFFFFFFFF (r.nan + x.nan)
      ∧ (x.trip = true → (convAdd b x r).trips = r.trips ++ [x.k])) ∧
  (∀ (b : Nat) (x : Stroke) (r : ConvRes), dConverts b = false → convAdd b x r = r)

/-- Stroke errors (R126 to R129): a retryable error stops the channel until the stroke is reissued, at most as often as the retry limit says, after which the channel halts,
raises its event and its launch ends with BUS_ERROR; a non-retryable one ends the launch and the channel continues; RESUME returns a halted channel to IDLE. -/
def Obligations.StrokeErrorsRetryHaltOrEnd : Prop :=
  (∀ (s : State) (ch sd k cls : Nat) (x : Stroke) (d : SetDesc), getStroke s.toChip ch sd k = some x → getSd s.toChip sd = some d → x.err = cls → 1 ≤ cls → cls ≤ 4 →
    x.aborted = false → x.phase ≠ .retry → ownerGone s.toChip d.owner = false → (getChan s.toChip ch).state ≠ 4 → (getChan s.toChip ch).state ≠ 5 →
    ((sFixed0 d.body .dst && contigLen d.body == 0) = false → x.retries < obj s.toChip (0x3600 + ch) 3 →
      BecomesOn 4 (.strokeErrorRetryable ch sd k cls) s (react (modChan (modStroke (noteErr s.toChip ch d.owner cls x.errRoute) ch x.sd x.k fun y => { y with phase := .retry }) ch
        fun y => { y with state := 3 }))) ∧
    (obj s.toChip (0x3600 + ch) 3 ≤ x.retries →
      BecomesOn 4 (.strokeErrorRetryable ch sd k cls) s (react (channelHalt (dropFailed (noteErr s.toChip ch d.owner cls x.errRoute) ch x) ch d.owner)))) ∧
  (∀ (s : State) (ch : Nat) (x : Stroke), retryStroke s.toChip ch = some x →
    BecomesOn 4 (.strokeRetryReissue ch) s (react (reissue s.toChip ch x))) ∧
  (∀ (s : State) (ch sd k cls : Nat) (x : Stroke) (d : SetDesc), getStroke s.toChip ch sd k = some x → getSd s.toChip sd = some d → x.err = cls → 5 ≤ cls → x.aborted = false →
    ownerGone s.toChip d.owner = false → cls ≠ 6 →
    BecomesOn 4 (.strokeErrorFatal ch sd k cls) s
      (react (settleChan (ownerFail (dropFailed (noteErr s.toChip ch d.owner cls x.errRoute) ch x) d.owner (if cls = 7 then 7 else 9)) ch))) ∧
  (∀ (s : State) (id now : Nat) (r : XReq), tget s.xf.reqs id = some r → r.route = 7 → r.limit ≤ max s.clk.carillon (now % 2 ^ 64) →
    BecomesOn 7 (.peerRequestTimeout id now) s (presentAll (failReq (stat (advance s.toChip now) 0x7048 5 1) r 4))) ∧
  (∀ ch, ch < 64 → RowDoes (fun src tag => .channelResume src tag ch 1) (0x3600 + ch) 2 (leBytes 1 1) (fun c => react (bindParts c)) (fun c => (getChan c ch).state = 4)
    (fun c => modChan c ch fun x => { x with state := 0 })) ∧
  (∀ ch, ch < 64 → RowTurnsAway (fun src tag => .channelResume src tag ch 1) (0x3600 + ch) 2 (leBytes 1 1) (fun c => react (bindParts c)) (fun c => (getChan c ch).state ≠ 4) 7) ∧
  (∀ ch v, ch < 64 → v % 256 ≠ 1 → RowTurnsAway (fun src tag => .channelResume src tag ch v) (0x3600 + ch) 2 (leBytes 1 v) (fun c => react (bindParts c)) (fun _ => True) 5)

/-! The data path (R115, R116, R136 to R149). -/

/-- INTERLEAVE (R115): W lanes of L = N / W bytes are written out alternately in units of u bytes, output[(k W + j) u + m] = input[j L + k u + m]; DEINTERLEAVE is the exact
inverse; the spec's worked example. -/
def Obligations.InterleaveWritesLanesAlternately : Prop :=
  (∀ (ways u j k m : Nat) (bs : Bytes), 1 ≤ ways → 1 ≤ u → bs.length % (ways * u) = 0 → j < ways → k < bs.length / ways / u → m < u →
    byteAt (interleave ways u bs) ((k * ways + j) * u + m) = byteAt bs (j * (bs.length / ways) + k * u + m)) ∧
  (∀ (ways u : Nat) (bs : Bytes), (interleave ways u bs).length = bs.length ∧ (deinterleave ways u bs).length = bs.length) ∧
  (∀ (ways u : Nat) (bs : Bytes), 1 ≤ ways → 1 ≤ u → bs.length % (ways * u) = 0 →
    deinterleave ways u (interleave ways u bs) = bs ∧ interleave ways u (deinterleave ways u bs) = bs) ∧
  interleave 4 2 ((List.range 32).map (BitVec.ofNat 8)) =
    [0x00, 0x01, 0x08, 0x09, 0x10, 0x11, 0x18, 0x19, 0x02, 0x03, 0x0A, 0x0B, 0x12, 0x13, 0x1A, 0x1B,
     0x04, 0x05, 0x0C, 0x0D, 0x14, 0x15, 0x1C, 0x1D, 0x06, 0x07, 0x0E, 0x0F, 0x16, 0x17, 0x1E, 0x1F]

/-- PLANES (R116): in each block of 64 b bytes, 512 codes of b bits, plane p holds in its bit i bit p of code i; UNPLANES is the exact inverse; for b = 1 both are the
identity; the spec's worked example. -/
def Obligations.PlanesTransposeTheBitsOfCodes : Prop :=
  (∀ (b blk p i : Nat) (bs : Bytes), 1 ≤ b → bs.length % (64 * b) = 0 → blk < bs.length / (64 * b) → p < b → i < 512 →
    bitAt (planes b bs) (blk * (64 * b) * 8 + p * 64 * 8 + i) = bitAt bs (blk * (64 * b) * 8 + i * b + p)) ∧
  (∀ (b : Nat) (bs : Bytes), (planes b bs).length = bs.length ∧ (unplanes b bs).length = bs.length) ∧
  (∀ (b : Nat) (bs : Bytes), 1 ≤ b → bs.length % (64 * b) = 0 → unplanes b (planes b bs) = bs ∧ planes b (unplanes b bs) = bs) ∧
  (∀ bs : Bytes, bs.length % 64 = 0 → planes 1 bs = bs ∧ unplanes 1 bs = bs) ∧
  (∀ bs : Bytes, bs.length = 256 → bs.take 4 = [0x21, 0x43, 0x65, 0x87] →
    byteAt (planes 4 bs) 0 = 0x55 ∧ byteAt (planes 4 bs) 64 = 0x66 ∧ byteAt (planes 4 bs) 128 = 0x78 ∧ byteAt (planes 4 bs) 192 = 0x80)

/-- A finite value of a format converts to itself under scale 1, and nothing is counted (R138, R141): decoding and encoding lose nothing, in any of the eight formats. The
special values and the limits of a conversion (R139 to R141): a NaN counts in NAN and becomes the destination's NaN, or 0 where it has none; an infinity or a magnitude
past the largest finite one saturates and counts in SAT, unless OOR = OVERFLOW in a format that holds infinities; a non-zero value that rounds to 0 counts in UNF. -/
def Obligations.ConversionsKeepSaturateAndCount : Prop :=
  (∀ (f code num den : Nat) (neg ovf : Bool), f < 8 → code < 2 ^ fmtBits f → decodeNum f code = .fin neg num den →
    encodeNum f ovf (decodeNum f code) = (code, ⟨0, 0, 0⟩) ∧ convertOne f f ovf 0x3F800000 code = (code, ⟨0, 0, 0⟩)) ∧
  (∀ (f : Nat) (ovf n : Bool), f < 8 → (encodeNum f ovf (.nan n)).2 = ⟨0, 0, 1⟩ ∧ (fmtInt f = true ∨ f = 7 → (encodeNum f ovf (.nan n)).1 = 0)) ∧
  (∀ (f : Nat) (n : Bool), f < 8 → (encodeNum f false (.inf n)).2 = ⟨1, 0, 0⟩ ∧
    (fmtInt f = false → (encodeNum f false (.inf n)).1 = signed f n (fmtMax f)) ∧ (fmtInt f = true → (encodeNum f false (.inf n)).1 = intLimit f n)) ∧
  (∀ (f num den : Nat) (n : Bool), f < 8 → fmtInt f = false → fmtMax f < roundFloat f num den →
    encodeNum f false (.fin n num den) = (signed f n (fmtMax f), ⟨1, 0, 0⟩)) ∧
  (∀ (f num den : Nat) (n ovf : Bool), f < 8 → num ≠ 0 → (encodeNum f ovf (.fin n num den)).2.unf = 1 →
    (fmtInt f = true → roundHalfEven num den = 0) ∧ (fmtInt f = false → roundFloat f num den = 0)) ∧
  (∀ (sf df : Nat) (ovf : Bool) (sel policy satLim unfLim head issued : Nat) (vals : List (Nat × Nat)),
    (convertStroke sf df ovf sel policy satLim unfLim head issued vals).trip = true ↔
      (satLim < (convertRun sf df ovf vals).2.sat ∨ unfLim < (convertRun sf df ovf vals).2.unf)) ∧
  (∀ (sf df : Nat) (ovf : Bool) (sel satLim unfLim head issued : Nat) (vals : List (Nat × Nat)),
    (convertStroke sf df ovf sel 0 satLim unfLim head issued vals).data = packCodes df (convertRun sf df ovf vals).1 ∧
    (satLim < (convertRun sf df ovf vals).2.sat →
      (convertStroke sf df ovf sel 1 satLim unfLim head issued vals).data = packCodes 1 (convertRun sf 1 ovf vals).1))

/-! Lapidary (R154 to R175). -/

/-- Tables (R154, R155, R157): DEFINE of an UNDEFINED table with a sound definition, for a Space that is BUILDING or LIVE and a tenant attached, gives DEFINED, with a bitmap
run when it has escape slots; UNDEFINE of a table that no segment carries and no post names returns everything; a DEFINED table whose segments are installed serves at
epoch 0 with L zero. -/
def Obligations.TablesAreDefinedAndServe : Prop :=
  (∀ t, 1 ≤ t → t < 256 → RowDoes (fun src tag => .tableDefine src tag t) (0x3800 + t) 2 (leBytes 1 1) id
    (fun c => tableDefBad c t = false ∧ (getTable c t).state = 0 ∧ ((getSpace c (tabSpace c t)).state = 1 ∨ (getSpace c (tabSpace c t)).state = 2) ∧ c.sec.ten.state = 2
      ∧ tabEscSlots c t = 0)
    (fun c => setTable c t { getTable c t with state := 1 })) ∧
  (∀ (s : State) (src : Src) (tag t a : Nat) (c : Chip), 1 ≤ t → t < 256 → Serves s src (writeReq tag (0x3800 + t) 2 (leBytes 1 1)) → tableDefBad s.toChip t = false →
    (getTable s.toChip t).state = 0 → (getSpace s.toChip (tabSpace s.toChip t)).state = 1 ∨ (getSpace s.toChip (tabSpace s.toChip t)).state = 2 → s.sec.ten.state = 2 →
    tabEscSlots s.toChip t ≠ 0 → spAlloc s.toChip (roundUp ((tabEscSlots s.toChip t + 7) / 8) 0x200000) = some (a, c) →
    Becomes (.tableDefine src tag t) s (finishWrite (modTable c t fun x => { x with state := 1, bitmap := some (a, roundUp ((tabEscSlots s.toChip t + 7) / 8) 0x200000) })
      src (writeReq tag (0x3800 + t) 2 (leBytes 1 1)) 0 0)) ∧
  (∀ t, 1 ≤ t → t < 256 → RowTurnsAway (fun src tag => .tableDefine src tag t) (0x3800 + t) 2 (leBytes 1 1) id (fun c => tableDefBad c t = true) 5) ∧
  (∀ t, 1 ≤ t → t < 256 → RowTurnsAway (fun src tag => .tableDefine src tag t) (0x3800 + t) 2 (leBytes 1 1) id
    (fun c => tableDefBad c t = false ∧ (getTable c t).state ≠ 0) 7) ∧
  (∀ t, 1 ≤ t → t < 256 → RowDoes (fun src tag => .tableUndefine src tag t) (0x3800 + t) 2 (leBytes 1 2) id
    (fun c => (getTable c t).state ≠ 0 ∧ tableCarried c t = false ∧ (∀ p, p ∈ c.lap.posts → p.table ≠ t) ∧ (getTable c t).bitmap = none)
    (fun c => setTable c t Table.reset)) ∧
  (∀ t, 1 ≤ t → t < 256 → RowTurnsAway (fun src tag => .tableUndefine src tag t) (0x3800 + t) 2 (leBytes 1 2) id
    (fun c => (getTable c t).state = 0 ∨ tableCarried c t = true ∨ ∃ p, p ∈ c.lap.posts ∧ p.table = t) 7) ∧
  (∀ (c : Chip) (t : Nat), t ≠ 0 → (getTable c t).state = 1 → carriesTable c t (tabRowSeg c t) = true → tabEscSeg c t = 0xFF →
    (getTable (tableServe c t) t).state = 2 ∧ (getTable (tableServe c t) t).epoch = 0 ∧ (getTable (tableServe c t) t).lineage = zeros 48
      ∧ (getTable (tableServe c t) t).older = 0)

/-- Manifests (R159, R162, R170): a sound post of a SERVING table is queued, at most 16; the head is taken while its address translates, and its read begins; its header fails
with its reason, or the scan starts once the pools supply its memory; an abort before the commit fails it with reason 7. A failed manifest reads FAILED with the reason and
leaves no job. Applying (R90, R157, R158, R162, R164): an open takes a fresh frame, filled from the current copy where the manifest does not write it whole, or waits while
the list gives none; the values of a row, pulled by a move, are quantised and written into its open grain by a converting stroke, after which its header is written; a
failed pull ends the manifest with reason 6; when all rows are written the content digest must match, unless the header gives none. -/
def Obligations.ManifestsAreTakenAndApplied : Prop :=
  (∀ payload, postBad (postOf (leNat payload)) = false →
    RowDoes (fun src tag => .manifestPost src tag payload) 0x3800 2 payload id
      (fun c => (getTable c (postOf (leNat payload)).table).state = 2 ∧ c.lap.posts.length < 16)
      (fun c => { c with lap := { c.lap with posts := c.lap.posts ++ [postOf (leNat payload)] } })) ∧
  (∀ payload, postBad (postOf (leNat payload)) = true → RowTurnsAway (fun src tag => .manifestPost src tag payload) 0x3800 2 payload id (fun _ => True) 5) ∧
  (∀ payload, postBad (postOf (leNat payload)) = false → RowTurnsAway (fun src tag => .manifestPost src tag payload) 0x3800 2 payload id
    (fun c => (getTable c (postOf (leNat payload)).table).state ≠ 2) 7) ∧
  (∀ payload, postBad (postOf (leNat payload)) = false → RowTurnsAway (fun src tag => .manifestPost src tag payload) 0x3800 2 payload id
    (fun c => (getTable c (postOf (leNat payload)).table).state = 2 ∧ 16 ≤ c.lap.posts.length) 6) ∧
  (∀ (s : State) (p : Post) (r : List Post), serving s.toChip = true → enabled s.toChip 6 = true → followsLead s.toChip = false →
    lapRuns s.toChip = true → s.lap.job = none → s.lap.posts = p :: r → isFrozen s.toChip .table p.table = false → manifestHeld s.toChip p = false →
    BecomesOn 6 .manifestApplyStart s (react (applyStart s.toChip))) ∧
  (∀ (c x : Chip) (p : Post) (r : List Post), c.lap.posts = p :: r →
    x = { c with lap := { c.lap with posts := r, job := some (newJob p), failed := false, stat := ⟨1, 0, p.table, p.mseq, 0, 0, 0, 0⟩ } } →
    ((getTable c p.table).state ≠ 2 → applyStart c = manifestFail x 8) ∧
    (∀ why seg, (getTable c p.table).state = 2 → (manifestWay x p).fin = .fault why seg →
      applyStart c = manifestFail (spaceFault (manifestWay x p).c (tabSpace x p.table) why p.addr 0 lapQ seg true) 6) ∧
    ((getTable c p.table).state = 2 → (∀ why seg, (manifestWay x p).fin ≠ .fault why seg) → applyStart c = readManifest (manifestWay x p).c (manifestWay x p).es.reverse)) ∧
  (∀ (s : State) (j : LapJob) (r : RdResult), s.lap.job = some j → s.lap.stat.state = 1 → j.raw = [] → rdFits r j.post.len = true →
    BecomesOn 6 (.manifestHeaderArrive r) s (react (headerArrive r s.toChip))) ∧
  (∀ (c : Chip) (j : LapJob) (bs : Bytes), c.lap.job = some j → headerReason c j.post bs ≠ 0 →
    headerArrive (.data bs) c = manifestFail (manifestLog c (.data bs)) (headerReason c j.post bs)) ∧
  (∀ (c : Chip) (j : LapJob) (r : RdResult), c.lap.job = some j → (∀ bs, r ≠ .data bs) → headerArrive r c = manifestFail (manifestLog c r) 6) ∧
  (∀ (c x : Chip) (j : LapJob) (bs : Bytes) (run : Nat × Nat) (bufs : List (Nat × Nat)) (m : Chip), c.lap.job = some j → c.lap.stat.state = 1 → bs ≠ [] →
    headerReason c j.post bs = 0 →
    x = modJob (manifestLog c (.data bs)) (fun y => { y with
      srcFmt := bfld bs 5 1, commitTick := bfld bs 16 8, wantDigest := (bs.drop 32).take 48, extents := extentsOf (bs.drop 128) (bfld bs 12 4), raw := bs }) →
    (takeLapMem x (bfld bs 12 4) = some (run, bufs, m) →
      memoryGo x = reachAll (setApply (modJob m fun y => { y with run := run, bufs := bufs }) fun a => { a with state := 2 })) ∧
    (takeLapMem x (bfld bs 12 4) = none → memoryGo x = x ∧ headerArrive (.data bs) c = stat x 0x7035 8 1)) ∧
  (∀ t, 1 ≤ t → t ≤ 255 → RowDoes (fun src tag => .lapidaryAbortRequest src tag t) 0x3800 5 (leBytes 1 t) react
    (fun c => (∃ j, c.lap.job = some j ∧ j.post.table = t) ∧ 1 ≤ c.lap.stat.state ∧ c.lap.stat.state ≤ 3) (fun c => manifestFail c 7)) ∧
  (∀ t, 1 ≤ t → t ≤ 255 → RowTurnsAway (fun src tag => .lapidaryAbortRequest src tag t) 0x3800 5 (leBytes 1 t) react
    (fun c => (∀ j, c.lap.job = some j → j.post.table ≠ t) ∨ c.lap.stat.state < 1 ∨ 3 < c.lap.stat.state) 7) ∧
  (∀ (c : Chip) (j : LapJob) (why : Nat), c.lap.job = some j → (manifestFail c why).lap.job = none ∧ (manifestFail c why).lap.stat.state = 6
    ∧ (manifestFail c why).lap.stat.reason = why ∧ obj (manifestFail c why) 0x7038 2 = (obj c 0x7038 2 + 1) % 2 ^ 64) ∧
  (∀ (s : State) (j : LapJob) (seg g w : Nat), s.lap.job = some j → (seg, g, w) ∈ j.opening →
    eMigr (entryOf s.toChip (tabSpace s.toChip j.post.table) seg g) = false → sdRoom s.toChip = true →
    BecomesOn 6 (.grainOpen seg g) s (react (grainOpen seg g s.toChip))) ∧
  (∀ (c : Chip) (j : LapJob) (seg g : Nat), c.lap.job = some j → openRoom j = false → grainOpen seg g c = manifestFail c 10) ∧
  (∀ (c x : Chip) (j : LapJob) (seg g : Nat), c.lap.job = some j → openRoom j = true →
    takeFrame c (getSeg (getSpace c (tabSpace c j.post.table)) seg).grain 0 (.fresh j.post.table) = (none, x) →
    grainOpen seg g c = modJob x fun y => { y with opening := y.opening.map fun z => if z.1 = seg && z.2.1 = g && z.2.2 = 0 then (seg, g, c.clk.carillon + 1) else z }) ∧
  (∀ (c x : Chip) (j : LapJob) (seg g k : Nat), c.lap.job = some j → openRoom j = true →
    takeFrame c (getSeg (getSpace c (tabSpace c j.post.table)) seg).grain 0 (.fresh j.post.table) = (some k, x) →
    ((grainOpen seg g c).lap.job.map fun y => y.opened) = some (j.opened ++ [⟨seg, g, k, 0, !fillNeeded x j seg g⟩]) ∧ tget (grainOpen seg g c).geo.frames k = some (.fresh j.post.table)
      ∧ ((tget c.geo.maps (mapKey (tabSpace c j.post.table) seg)).isSome = true → eFresh (entryOf (grainOpen seg g c) (tabSpace c j.post.table) seg g) = true)
      ∧ (grainOpen seg g c).bel = c.bel ∧ (grainOpen seg g c).pat = c.pat ∧ (grainOpen seg g c).sp = c.sp) ∧
  (∀ (c : Chip) (j : LapJob) (i : Nat) (x : LapItem), c.lap.job = some j → tget c.lap.items i = some x → x.row = none →
    lapItemDone c i = fillOver { c with lap := { c.lap with items := tdel c.lap.items i } } x) ∧
  (∀ (s : State) (j : LapJob) (g : OpenGrain) (row a old : Nat), s.lap.job = some j → s.lap.stat.state = 2 → rowReady s.toChip j row = some (g, a) → sdRoom s.toChip = true →
    BecomesOn 6 (.rowPullComplete row (.data (pullData j row)) old) s (react (rowDone s.toChip j g row a (pullData j row) old))) ∧
  (∀ (c : Chip) (j : LapJob) (i row : Nat) (x : LapItem), c.lap.job = some j → tget c.lap.items i = some x → x.row = some row →
    lapItemDone c i = codesDone { c with lap := { c.lap with items := tdel c.lap.items i } } j x row) ∧
  (∀ (c : Chip) (l : Launch) (row : Nat) (j : LapJob), c.lap.job = some j → tget j.pulls l.e = some row → l.final ≠ 0 → l.final ≠ noFinal → stopped c lapQ l.e = true →
    (pullEnd c l).lap.failed = true) ∧
  (∀ c : Chip, c.lap.failed = true → lapFailed c = manifestFail { c with lap := { c.lap with failed := false } } 6) ∧
  (∀ (s : State) (j : LapJob), s.lap.job = some j → s.lap.stat.state = 2 → allApplied s.toChip j = true → s.lap.failed = false → j.wantDigest = zeros 48 ∨ contentDigest j = j.wantDigest →
    BecomesOn 6 .manifestApplied s (react { s.toChip with lap := { s.lap with job := some { j with waitFrom := s.clk.carillon }, stat := { s.lap.stat with state := 3 } } })) ∧
  (∀ (s : State) (j : LapJob), s.lap.job = some j → s.lap.stat.state = 2 → allApplied s.toChip j = true → s.lap.failed = false → j.wantDigest ≠ zeros 48 → contentDigest j ≠ j.wantDigest →
    BecomesOn 6 .manifestApplied s (react (manifestFail s.toChip 5))) ∧
  (∀ (c : Chip) (t sf : Nat) (xs : List Nat), (largestMag sf xs).1 = 0 → (quantise c t sf xs).step = 0x3F800000) ∧
  (∀ (c : Chip) (t sf : Nat) (xs : List Nat), (quantise c t sf xs).escape = true ↔
    (tabSatLim c t < (quantise c t sf xs).cnt.sat ∨ tabUnfLim c t < (quantise c t sf xs).cnt.unf ∨ 0 < (quantise c t sf xs).cnt.nan
      ∨ ∃ x, x ∈ xs ∧ isInfNum (decodeNum sf x) = true))

/-- Commit and publish (R164, R166, R169): the sweep begins when COMMIT_TICK has come and no older epoch is live, goes grain by grain, and ends with the publish, which raises
the epoch by 1, takes the manifest's sequence, and computes the lineage digest from the old one, the manifest's and the content's digests, the table and the epoch. The
older epoch (R165, R168): its prior grains are released one by one, after the last it is no longer live; past the alert time it raises source 179 once. -/
def Obligations.CommitsPublishTheNextEpoch : Prop :=
  (∀ (s : State) (j : LapJob) (now : Nat), s.lap.job = some j → s.lap.stat.state = 3 → isFrozen s.toChip .table j.post.table = false →
    j.commitTick ≤ max s.clk.carillon (now % 2 ^ 64) → (getTable s.toChip j.post.table).older = 0 →
    BecomesOn 6 (.commitStart now) s { advance s.toChip now with lap := { s.lap with
      job := some { j with left := j.opened.foldl (fun l g => insertGrain g l) [] }, stat := { s.lap.stat with state := 4 } } }) ∧
  (∀ (s : State) (j : LapJob) (g : OpenGrain) (r : List OpenGrain), s.lap.job = some j → s.lap.stat.state = 4 → j.left = g :: r →
    eMigr (entryOf s.toChip (tabSpace s.toChip j.post.table) g.seg g.grain) = false → r ≠ [] →
    BecomesOn 6 .commitSweepStep s (react (modJob (commitGrain s.toChip j.post.table g) fun x => { x with left := r }))) ∧
  (∀ (s : State) (j : LapJob) (g : OpenGrain), s.lap.job = some j → s.lap.stat.state = 4 → j.left = [g] → s.mode ≠ .doublet →
    eMigr (entryOf s.toChip (tabSpace s.toChip j.post.table) g.seg g.grain) = false →
    BecomesOn 6 .commitSweepStep s (react (publish (modJob (commitGrain s.toChip j.post.table g) fun x => { x with left := [] })))) ∧
  (∀ (s : State) (j : LapJob) (g : OpenGrain), s.lap.job = some j → s.lap.stat.state = 4 → j.left = [g] → s.mode = .doublet →
    eMigr (entryOf s.toChip (tabSpace s.toChip j.post.table) g.seg g.grain) = false →
    BecomesOn 6 .commitSweepStep s (react (holdPublish (modJob (commitGrain s.toChip j.post.table g) fun x => { x with left := [] })))) ∧
  (∀ c : Chip, c.lap.job ≠ none → (holdPublish c).lap.holding = true ∧ (holdPublish c).lap.job = c.lap.job) ∧
  (∀ s : State, s.lap.holding = true → BecomesOn 6 .publishAck s (react (publish s.toChip))) ∧
  (∀ (c : Chip) (t : Nat) (g : OpenGrain), (tget c.geo.maps (mapKey (tabSpace c t) g.seg)).isSome = true →
    entryOf (commitGrain c t g) (tabSpace c t) g.seg g.grain = committedEntry c (entryOf c (tabSpace c t) g.seg g.grain) g.frame) ∧
  (∀ (c : Chip) (j : LapJob), c.lap.job = some j →
    (getTable (publish c) j.post.table).epoch = ((getTable c j.post.table).epoch + 1) % 2 ^ 32 ∧
    (getTable (publish c) j.post.table).lastSeq = j.post.mseq ∧ (getTable (publish c) j.post.table).pins0 = 0 ∧
    (getTable (publish c) j.post.table).lineage = sha384 (lineageBytes (getTable c j.post.table) j (((getTable c j.post.table).epoch + 1) % 2 ^ 32)) ∧
    ((getTable c j.post.table).pins0 ≠ 0 → (getTable (publish c) j.post.table).older = 1) ∧
    (publish c).lap.job = none ∧ (publish c).lap.stat.state = 5) ∧
  (∀ (s : State) (t : Nat), (getTable s.toChip t).older = 3 → (getTable s.toChip t).relLeft ≠ [] →
    BecomesOn 6 (.releaseSweepStep t) s (react (releaseStep t s.toChip))) ∧
  (∀ (c : Chip) (t : Nat) (g : OpenGrain) (r : List OpenGrain), (getTable c t).relLeft = g :: r → r ≠ [] →
    (getTable (releaseStep t c) t).relLeft = r ∧ (getTable (releaseStep t c) t).older = (getTable c t).older ∧ (getTable (releaseStep t c) t).epoch = (getTable c t).epoch) ∧
  (∀ (c : Chip) (t : Nat) (g : OpenGrain), (getTable c t).relLeft = [g] →
    (getTable (releaseStep t c) t).relLeft = [] ∧ (getTable (releaseStep t c) t).older = 0 ∧ (getTable (releaseStep t c) t).prior = []
      ∧ (getTable (releaseStep t c) t).epoch = (getTable c t).epoch) ∧
  (∀ (c : Chip) (t : Nat) (g : OpenGrain) (r : List OpenGrain), (getTable c t).relLeft = g :: r →
    (tget c.geo.maps (mapKey (tabSpace c t) g.seg)).isSome = true →
    ePrior (entryOf (releaseStep t c) (tabSpace c t) g.seg g.grain) = false) ∧
  (∀ (s : State) (t now : Nat), epochStalled s.toChip t (max s.clk.carillon (now % 2 ^ 64)) = true → jobStalled s.toChip t (max s.clk.carillon (now % 2 ^ 64)) = false →
    BecomesOn 6 (.refreshStallAlert t now) s (raiseEv (modTable (advance s.toChip now) t fun x => { x with alerted := true }) 179 t 2 0))

/-! Belfry (R176 to R200). -/

/-- Doorbells (R181, R183, R184, R363): a 32-bit write of DOORBELL on a live page of the port enters the lane of its queue; on a page that is not live it is discarded and
counted; in ROUGH only queue 0's page takes it; a write of another size, or one that the port does not decode, is UR. A value taken from its lane becomes the producer index when it is ahead and within the ring; one that is not ahead, or for
a queue that takes none, is dropped and counted. Fetching (R178, R180): a ring read takes at most 16 entries, inside the ring, a 4 KiB block and the in-flight limit, and
F advances by them; the entries are judged in order, and the first failed check stops the queue in ERROR with its CAUSE and F at that entry; a failed read is CAUSE 6. -/
def Obligations.DoorbellsAndRingsAreJudged : Prop :=
  (∀ (s : State) (p : HPort) (q v n : Nat), hostPosts s.toChip p = true → hostDecodes s.toChip p = true → q < 4096 → enabled s.toChip 0 = true →
    (homePort s.toChip q = p → (getQueue s.toChip q).state ≠ 0 → (s.mode ≠ .rough ∨ q = 0) →
      Becomes (.doorbellWrite p q 4 v) s (setLane (received s.toChip p 4) (q % 4) (laneOf s.toChip (q % 4) ++ [(q, v % 2 ^ 32, true)])) ∧
      (n ≠ 4 → Becomes (.doorbellWrite p q n v) s (urWrite (received s.toChip p n) p))) ∧
    (homePort s.toChip q = p → (getQueue s.toChip q).state ≠ 0 → s.mode = .rough → q ≠ 0 → Becomes (.doorbellWrite p q n v) s (received s.toChip p n)) ∧
    (homePort s.toChip q ≠ p ∨ (getQueue s.toChip q).state = 0 → Becomes (.doorbellWrite p q n v) s (stat (received s.toChip p n) 0x7020 5 1))) ∧
  (∀ (s : State) (p : HPort) (q v n : Nat), hostPosts s.toChip p = true → q < 4096 → hostDecodes s.toChip p = false ∨ enabled s.toChip 0 = false →
    Becomes (.doorbellWrite p q n v) s (urWrite (received s.toChip p n) p)) ∧
  (∀ (s : State) (l q d : Nat) (b : Bool) (r : List (Nat × Nat × Bool)), l < 4 → laneOf s.toChip l = (q, d, b) :: r →
    ((getQueue s.toChip q).state = 0 ∨ 3 < (getQueue s.toChip q).state → BecomesOn 0 (.producerValueTake l) s (stat (setLane s.toChip l r) 0x7020 1 1)) ∧
    ((getQueue s.toChip q).state ≠ 0 → (getQueue s.toChip q).state ≤ 3 →
      ((d + 2 ^ 32 - (getQueue s.toChip q).p) % 2 ^ 32 = 0 ∨ 2 ^ 31 ≤ (d + 2 ^ 32 - (getQueue s.toChip q).p) % 2 ^ 32 →
        BecomesOn 0 (.producerValueTake l) s (stat (stat (setLane s.toChip l r) 0x7020 1 1) 0x7020 2 1)) ∧
      (0 < (d + 2 ^ 32 - (getQueue s.toChip q).p) % 2 ^ 32 → (d + 2 ^ 32 - (getQueue s.toChip q).p) % 2 ^ 32 < 2 ^ 31 →
        (d + 2 ^ 32 - (getQueue s.toChip q).shown % 2 ^ 32) % 2 ^ 32 ≤ qSize s.toChip q →
        BecomesOn 0 (.producerValueTake l) s (watchRing (setQueue (stat (setLane s.toChip l r) 0x7020 1 1) q
          { getQueue s.toChip q with p := d, state := if (getQueue s.toChip q).state = 1 then 2 else (getQueue s.toChip q).state }) q)) ∧
      (0 < (d + 2 ^ 32 - (getQueue s.toChip q).p) % 2 ^ 32 → (d + 2 ^ 32 - (getQueue s.toChip q).p) % 2 ^ 32 < 2 ^ 31 →
        qSize s.toChip q < (d + 2 ^ 32 - (getQueue s.toChip q).shown % 2 ^ 32) % 2 ^ 32 →
        BecomesOn 0 (.producerValueTake l) s (idleCheck (setQueue (stat (stat (setLane s.toChip l r) 0x7020 1 1) 0x7020 3 1) q
          { getQueue s.toChip q with overrun := true, overAt := if (getQueue s.toChip q).overrun then (getQueue s.toChip q).overAt else (getQueue s.toChip q).p }) q)))) ∧
  (∀ (s : State) (q : Nat), fetchNext s.toChip = some q → BecomesOn 0 .ringFetchIssue s (fetchIssue s.toChip q)) ∧
  (∀ (c : Chip) (q : Nat), (getQueue (fetchIssue c q) q).f = ((getQueue c q).f + fetchCount c q) % 2 ^ 32) ∧
  (∀ (c : Chip) (q : Nat), fetchCount c q ≤ 16 ∧ (getQueue c q).f % qSize c q + fetchCount c q ≤ qSize c q
    ∧ (getQueue c q).f % qSize c q % 64 + fetchCount c q ≤ 64 ∧ fetchCount c q ≤ qLimit c q - inFlight (getQueue c q)) ∧
  (∀ (s : State) (q : Nat) (bs : Bytes), (getQueue s.toChip q).reading ≠ 0 → bs.length = 64 * (getQueue s.toChip q).reading → ringAgrees s.toChip q (.data bs) = true →
    (getQueue s.toChip q).state ≠ 5 →
    BecomesOn 0 (.ringReadComplete q (.data bs)) s (react (takeEntries (logRead (setQueue s.toChip q { getQueue s.toChip q with reading := 0 })
      (homePort (setQueue s.toChip q { getQueue s.toChip q with reading := 0 }) q) (.data bs)) q
      (((getQueue s.toChip q).f + 2 ^ 32 - (getQueue s.toChip q).reading) % 2 ^ 32) (values64 bs (getQueue s.toChip q).reading)))) ∧
  (∀ (s : State) (q : Nat), (getQueue s.toChip q).reading ≠ 0 → (getQueue s.toChip q).state ≠ 5 →
    BecomesOn 0 (.ringReadComplete q .linkDown) s (react (setQueue s.toChip q { getQueue s.toChip q with
      reading := 0, f := ((getQueue s.toChip q).f + 2 ^ 32 - (getQueue s.toChip q).reading) % 2 ^ 32, state := 3, cause := 6 }))) ∧
  (∀ (c : Chip) (q e v : Nat) (vs : List Nat), entryCause c q e v ≠ 0 →
    takeEntries c q e (v :: vs) = setQueue c q { getQueue c q with f := e, state := 3, cause := entryCause c q e v }) ∧
  (∀ (c : Chip) (q e v : Nat), (bits v 0 2 = 3 ∨ (bits v 0 2 = 1 ∧ q = 0) ∨ (bits v 0 2 = 2 ∧ q ≠ 0) → entryCause c q e v = 1) ∧
    (bits v 0 2 = 0 → bits v 32 32 ≠ e → entryCause c q e v = 2) ∧
    (bits v 0 2 = 0 → bits v 32 32 = e → bits v 2 2 ≠ 0 ∨ bits v 6 26 ≠ 0 → entryCause c q e v = 3) ∧
    (bits v 0 2 = 0 → bits v 32 32 = e → entryFieldBad c q v = false → bit v 4 = true → qRecord c q = 0 → entryCause c q e v = 4))

/-- Queue control (R182, R195, R197, R199): CREATE gives a fresh queue that is IDLE on its Space; RESUME leaves ERROR for IDLE or ACTIVE; DESTROY starts the destroy with
CAUSE 8; REATTACH of a queue in HOST_LOST, after its port attached in a later epoch, writes the held records and is IDLE with P at F. Completion (R188, R189, R194):
entries complete in any order, but COMPLETED is the length of the completed prefix; a launch that has ended, stopped and fired its marks shares the next flush
read of each of its ports, one of them in flight at a time, and is recorded and dropped when they have returned;
one that outlives its watchdog ends with TIMEOUT, an event of source 180, and the destroy of its queue with CAUSE 7, but for queue 0. -/
def Obligations.QueuesAreControlledAndComplete : Prop :=
  (∀ q, q < 4096 → RowDoes (fun src tag => .queueCreate src tag q) (0x2000 + q) 2 (leBytes 1 1) id
    (fun c => queueConfBad c q = false ∧ ((getQueue c q).state = 0 ∨ (getQueue c q).state = 6) ∧ ¬ (homePort c q = .b ∧ (getPort c .b).pool = true) ∧ (q = 0 ∨ c.sec.ten.state = 2)
      ∧ isSilent c q = false)
    (fun c => setQueue c q { Queue.reset with state := 1, space := qSpace c q })) ∧
  (∀ q, q < 4096 → RowTurnsAway (fun src tag => .queueCreate src tag q) (0x2000 + q) 2 (leBytes 1 1) id (fun c => queueConfBad c q = true) 5) ∧
  (∀ q, q < 4096 → RowTurnsAway (fun src tag => .queueCreate src tag q) (0x2000 + q) 2 (leBytes 1 1) id
    (fun c => queueConfBad c q = false ∧ (getQueue c q).state ≠ 0 ∧ (getQueue c q).state ≠ 6) 7) ∧
  (∀ q, q < 4096 → RowDoes (fun src tag => .queueResume src tag q) (0x2000 + q) 2 (leBytes 1 2) id (fun c => (getQueue c q).state = 3 ∧ (getQueue c q).overrun = false)
    (fun c => setQueue c q { getQueue c q with state := if (getQueue c q).f = (getQueue c q).p then 1 else 2 })) ∧
  (∀ q, q < 4096 → RowTurnsAway (fun src tag => .queueResume src tag q) (0x2000 + q) 2 (leBytes 1 2) id (fun c => (getQueue c q).state ≠ 3) 7) ∧
  (∀ q, q < 4096 → q ≠ 0 → RowDoes (fun src tag => .queueDestroy src tag q) (0x2000 + q) 2 (leBytes 1 3) react
    (fun c => 1 ≤ (getQueue c q).state ∧ (getQueue c q).state ≤ 4) (fun c => startDestroy c q 8 false)) ∧
  (∀ q, q < 4096 → RowTurnsAway (fun src tag => .queueDestroy src tag q) (0x2000 + q) 2 (leBytes 1 3) react
    (fun c => q = 0 ∨ (getQueue c q).state = 0 ∨ 4 < (getQueue c q).state) 7) ∧
  (∀ q, q < 4096 → RowDoes (fun src tag => .queueReattach src tag q) (0x2000 + q) 2 (leBytes 1 4) id
    (fun c => (getQueue c q).state = 4 ∧ (getPort c (homePort c q)).attached = true ∧ (getQueue c q).heldEpoch < (getPort c (homePort c q)).epoch)
    (fun c => showMirror (setQueue ((getQueue c q).held.foldl (fun c r => writeRecord c q r true) c) q
      { getQueue c q with state := 1, p := (getQueue c q).f, held := [], shown := (getQueue c q).completed }) q)) ∧
  (∀ q, q < 4096 → RowTurnsAway (fun src tag => .queueReattach src tag q) (0x2000 + q) 2 (leBytes 1 4) id
    (fun c => (getQueue c q).state ≠ 4 ∨ (getPort c (homePort c q)).attached = false ∨ (getPort c (homePort c q)).epoch ≤ (getQueue c q).heldEpoch) 7) ∧
  (∀ (c : Chip) (q : Nat) (r : Record), (getQueue c q).doneSet = [] → (getQueue c q).state ≠ 4 → (getQueue c q).state ≠ 5 →
    (r.entry = (getQueue c q).completed % 2 ^ 32 → (getQueue (completeEntry c q r) q).completed = (getQueue c q).completed + 1
      ∧ (getQueue (completeEntry c q r) q).shown = (getQueue c q).completed + 1 ∧ (getQueue (completeEntry c q r) q).doneSet = []) ∧
    (r.entry ≠ (getQueue c q).completed % 2 ^ 32 → (getQueue (completeEntry c q r) q).completed = (getQueue c q).completed
      ∧ (getQueue (completeEntry c q r) q).doneSet = [r.entry])) ∧
  (∀ (c : Chip) (q : Nat) (r : Record), (getQueue c q).state = 4 ∨ (getQueue c q).state = 5 →
    (getQueue (completeEntry c q r) q).shown = (getQueue c q).shown ∧ (getQueue (completeEntry c q r) q).held = (getQueue c q).held ++ [r]) ∧
  (∀ (s : State) (q e : Nat) (l : Launch), getLaunch s.toChip q e = some l → l.asked = true → mayFinish s.toChip l = true →
    (inFlush s.toChip q e .a || inFlush s.toChip q e .b) = true ∨ (nextFlush s.toChip q e .a || nextFlush s.toChip q e .b) = false →
    BecomesOn 0 (.completionFlushReadComplete q e) s (react (flushDone s.toChip q e))) ∧
  (∀ (c : Chip) (q e : Nat) (l : Launch), getLaunch c q e = some l → (∀ p, inFlush c q e p = false ∧ nextFlush c q e p = false) →
    flushDone c q e = dropLaunch (completeEntry (estimateUpdate c l) l.q (launchRecord l)) l.q l.e) ∧
  (∀ (c : Chip) (q e : Nat) (p : HPort), inFlush c q e p = true → inFlush (flushDone c q e) q e p = false) ∧
  (∀ (c : Chip) (p : HPort), canIssue c p = true → (two c.bel.flush p).cur = [] → (two c.bel.flush p).next ≠ [] →
    (∀ x, x ∈ (two c.bel.flush p).next → (getLaunch c x.1 x.2).isSome = true) →
    startFlush c p = emit (stat (modFlush c p fun _ => ⟨(two c.bel.flush p).next, []⟩) 0x7020 7 1) (.flushRead p)) ∧
  (∀ (s : State) (e now : Nat) (l : Launch), getLaunch s.toChip 0 e = some l → l.final = 0xFF → l.expiry ≠ 0 → l.expiry ≤ max s.clk.carillon (now % 2 ^ 64) →
    BecomesOn 0 (.watchdogExpiry 0 e now) s (react (raiseEv (setFinal (advance s.toChip now) 0 e 2 0xFFFF) 180 (globalQueue (setFinal (advance s.toChip now) 0 e 2 0xFFFF) 0) 1 0))) ∧
  (∀ (s : State) (q e now : Nat) (l : Launch), q ≠ 0 → getLaunch s.toChip q e = some l → l.final = 0xFF → l.expiry ≠ 0 → l.expiry ≤ max s.clk.carillon (now % 2 ^ 64) →
    BecomesOn 0 (.watchdogExpiry q e now) s (react (destroyQueue (stat (raiseEv (setFinal (advance s.toChip now) q e 2 0xFFFF) 180 (globalQueue (setFinal (advance s.toChip now) q e 2 0xFFFF) q) 1 0) 0x7020 8 1) q 7)))

/-! The Graph Front End (R201 to R253). -/

/-- Patterns (R215 to R217, R246): REGISTER of a FREE Pattern with a tenant attached starts the check; a sound image is REGISTERED in the lowest run of the store that fits,
with the seed estimate; a bad one is FAILED with its reason; RETIRE leaves a Pattern RETIRING until its last launch ends; CLEAR frees a FAILED one. -/
def Obligations.PatternsAreRegisteredAndRetired : Prop :=
  (∀ p, p < 1024 → RowDoes (fun src tag => .patternRegister src tag p) (0x4000 + p) 2 (leBytes 1 1) id (fun c => (getPat c p).state = 0 ∧ c.sec.ten.state = 2)
    (fun c => setPat c p { getPat c p with state := 1, check := 0 })) ∧
  (∀ p, p < 1024 → RowTurnsAway (fun src tag => .patternRegister src tag p) (0x4000 + p) 2 (leBytes 1 1) id (fun c => (getPat c p).state ≠ 0 ∨ c.sec.ten.state ≠ 2) 7) ∧
  (∀ (s : State) (p : Nat), (getPat s.toChip p).state = 1 → Becomes (.patternCheckComplete p) s (mirror (checkDone p s.toChip) .pattern p none)) ∧
  (∀ (c : Chip) (p : Nat), (checkImage (getPat c p).image (obj c 0x44F0 1) (c.mode == .doublet)).1 ≠ 0 →
    (getPat (checkDone p c) p).state = 3
      ∧ (getPat (checkDone p c) p).check % 256 = (checkImage (getPat c p).image (obj c 0x44F0 1) (c.mode == .doublet)).1 % 256
      ∧ (getPat (checkDone p c) p).image = (getPat c p).image ∧ (∀ r, r ≠ p → getPat (checkDone p c) r = getPat c r)
      ∧ (checkDone p c).geo = c.geo ∧ (checkDone p c).objs = c.objs ∧ (checkDone p c).bel = c.bel) ∧
  (∀ (c : Chip) (p g : Nat), (checkImage (getPat c p).image (obj c 0x44F0 1) (c.mode == .doublet)).1 = 0 →
    firstFit 0 32768 (((getPat c p).image.length + 255) / 256) (storeUsed c) = some g →
    (getPat (checkDone p c) p).state = 2 ∧ (getPat (checkDone p c) p).gran = g
      ∧ (getPat (checkDone p c) p).granLen = ((getPat c p).image.length + 255) / 256 ∧ (getPat (checkDone p c) p).est = obj c 0x4402 4 * 1000
      ∧ (getPat (checkDone p c) p).image = (getPat c p).image ∧ (∀ r, r ≠ p → getPat (checkDone p c) r = getPat c r)
      ∧ (checkDone p c).objs = c.objs ∧ (checkDone p c).bel = c.bel) ∧
  (∀ (c : Chip) (p : Nat), (checkImage (getPat c p).image (obj c 0x44F0 1) (c.mode == .doublet)).1 = 0 →
    firstFit 0 32768 (((getPat c p).image.length + 255) / 256) (storeUsed c) = none →
    (getPat (checkDone p c) p).state = 3 ∧ (getPat (checkDone p c) p).check % 256 = 10) ∧
  (∀ p, p < 1024 → RowDoes (fun src tag => .patternRetire src tag p) (0x4000 + p) 2 (leBytes 1 2) id (fun c => (getPat c p).state = 2 ∧ (getPat c p).running ≠ 0)
    (fun c => patternsChanged (setPat c p { getPat c p with state := 4 }))) ∧
  (∀ p, p < 1024 → RowDoes (fun src tag => .patternRetire src tag p) (0x4000 + p) 2 (leBytes 1 2) id (fun c => (getPat c p).state = 2 ∧ (getPat c p).running = 0)
    (fun c => freePattern (patternsChanged (setPat c p { getPat c p with state := 4 })) p)) ∧
  (∀ p, p < 1024 → RowTurnsAway (fun src tag => .patternRetire src tag p) (0x4000 + p) 2 (leBytes 1 2) id (fun c => (getPat c p).state ≠ 2) 7) ∧
  (∀ p, p < 1024 → RowDoes (fun src tag => .patternClear src tag p) (0x4000 + p) 2 (leBytes 1 3) id (fun c => (getPat c p).state = 3) (fun c => patternGone c p)) ∧
  (∀ (c : Chip) (p : Nat), getPat (patternGone c p) p = Pattern.reset) ∧
  (∀ p, p < 1024 → RowTurnsAway (fun src tag => .patternClear src tag p) (0x4000 + p) 2 (leBytes 1 3) id (fun c => (getPat c p).state ≠ 3) 7)

/-- Admission (R218, R221, R247): a pipe takes the next fetched launch and reads its patch and its handles; a failed read ends it; the launch is then rejected with the first
cause of R221, or queued on its slot when its deadline can be met, or ends with DEADLINE. A launch with no deadline always joins. Contexts (R238 to R245): one launch
alone on the join list joins between boundaries when its place and blocks are free; at a boundary releases come first, then restores, then joins; the timer of a pressed
slot marks the latest deadline as victim; a saved context is out, a restored one runs again. -/
def Obligations.LaunchesAreAdmittedAndRun : Prop :=
  (∀ (s : State) (pipe q e v : Nat), pipe < 2 → pipeNext s.toChip pipe = some (q, e, v) → enPatch v = 0 → enHandles v = 0 →
    AnswersOn 1 (.admissionStart pipe) s fun t => (getQueue t.toChip q).await = (getQueue s.toChip q).await.drop 1 ∧ (getLaunch t.toChip q e).map (·.entry) = some v
      ∧ t.pat.reads = s.pat.reads ++ [(q, e)] ∧ t.objs = s.objs ∧ t.sp = s.sp ∧ t.geo = s.geo) ∧
  (∀ (s : State) (pipe q e v : Nat), pipe < 2 → pipeNext s.toChip pipe = some (q, e, v) → BecomesOn 1 (.admissionStart pipe) s (admissionStart s.toChip q e v)) ∧
  (∀ (s : State) (q e : Nat) (l : Launch) (pb hb : Bytes), (s.pat.reads.find? fun x => x.1 == q) = some (q, e) → getLaunch s.toChip q e = some l → l.final = 0xFF →
    (getSpace s.toChip l.space).state ≠ 4 → pb.length = enPatch l.entry → hb.length = 8 * enHandles l.entry →
    admitAgrees s.toChip q e (.data pb) (.data hb) = true →
    BecomesOn 1 (.admissionReadsArrive q e (.data pb) (.data hb)) s (react (admitLaunch (modLaunch (logRead (logRead { s.toChip with pat := { s.pat with
      reads := s.pat.reads.filter (· != (q, e)) } } (homePort s.toChip q) (.data pb)) (homePort s.toChip q) (.data hb)) q e
      fun x => { x with patch := pb, handles := values8 hb (hb.length / 8) }) q e))) ∧
  (∀ (s : State) (q e : Nat) (l : Launch), (s.pat.reads.find? fun x => x.1 == q) = some (q, e) → getLaunch s.toChip q e = some l → l.final = 0xFF →
    (getSpace s.toChip l.space).state ≠ 4 → enPatch l.entry ≠ 0 → enHandles l.entry ≠ 0 →
    BecomesOn 1 (.admissionReadsArrive q e .linkDown .linkDown) s (react (setFinal { s.toChip with pat := { s.pat with reads := s.pat.reads.filter (· != (q, e)) } } q e 7 0xFFFF))) ∧
  (∀ (c : Chip) (l : Launch), (c.mode = .rough → (rejectCause c l).1 = 7) ∧ (c.mode ≠ .rough → (getPat c l.pat).state ≠ 2 → (rejectCause c l).1 = 1) ∧
    (c.mode ≠ .rough → (getPat c l.pat).state = 2 → enHandles l.entry < imgMinHandles (getPat c l.pat).image ∨ enPatch l.entry < imgPatchMin (getPat c l.pat).image →
      (rejectCause c l).1 = 2)) ∧
  (∀ (c : Chip) (q e : Nat) (l : Launch), getLaunch c q e = some l → (rejectCause c l).1 ≠ 0 → admitLaunch c q e = reject c q e (rejectCause c l).1 l.pat) ∧
  (∀ (c : Chip) (q e : Nat) (l : Launch), getLaunch c q e = some l → enDeadline l.entry = 2 ^ 64 - 1 → decide247 c q e = queueJoin (patternEnter c l.pat) q e) ∧
  (∀ (c : Chip) (q e : Nat) (l : Launch), getLaunch c q e = some l → enDeadline l.entry ≠ 2 ^ 64 - 1 → enDeadline l.entry < c.clk.carillon + estimate c l.pat + margin c →
    enNoLight l.entry = true → decide247 c q e = setFinal c q e 3 0xFFFF) ∧
  (∀ (s : State) (slot q e : Nat) (l : Launch) (c : Chip), (getSlot s.toChip slot).joins = [(q, e)] → ctxIn s.toChip slot .outReady = [] → getLaunch s.toChip q e = some l →
    l.early = true → s.clk.carillon ≤ l.admitted + 1 → tryJoin s.toChip l = some c → BecomesOn 1 (.joinBetweenBoundaries slot) s (react c)) ∧
  (∀ (s : State) (slot now : Nat), dueStepBoundary slot now s.toChip = true →
    BecomesOn 1 (.stepBoundary slot now) s (stepBoundary slot now s.toChip)) ∧
  (∀ (c c1 c2 c3 : Chip) (slot now : Nat), c1 = gfe (advance c now) → c2 = modSlot (takeReleases c1 slot) slot (fun x => { x with boundary := c1.clk.carillon + 1 }) →
    c3 = (getSlot c2 slot).joins.foldl (fun c j => modLaunch c j.1 j.2 fun l => { l with early := false }) c2 →
    stepBoundary slot now c = react (serveJoins (restoreAll c3 slot) slot)) ∧
  (∀ (s : State) (slot now : Nat) (l : Launch), (getSlot s.toChip slot).timerOn = true → (getSlot s.toChip slot).timer ≤ max s.clk.carillon (now % 2 ^ 64) → freesNow slot now s.toChip = false →
    (dlSort (ctxIn s.toChip slot .resident)).getLast? = some l →
    BecomesOn 1 (.switchPointBoundExpiry slot now) s (react (stat (modSlot (modSlot (advance s.toChip now) slot fun x => { x with timerOn := false }) slot
      fun x => { x with victim := some (l.q, l.e) }) 0x7044 8 1))) ∧
  (∀ (s : State) (q e : Nat) (l : Launch), getLaunch s.toChip q e = some l → l.ctx = .saving → l.final = 0xFF → sdsOf s.toChip (.save q e) = [] →
    BecomesOn 1 (.saveComplete q e) s (react (modLaunch (modSlot (unbind s.toChip (.save q e)) l.slot fun x => { x with places := tdel x.places l.place }) q e
      fun x => { x with ctx := .outBlocked }))) ∧
  (∀ (s : State) (q e : Nat) (l : Launch), getLaunch s.toChip q e = some l → l.ctx = .restoring → l.final = 0xFF → sdsOf s.toChip (.restore q e) = [] →
    BecomesOn 1 (.restoreComplete q e) s (react (modLaunch (unbind s.toChip (.restore q e)) q e fun x => { x with
      ctx := .resident, switchAt := if x.pastSwitch then none else x.switchAt, pastSwitch := false }))) ∧
  (∀ (c c' : Chip) (q e s scr lines r : Nat) (b v : Option (Nat × Nat)), takeJoin c q e s scr lines = some (r, b, v, c') →
    r < slotPlaces c s ∧ tget (getSlot c s).places r = none ∧ tget (getSlot c' s).places r = some (q, e) ∧ (b = none ↔ scr = 0) ∧ v ≠ none)

/-! Run nodes and the Bootstrap queue (R211, R212, R224 to R232, R244, R249). -/

/-- Run nodes (R224, R226 to R228, R249): a cluster gives a free core in service to the Bootstrap RUN that names it, to a re-dispatch, or to the arbiters' choice; a result
word 0 completes the node with its VALUE, another one ends the launch with FAULT_UNRESOLVED; a re-dispatch that finds no core in time, and an abort that its core does not
answer, end as CORE_FENCED and with the core fenced. Control nodes that wait (R211, R212): a Wait-until-tick node completes at its tick, counted from the admission when
it says so; a Fence node whose move nodes have completed issues a flush read on each port that they wrote but the home port, on the home port where it says so, and completes when they
have returned. -/
def Obligations.RunWaitAndFenceNodesEnd : Prop :=
  (∀ (s : State) (k : Nat) (c : Chip), k < 16 → runDispatch s.toChip k = some c → BecomesOn (clusterBlock k) (.runDispatch k) s (react c)) ∧
  (∀ (c : Chip) (k core : Nat) (r : Staged2), bootRun c k = none → pickCore c k = some core → redispatch c k = some r →
    runDispatch c k = some (dispatchNode (stat c 0x7040 6 1) r.q r.e r.n k core)) ∧
  (∀ (c : Chip) (k core : Nat), pickCore c k = some core → core < 16 ∧ coreUp c k core = true ∧ tget (getClu c k).cores core = none) ∧
  (∀ (s : State) (k core word : Nat) (r : CoreRun) (l : Launch), tget (getClu s.toChip k).cores core = some r → getLaunch s.toChip r.q r.e = some l → l.final = 0xFF →
    (bits word 0 8 = 0 → BecomesOn (clusterBlock k) (.runResult k core word) s
      (react (completeNode (modNode (coreDone s.toChip k core) r.q r.e r.n fun x => { x with value := bits word 16 16 }) r.q r.e r.n))) ∧
    (bits word 0 8 ≠ 0 → BecomesOn (clusterBlock k) (.runResult k core word) s (react (setFinal (coreDone s.toChip k core) r.q r.e 5 (r.n % 4096))))) ∧
  (∀ (s : State) (q e n now : Nat), redispatchLate s.toChip q e n now = true →
    BecomesOn 1 (.redispatchWaitExpiry q e n now) s (react (setFinal (advance s.toChip now) q e 6 (n % 4096)))) ∧
  (∀ (s : State) (k core now : Nat) (r : CoreRun), tget (getClu s.toChip k).cores core = some r → r.aborted = true → r.abortAt ≤ max s.clk.carillon (now % 2 ^ 64) →
    (k < 8 → BecomesOn (clusterBlock k) (.abortWaitExpiry k core now) s (react (raiseEv (fenceCore (advance s.toChip now) k core) (120 + k) core 2 0))) ∧
    (8 ≤ k → BecomesOn (clusterBlock k) (.abortWaitExpiry k core now) s (react (fenceCore (advance s.toChip now) k core)))) ∧
  (∀ (old : Tab Nat) (ptr n k : Nat) (reqs : List (Nat × Nat)), (cadence old ptr n reqs).1 = some k → ∃ w, (k, w) ∈ reqs) ∧
  (∀ (c : Chip) (q e status node : Nat) (l : Launch), getLaunch c q e = some l → l.final ≠ 0xFF → setFinal c q e status node = c) ∧
  (∀ (s : State) (q e n now : Nat) (l : Launch) (x : NodeRt), readyNode s.toChip q e n 7 = some (l, x) → waitTarget l x ≤ max s.clk.carillon (now % 2 ^ 64) →
    BecomesOn 1 (.waitTickReached q e n now) s (react (completeNode (advance s.toChip now) q e n))) ∧
  (∀ (s : State) (q e n : Nat) (l : Launch) (x : NodeRt), readyNode s.toChip q e n 8 = some (l, x) → x.covers = some [] → x.asked = true → waitsLink s.toChip l = false →
    BecomesOn 1 (.fenceNodeComplete q e n) s (react (completeNode s.toChip q e n))) ∧
  (∀ (c : Chip) (l : Launch) (n : Nat) (x : NodeRt) (p : HPort), canIssue c p = true →
    (if p = homePort c l.q then bit (fld x.body 0 1) 0 = true else x.ports / portBit p % 2 = 1) → Emit.flushRead p ∈ (fenceFlush c l n x).out) ∧
  (∀ (c : Chip) (l : Launch) (n : Nat) (x : NodeRt), x.ports = 0 → bit (fld x.body 0 1) 0 = false → (fenceFlush c l n x).out = c.out) ∧
  (∀ (c : Chip) (q e n : Nat) (l : Launch) (x : NodeRt), getLaunch c q e = some l → getNode l n = some x → l.q = q → l.e = e →
    ((getLaunch (completeNode c q e n) q e).bind fun y => getNode y n) = some (fenceHeard n x.ports { x with st := .complete })) ∧
  (∀ (n ports : Nat) (x : NodeRt) (ns : List Nat), x.covers = some ns → n ∈ ns → fenceHeard n ports x = { x with covers := some (ns.filter (· != n)), ports := x.ports ||| ports }) ∧
  (∀ (n ports : Nat) (x : NodeRt), x.kind ≠ 8 → x.covers = none → fenceHeard n ports x = x)

/-- The Bootstrap queue (R231, R232): its head starts when no command runs: COPY and FILL as one Transfer, WAIT as one Wait-until-tick node, DESCRIPTOR and RUN after their
read over queue 0's home port, DIGEST as the reads of a Transfer whose destination goes nowhere. In ROUGH a RUN is rejected. What a Bootstrap command waited for (R232): the bytes of a DIGEST are
hashed and written to queue 0's home port, and the command is DONE; a good descriptor runs as its node, a bad one ends with FAULT_UNRESOLVED; an argument block is kept
for its core; a failed read ends the command with the status of R218. -/
def Obligations.BootstrapCommandsRun : Prop :=
  (∀ (s : State) (e v : Nat), bootNext s.toChip 1 = some (e, v) → BecomesOn 1 .bootstrapCopy s (react (bootStart s.toChip e v (bootNode 2 (contigBody 0 (bA v) (bB v) (bC v)))))) ∧
  (∀ (s : State) (e v : Nat), bootNext s.toChip 2 = some (e, v) → bit (fld v 9 1) 0 = true →
    BecomesOn 1 .bootstrapFill s (react (bootStart s.toChip e v (bootNode 2 (contigBody 1 0 (bA v) (bC v)))))) ∧
  (∀ (s : State) (e v : Nat), bootNext s.toChip 2 = some (e, v) → bit (fld v 9 1) 0 = false →
    BecomesOn 1 .bootstrapFill s (react (bootStart s.toChip e v (bootNode 2 (contigBody 2 (bD v) (bA v) (bC v)))))) ∧
  (∀ (s : State) (e v : Nat), bootNext s.toChip 3 = some (e, v) →
    BecomesOn 1 .bootstrapDescriptor s (react (emit (bootWait (bootStart s.toChip e v []) 3) (.hostRead (homePort s.toChip 0) (bA v) 128)))) ∧
  (∀ (s : State) (e v : Nat), bootNext s.toChip 4 = some (e, v) → s.mode = .rough → BecomesOn 1 .bootstrapRun s (react (reject (bootStart s.toChip e v []) 0 e 7 0))) ∧
  (∀ (s : State) (e v w : Nat), bootNext s.toChip 4 = some (e, v) → s.mode ≠ .rough → progWord (bootStart s.toChip e v []) 0 (bA v) = some w →
    coreUp (bootStart s.toChip e v []) (fld v 32 1) (fld v 33 1) = true →
    BecomesOn 1 .bootstrapRun s (react (emit (bootWait (bootStart s.toChip e v []) 4) (.hostRead (homePort (bootStart s.toChip e v []) 0) (bB v) 192)))) ∧
  (∀ (s : State) (e v : Nat), bootNext s.toChip 5 = some (e, v) → BecomesOn 1 .bootstrapWait s (react (bootStart s.toChip e v (bootNode 7 (bA v))))) ∧
  (∀ (s : State) (e v : Nat), bootNext s.toChip 6 = some (e, v) →
    BecomesOn 1 .bootstrapDigest s (react (bootWait (bootStart s.toChip e v (bootNode (2 + 2 ^ 11) (contigBody 0 (bA v) 0 (bC v)))) 6))) ∧
  (∀ (s : State) (l : Launch), digestReady s.toChip = some l →
    (canIssue s.toChip (homePort s.toChip 0) = true → BecomesOn 1 .bootstrapDigestComplete s
      (react (setFinal (plainWrite (bootGo s.toChip) (homePort s.toChip 0) (bB l.entry) (sha384 (digestBytes s.toChip))) 0 l.e 0 0xFFFF))) ∧
    (canIssue s.toChip (homePort s.toChip 0) = false → BecomesOn 1 .bootstrapDigestComplete s
      (react (setFinal (bootGo s.toChip) 0 l.e (if linkIsUp s.toChip (homePort s.toChip 0) then 9 else 7) 0xFFFF)))) ∧
  (∀ (s : State) (l : Launch) (bs : Bytes), bootWaits s.toChip 3 = some l → bs.length = 128 →
    ((dOp (leNat bs) = 0 ∨ descOk (leNat bs) = false) →
      BecomesOn 1 (.bootstrapReadComplete (.data bs)) s (react (setFinal (bootGo (logRead s.toChip (homePort s.toChip 0) (.data bs))) 0 l.e 5 0xFFFF))) ∧
    (dOp (leNat bs) ≠ 0 → descOk (leNat bs) = true →
      BecomesOn 1 (.bootstrapReadComplete (.data bs)) s (react (modLaunch (bootGo (logRead s.toChip (homePort s.toChip 0) (.data bs))) 0 l.e fun x => { x with nodes := bootNode (dOp (leNat bs) + 1) (leNat bs) })))) ∧
  (∀ (s : State) (c : Chip) (l : Launch) (bs : Bytes), bootWaits s.toChip 4 = some l → bs.length = 192 → c = logRead s.toChip (homePort s.toChip 0) (.data bs) →
    BecomesOn 1 (.bootstrapReadComplete (.data bs)) s (react (bootFenced (modLaunch { c with pat := { c.pat with boot := none, bootArg := bs } } 0 l.e
      fun x => { x with nodes := bootNode 1 (pack [(bA l.entry, 8), (fld l.entry 32 1, 1), (fld l.entry 33 1, 1)]) })))) ∧
  (∀ (s : State) (l : Launch), bootWaits s.toChip 4 = some l → BecomesOn 1 (.bootstrapReadComplete .linkDown) s (react (setFinal (bootGo s.toChip) 0 l.e 7 0xFFFF))) ∧
  (∀ (s : State) (l : Launch), bootWaits s.toChip 3 = some l → BecomesOn 1 (.bootstrapReadComplete .ur) s (react (setFinal (bootGo (logRead s.toChip (homePort s.toChip 0) .ur)) 0 l.e 9 0xFFFF)))

/-! The Peer Gateway and coherent windows (R255 to R275). -/

/-- A peer window commit (R257 to R259): with every shadow sound the shadows become the next set, and the commit is over at once when no packet of an older set is left; the
first failing shadow leaves the active set as it is and reads FAILED with its reason. Inbound packets (R260 to R264): while the gateway is off every packet is refused
DISABLED; a bad length, a packet across 4 KiB or an unknown opcode FORMAT; a range in no window NO_WINDOW; a DATA packet goes to the lines of its Fixed segment and is
answered once, which ends its count; a READ of a POST window returns its status; a post is presented to the dictionary service, whose answer goes back as ACK or POST_REFUSED. -/
def Obligations.PeerWindowsAndPackets : Prop :=
  RowDoes (fun src tag => .peerWindowCommit src tag 1) 0x12F0 1 (leBytes 1 1) id
    (fun c => c.sec.ten.state = 2 ∧ c.peer.status ≠ 1 ∧ (∀ w, w ∈ c.peer.wins → commitReason c w.1 = 0) ∧ c.peer.packets = [])
    (fun c => stat { c with peer := { c.peer with wins := c.peer.wins.map (fun x => (x.1, { x.2 with active := x.2.shadow })), setNo := (c.peer.setNo + 1) % 2 ^ 32, status := 2, reason := 0, window := 0 } } 0x7048 6 1) ∧
  RowTurnsAway (fun src tag => .peerWindowCommit src tag 1) 0x12F0 1 (leBytes 1 1) id (fun c => c.sec.ten.state = 2 ∧ c.peer.status = 1) 6 ∧
  (∀ v, v % 256 ≠ 1 → RowTurnsAway (fun src tag => .peerWindowCommit src tag v) 0x12F0 1 (leBytes 1 v) id (fun _ => True) 5) ∧
  (∀ w, RowDoes (fun src tag => .peerWindowCommit src tag 1) 0x12F0 1 (leBytes 1 1) id
    (fun c => c.sec.ten.state = 2 ∧ c.peer.status ≠ 1 ∧ ∃ x r, c.peer.wins = (w, x) :: r ∧ commitReason c w ≠ 0)
    (fun c => { c with peer := { c.peer with status := 3, reason := commitReason c w, window := w } })) ∧
  (∀ (w v : Nat) (c : Chip), shadowBad v = false → peerShadow w v c = (0, modWin c w fun x => { x with shadow := keepBits winFields v })) ∧
  (∀ (w v : Nat) (c : Chip), wKind v = 1 → wBase v % 4096 ≠ 0 ∨ wLen v = 0 ∨ wSpace v = 0 ∨ 2 ^ 60 < wBase v + wLen v → peerShadow w v c = (5, c)) ∧
  (∀ (s : State) (node fab len : Nat) (op : PktOp) (bs : Bytes), s.peer.packets.length < 1024 → op ≠ .write ∨ bs.length = len →
    (serving s.toChip = false ∨ enabled s.toChip 7 = false →
      Becomes (.inboundPacket node fab len op bs) s (refuse s.toChip node 5 0 ((winMatch s.toChip node fab len).map (·.1)))) ∧
    (serving s.toChip = true → enabled s.toChip 7 = true →
      (len = 0 ∨ 2048 < len ∨ 4096 < fab % 4096 + len ∨ op = .other →
        Becomes (.inboundPacket node fab len op bs) s (refuse s.toChip node 3 0 ((winMatch s.toChip node fab len).map (·.1)))) ∧
      (1 ≤ len → len ≤ 2048 → fab % 4096 + len ≤ 4096 → op ≠ .other →
        (winMatch s.toChip node fab len = none → Becomes (.inboundPacket node fab len op bs) s (refuse s.toChip node 1 0 none)) ∧
        (∀ w v g, winMatch s.toChip node fab len = some (w, v) → wKind v = 1 → fixedSeg s.toChip (wSpace v) (wDva v + (fab - wBase v)) len = some g →
          Answers (.inboundPacket node fab len op bs) s fun t =>
            (∃ x, t.peer.packets = s.peer.packets ++ [x] ∧ x.addr = g.target + (wDva v + (fab - wBase v) - g.start) ∧ x.len = len ∧ x.node = node
              ∧ x.write = (op == .write) ∧ x.counted = true) ∧ t.bel = s.bel ∧ t.pat = s.pat ∧ t.geo = s.geo ∧ t.mode = s.mode) ∧
        (∀ w v, winMatch s.toChip node fab len = some (w, v) → wKind v = 1 → fixedSeg s.toChip (wSpace v) (wDva v + (fab - wBase v)) len = none →
          Becomes (.inboundPacket node fab len op bs) s (refuse s.toChip node 2 0 (some w))) ∧
        (∀ w v, winMatch s.toChip node fab len = some (w, v) → wKind v ≠ 1 → op = .read →
          Becomes (.inboundPacket node fab len op bs) s (emit (acceptStats s.toChip w len) (.peerResponse node 0 0 (postRead (acceptStats s.toChip w len) v (fab - wBase v) len)))) ∧
        (∀ w v, winMatch s.toChip node fab len = some (w, v) → wKind v ≠ 1 → op = .write → fab ≠ wBase v ∨ len ≠ 32 → wBase v ≤ fab →
          Becomes (.inboundPacket node fab len op bs) s (refuse s.toChip node 3 0 (some w))) ∧
        (∀ w v, winMatch s.toChip node fab len = some (w, v) → wKind v ≠ 1 → op = .write → fab = wBase v → len = 32 → bfld bs 0 1 ≠ wTable v →
          Becomes (.inboundPacket node fab len op bs) s (refuse s.toChip node 4 7 (some w))) ∧
        (∀ w v, winMatch s.toChip node fab len = some (w, v) → wKind v ≠ 1 → op = .write → fab = wBase v → len = 32 → bfld bs 0 1 = wTable v →
          Becomes (.inboundPacket node fab len op bs) s (postWrite s.toChip w v node bs))))) ∧
  (∀ (c : Chip) (rec : Bytes) (id at_ st : Nat) (r : List (Nat × Nat × Bytes)) (x : Inbound), c.peer.posts = (id, at_, rec) :: r → getPacket c id = some x →
    (st = 0 → peerAnswer c rec st = untrack (emit { c with peer := { c.peer with posts := r } } (.peerResponse x.node 0 0 [])) id) ∧
    (st ≠ 0 → peerAnswer c rec st = untrack (refuse { c with peer := { c.peer with posts := r } } x.node 4 st (some x.win)) id)) ∧
  (∀ (s : State) (x : Inbound) (bs : Bytes), getPacket s.toChip x.id = some x → x.counted = true → x.write = false → bs.length = x.len →
    BecomesOn 7 (.inboundResponse x.id (.data bs)) s (drainDec (untrack (emit s.toChip (.peerResponse x.node 0 0 bs)) x.id) x.space x.gen)) ∧
  (∀ (s : State) (x : Inbound), getPacket s.toChip x.id = some x → x.counted = true → x.write = true →
    BecomesOn 7 (.inboundResponse x.id .ack) s (drainDec (untrack (emit s.toChip (.peerResponse x.node 0 0 [])) x.id) x.space x.gen)) ∧
  (∀ (s : State) (x : Inbound) (k : Nat), getPacket s.toChip x.id = some x → x.counted = true →
    BecomesOn 7 (.inboundResponse x.id (.err k)) s (drainDec (untrack (refuse s.toChip x.node 6 0 (some x.win)) x.id) x.space x.gen)) ∧
  (∀ (c : Chip) (v off len : Nat), off ≠ 0x40 → off ≠ 0x60 → postRead c v off len = zeros len)

/-- Coherent windows (R268 to R272): ENABLE of a sound window on a CXL port with a tenant attached gives ACTIVE while CXL.cache runs, DISABLE gives OFF and drops its lines; a
snoop is answered; of a line that is being read it makes it be read again, of a watched or pinned line it invalidates too, and it drops one that nothing watches; a line
that arrives is Shared in an ACTIVE window; a read of a line that is not Shared reads it; suspended windows resume when CXL.cache runs again. -/
def Obligations.CoherentWindowsKeepTheirLines : Prop :=
  (∀ w, w < 64 → RowDoes (fun src tag => .windowEnable src tag w) (0x4840 + w) 2 (leBytes 1 1) id
    (fun c => cohBad c w = false ∧ (getPort c (cohPort c w)).proto = 1 ∧ ¬ (cohPort c w = .b ∧ (getPort c .b).pool = true) ∧ tgetD c.coh.wins w 0 = 0 ∧ c.sec.ten.state = 2
      ∧ cacheUp c (cohPort c w) = true)
    (fun c => watchRings { c with coh := { c.coh with wins := tput c.coh.wins 0 w 1 } } (cohPort c w))) ∧
  (∀ w, w < 64 → RowDoes (fun src tag => .windowEnable src tag w) (0x4840 + w) 2 (leBytes 1 1) id
    (fun c => cohBad c w = false ∧ (getPort c (cohPort c w)).proto = 1 ∧ ¬ (cohPort c w = .b ∧ (getPort c .b).pool = true) ∧ tgetD c.coh.wins w 0 = 0 ∧ c.sec.ten.state = 2
      ∧ cacheUp c (cohPort c w) = false)
    (fun c => { c with coh := { c.coh with wins := tput c.coh.wins 0 w 2 } })) ∧
  (∀ w, w < 64 → RowTurnsAway (fun src tag => .windowEnable src tag w) (0x4840 + w) 2 (leBytes 1 1) id (fun c => cohBad c w = true) 5) ∧
  (∀ w, w < 64 → RowTurnsAway (fun src tag => .windowEnable src tag w) (0x4840 + w) 2 (leBytes 1 1) id (fun c => cohBad c w = false ∧ tgetD c.coh.wins w 0 ≠ 0) 7) ∧
  (∀ w, w < 64 → RowDoes (fun src tag => .windowDisable src tag w) (0x4840 + w) 2 (leBytes 1 2) id (fun _ => True)
    (fun c => setCoh (dropLines (silentOff c (lineIn c w)) (lineIn c w)) w 0)) ∧
  (∀ (s : State) (p : HPort) (a : Nat) (inv : Bool), cacheUp s.toChip p = true → a < 2 ^ 64 →
    BecomesOn 8 (.snoop p a inv) s (emit (snoopLine (stat s.toChip 0x7049 3 1) (lineKey p a) inv) (.snoopResponse (linePort (lineKey p a)) (lineAddr (lineKey p a))))) ∧
  (∀ (c : Chip) (k : Nat) (inv : Bool), tget c.coh.lines k = none → snoopLine c k inv = c) ∧
  (∀ (c : Chip) (k : Nat) (inv : Bool) (l : Line), tget c.coh.lines k = some l → l.reading = true → snoopLine c k inv = modLine c k fun x => { x with again := true }) ∧
  (∀ (c : Chip) (k : Nat) (l : Line), tget c.coh.lines k = some l → l.reading = false → l.watched = false → l.pinned = false →
    snoopLine c k true = modLine c k fun x => { x with shared := false }) ∧
  (∀ (c : Chip) (k : Nat) (l : Line), tget c.coh.lines k = some l → l.reading = false → l.watched = true ∨ l.pinned = true →
    snoopLine c k true = readLine (countAgain (modLine c k fun x => { x with shared := false }) l) k) ∧
  (∀ (c : Chip) (k : Nat) (l : Line), tget c.coh.lines k = some l → l.reading = false → snoopLine c k false = c) ∧
  (∀ (s : State) (p : HPort) (a : Nat) (bs : Bytes), (tgetD s.coh.lines (lineKey p a) Line.reset).reading = true ∨ (∃ x, x ∈ s.coh.late ∧ x.1 = lineKey p a) →
    bs.length = 64 → lanesTake s.toChip (valueQueues s.toChip (lineKey p a)) = true →
    BecomesOn 8 (.lineReadComplete p a bs) s (lineReadDone s.toChip (lineKey p a) bs)) ∧
  (∀ (c : Chip) (k : Nat) (bs : Bytes), (∀ x, x ∈ c.coh.late → x.1 ≠ k) →
    ((tgetD c.coh.lines k Line.reset).again = false → valueQueues c k = [] → lineReadDone c k bs = modLine c k fun x => { x with
      shared := cohActive c (linePort k) (lineAddr k) 64, reading := false, wanted := false, data := leNat bs }) ∧
    ((tgetD c.coh.lines k Line.reset).again = true →
      lineReadDone c k bs = emit (countAgain (modLine c k fun x => { x with again := false }) (tgetD c.coh.lines k Line.reset)) (.cacheRead (linePort k) (lineAddr k)))) ∧
  (∀ (c : Chip) (k : Nat), ((tgetD c.coh.lines k Line.reset).shared = true → demandLine c k = stat c 0x7049 1 1) ∧
    ((tgetD c.coh.lines k Line.reset).shared = false → demandLine c k = modLine (readLine (stat c 0x7049 2 1) k) k fun l => { l with wanted := true })) ∧
  (∀ (s : State) (p : HPort), cacheUp s.toChip p = true → serving s.toChip = true → (∃ x, x ∈ portWindows s.toChip p ∧ x.2 = 2) →
    Becomes (.windowResume p) s (resumeWindows s.toChip p)) ∧
  (∀ (c : Chip) (p : HPort) (x : Nat × Nat), x ∈ portWindows c p → tgetD (resumeWindows c p).coh.wins x.1 0 = 1)

/-! The host ports (R299 to R325). -/

/-- Resets and training (R300, R318, R319, R322): PERST, a hot reset, a link down and a loss of light give their columns of R318; the release of PERST takes the protocol, the
role and the subsystem IDs and trains; LINK_UP makes configuration space answer, but not in BOOT, and a partner without flit mode leaves the port training; a recovery
loses nothing. Link power (R311): an enabled, idle port enters L0p or L1 after its idle time, and returns to L0; nothing else changes but the tick and the L1 count. -/
def Obligations.PortsResetTrainAndSleep : Prop :=
  (∀ (s : State) (p : HPort), (getPort s.toChip p).perst = false →
    Becomes (.perstAssert p) s (modPort (portReset s.toChip p 5 fun _ => CfgSpace.reset) p fun x => { x with perst := true })) ∧
  (∀ (s : State) (p : HPort), (getPort s.toChip p).perst = true →
    Becomes (.perstDeassert p) s (modPort s.toChip p fun x => { x with
      perst := false, link := 1, proto := obj s.toChip (0x1210 + portNo p) 1, pool := obj s.toChip (0x1210 + portNo p) 2 == 1 && p == .b,
      subVid := obj s.toChip 0x1200 1, subId := obj s.toChip 0x1200 2 })) ∧
  (∀ (s : State) (p : HPort), linkIsUp s.toChip p = true → Becomes (.hotReset p) s (portReset s.toChip p 1 hotConfig)) ∧
  (∀ (s : State) (p : HPort), linkIsUp s.toChip p = true → Becomes (.linkDown p) s (portReset s.toChip p 0 hotConfig)) ∧
  (∀ (s : State) (p : HPort) (t : Nat), linkIsUp s.toChip p = true → domainRuns s.toChip (9 + portNo p) = true → 40000 ≤ max s.clk.carillon (t % 2 ^ 64) →
    Becomes (.lossOfLightTimeout p t) s (portReset (advance s.toChip t) p 0 hotConfig)) ∧
  (∀ (s : State) (p : HPort) (rate width : Nat), (getPort s.toChip p).perst = false → (getPort s.toChip p).link ≤ 1 → s.boot.mclkRuns = true → pllState s.toChip 1 = 2 →
    domainRuns s.toChip (3 + portNo p) = true → widthOk width = true →
    rate ∈ [2, 5, 8, 16, 32, 64] ∨ (rate = 128 ∧ (getPort s.toChip p).proto = 0) →
    Becomes (.linkUp p rate width) s (modPort s.toChip p fun x => { x with link := 2, rate := rate, width := width, flitRefused := false, ready := s.mode != .boot })) ∧
  (∀ (s : State) (p : HPort) (width : Nat), (getPort s.toChip p).perst = false → (getPort s.toChip p).link ≤ 1 → s.boot.mclkRuns = true → pllState s.toChip 1 = 2 →
    domainRuns s.toChip (3 + portNo p) = true →
    Becomes (.linkUp p 0 width) s (modPort s.toChip p fun x => { x with link := 1, flitRefused := true })) ∧
  (∀ (s : State) (p : HPort), linkIsUp s.toChip p = true →
    Becomes (.linkRecovery p) s (modPort (stat s.toChip (0x7012 + portNo p) 3 1) p fun x => { x with link := 2 })) ∧
  (∀ (c : Chip) (p : HPort), getPort (portRegisters c p) p = { getPort c p with intxEn := 0, mgmt := false, attached := false, latched := false }
    ∧ (two (portRegisters c p).dict.mbox p).state = .idle ∧ two (resetPri c p).sp.priOff p = false ∧ two (resetPri c p).sp.priOut p = 0
    ∧ (endStreams c p).sec.spdm.sessions.getD (portNo p) 0 = 0 ∧ (∀ k, k < 5 → bit (endStreams c p).sec.spdm.streams (5 * portNo p + k) = false)) ∧
  (∀ g : CfgSpace, (hotConfig g).aerUnc = g.aerUnc ∧ (hotConfig g).aerCor = g.aerCor ∧ (hotConfig g).bme = false ∧ (hotConfig g).mse = false
    ∧ (hotConfig g).mps = 128 ∧ (hotConfig g).d3 = false) ∧
  (∀ (s : State) (p : HPort) (t : Nat), (getPort s.toChip p).link = 2 → bit (getPort s.toChip p).cfg.aspm 0 = true → 4 < (getPort s.toChip p).width →
    obj s.toChip (0x1210 + portNo p) 5 ≤ max s.clk.carillon (t % 2 ^ 64) →
    Becomes (.l0pEntry p t) s (modPort (advance s.toChip t) p fun x => { x with link := 3 })) ∧
  (∀ (s : State) (p : HPort) (t : Nat), (getPort s.toChip p).link = 2 ∨ (getPort s.toChip p).link = 3 → bit (getPort s.toChip p).cfg.aspm 1 = true →
    obj s.toChip (0x1210 + portNo p) 6 ≤ max s.clk.carillon (t % 2 ^ 64) → readsOn s.toChip p = 0 → activeQueue s.toChip p = false →
    ptmDue s.toChip p (max s.clk.carillon (t % 2 ^ 64)) = false →
    Becomes (.l1Entry p t) s (modPort (stat (advance s.toChip t) (0x7012 + portNo p) 5 1) p fun x => { x with link := 4 })) ∧
  (∀ (s : State) (p : HPort), (getPort s.toChip p).link = 3 ∨ (getPort s.toChip p).link = 4 →
    Becomes (.linkPowerExit p) s (modPort s.toChip p fun x => { x with link := 2 })) ∧
  (∀ (s : State) (p : HPort) (t : Nat), readsOn s.toChip p ≠ 0 ∨ activeQueue s.toChip p = true → exec (.l1Entry p t) s = .fault (.notDue "L1_ENTRY"))

/-- Configuration requests (R303, R319 to R321): answered with a successful completion and their effect, or with RRS and no effect while the space does not answer, an FLR
runs, or a shutdown holds them off. Initiate FLR resets the function and starts its shutdown; clearing Bus Master Enable and entering D3hot start theirs. Attach (R317):
ATTACH through the port's own mailbox, with memory space and bus mastering enabled in D0, no shutdown and no pool role, attaches and raises the epoch; DETACH clears it;
an ATTACH that is not allowed answers STATE. -/
def Obligations.ConfigurationAndAttach : Prop :=
  (∀ (s : State) (p : HPort), linkIsUp s.toChip p = true → cfgAnswers s.toChip p = true →
    Becomes (.initiateFlr p) s (startShut (endStreams (resetPri (portRegisters (emit s.toChip (.completion p 0 [])) p) p) p) p 1)) ∧
  (∀ (s : State) (p : HPort), linkIsUp s.toChip p = true → cfgAnswers s.toChip p = true → (getPort s.toChip p).cfg.bme = true → (getPort s.toChip p).shut = 0 →
    Becomes (.bmeClear p) s (startShut (modCfg (emit s.toChip (.completion p 0 [])) p fun g => { g with bme := false }) p 2)) ∧
  (∀ (s : State) (p : HPort), linkIsUp s.toChip p = true → cfgAnswers s.toChip p = true → (getPort s.toChip p).cfg.bme = false →
    Becomes (.bmeClear p) s (emit s.toChip (.completion p 0 []))) ∧
  (∀ (s : State) (p : HPort), linkIsUp s.toChip p = true → cfgAnswers s.toChip p = true → (getPort s.toChip p).cfg.d3 = false → (getPort s.toChip p).shut = 0 →
    Becomes (.d3hotEntry p) s (startShut (modCfg (emit s.toChip (.completion p 0 [])) p fun g => { g with d3 := true }) p 3)) ∧
  (∀ (s : State) (p : HPort), linkIsUp s.toChip p = true → cfgAnswers s.toChip p = false →
    Becomes (.initiateFlr p) s (emit (stat s.toChip (0x7012 + portNo p) 8 1) (.completion p 2 [])) ∧
    Becomes (.bmeClear p) s (emit (stat s.toChip (0x7012 + portNo p) 8 1) (.completion p 2 [])) ∧
    Becomes (.d3hotEntry p) s (emit (stat s.toChip (0x7012 + portNo p) 8 1) (.completion p 2 [])) ∧
    (∀ (reg : CfgReg) (v : Nat), Becomes (.configWrite p reg v) s (emit (stat s.toChip (0x7012 + portNo p) 8 1) (.completion p 2 [])))) ∧
  (∀ (s : State) (p : HPort) (reg : CfgReg) (v : Nat), linkIsUp s.toChip p = true → heldOff s.toChip p reg v = true →
    Becomes (.configWrite p reg v) s (emit (stat s.toChip (0x7012 + portNo p) 8 1) (.completion p 2 []))) ∧
  (∀ (s : State) (p : HPort) (reg : CfgReg) (v : Nat), linkIsUp s.toChip p = true → heldOff s.toChip p reg v = false → cfgAnswers s.toChip p = true →
    Becomes (.configWrite p reg v) s (configWrite p reg v (emit s.toChip (.completion p 0 [])))) ∧
  (∀ (c : Chip) (p : HPort) (v : Nat), configWrite p .bar0 v c = modCfg c p (fun g => { g with bar0 := v % 2 ^ 32 / 2 ^ 20 * 2 ^ 20 })
    ∧ configWrite p .bar2 v c = modCfg c p (fun g => { g with bar2 := v % 2 ^ 32 / 2 ^ 24 * 2 ^ 24 })
    ∧ configWrite p .aerUncorrectable v c = modCfg c p (fun g => { g with aerUnc := g.aerUnc - (g.aerUnc &&& v) })
    ∧ configWrite p .other v c = c) ∧
  (∀ (c : Chip) (p : HPort) (v : Nat), bit v 2 = true → configWrite p .command v c =
    modCfg c p (fun g => { g with mse := bit v 1, parity := bit v 6, serr := bit v 8, intDisable := bit v 10, bme := true })) ∧
  (∀ (s : State) (p : HPort) (tag : Nat), Serves s (.mbox p) (writeReq tag (0x1210 + portNo p) 8 (leBytes 1 1)) → (getPort s.toChip p).cfg.mse = true →
    (getPort s.toChip p).cfg.bme = true → (getPort s.toChip p).cfg.d3 = false → (getPort s.toChip p).shut = 0 → (getPort s.toChip p).pool = false →
    (getPort s.toChip p).attached = false → ideShut s.toChip p = false →
    Becomes (.portAttach (.mbox p) tag p) s (finishWrite (modPort s.toChip p fun x => { x with attached := true, epoch := (x.epoch + 1) % 2 ^ 32 }) (.mbox p)
      (writeReq tag (0x1210 + portNo p) 8 (leBytes 1 1)) 0 0)) ∧
  (∀ (s : State) (src : Src) (p : HPort) (tag : Nat), Serves s src (writeReq tag (0x1210 + portNo p) 8 (leBytes 1 1)) →
    src ≠ .mbox p ∨ (getPort s.toChip p).cfg.mse = false ∨ (getPort s.toChip p).cfg.bme = false ∨ (getPort s.toChip p).cfg.d3 = true ∨ (getPort s.toChip p).pool = true
      ∨ (getPort s.toChip p).attached = true →
    Becomes (.portAttach src tag p) s (finishWrite s.toChip src (writeReq tag (0x1210 + portNo p) 8 (leBytes 1 1)) 7 0)) ∧
  (∀ p : HPort, RowDoes (fun src tag => .portDetach src tag p) (0x1210 + portNo p) 8 (leBytes 1 2) id (fun _ => True)
    (fun c => modPort c p fun x => { x with attached := false }))

/-- Errors and timeouts of a port (R302, R315, R316, R322): a read past its limit is CLASS 2; each link error is logged and its message sent, an uncorrectable one raises
source 16 + 8p; the optical engine's report is taken every 100,000 ticks, and its fault raises source 18 + 8p. Host accesses (R305 to R310, R312, R326, R327): a register
write or read that the port decodes and the register allows is done; any other is UR, discarded and logged; the low half of CARILLON_NOW latches the upper half; a ROM
read returns the window's bytes, poisoned with an Alert of source 186 when its block fails its digest. -/
def Obligations.HostAccessesAndPortErrors : Prop :=
  (∀ (s : State) (id t : Nat) (r : XReq) (p : HPort), tget s.xf.reqs id = some r → routePort r.route = some p → r.write = false → r.limit ≤ max s.clk.carillon (t % 2 ^ 64) →
    Becomes (.completionTimeout id t) s (react (presentAll (failReq (raiseEv (stat (aerUncorrectable (advance s.toChip t) p 14 0x31) (0x7012 + portNo p) 6 1)
      (20 + 8 * portNo p) 0 1 0) r 2)))) ∧
  (∀ (s : State) (p : HPort), linkIsUp s.toChip p = true →
    Becomes (.linkError p .correctable) s (aerCorrectable s.toChip p 0) ∧
    Becomes (.linkError p .malformedTlp) s (raiseEv (aerUncorrectable s.toChip p 18 0x33) (16 + 8 * portNo p) 0 2 0) ∧
    Becomes (.linkError p .flowControl) s (raiseEv (aerUncorrectable s.toChip p 13 0x33) (16 + 8 * portNo p) 0 2 0) ∧
    Becomes (.linkError p .receiverOverflow) s (raiseEv (aerUncorrectable s.toChip p 17 0x33) (16 + 8 * portNo p) 0 2 0) ∧
    Becomes (.linkError p .dataLink) s (raiseEv (aerUncorrectable s.toChip p 4 0x33) (16 + 8 * portNo p) 0 2 0) ∧
    ((getPort s.toChip p).shut = 0 → Becomes (.linkError p .unexpectedCompletion) s (aerAdvisory s.toChip p 16)) ∧
    ((getPort s.toChip p).shut ≠ 0 → Becomes (.linkError p .unexpectedCompletion) s s.toChip)) ∧
  (∀ (c : Chip) (p : HPort) (b msg : Nat), bit (getPort (aerUncorrectable c p b msg) p).cfg.aerUnc b = true ∧ (aerUncorrectable c p b msg).out = .message p msg :: c.out
    ∧ bit (getPort (aerCorrectable c p b) p).cfg.aerCor b = true ∧ (aerCorrectable c p b).out = .message p 0x30 :: c.out) ∧
  (∀ (s : State) (p : HPort) (light faults temp st t : Nat), s.boot.mclkRuns = true → domainRuns s.toChip (9 + portNo p) = true → (getPort s.toChip p).oeNext ≤ max s.clk.carillon (t % 2 ^ 64) → light < 65536 → faults < 65536 →
    temp < 256 → st < 3 →
    Becomes (.opticalPoll p light faults temp st t) s (modPort (advance s.toChip t) p fun x => { x with
      oeLight := light, oeFault := faults, oeTemp := temp, oeState := st, oeNext := max s.clk.carillon (t % 2 ^ 64) + 100000 })) ∧
  (∀ (s : State) (p : HPort) (lanes : Nat), s.boot.mclkRuns = true → domainRuns s.toChip (9 + portNo p) = true → linkIsUp s.toChip p = false → lanes < 65536 →
    Becomes (.opticalEngineFault p lanes 0) s (raiseEv (modPort s.toChip p fun x => { x with
      oeFault := x.oeFault ||| lanes, oeState := 2, oeTick := s.clk.carillon }) (18 + 8 * portNo p) 0 2 lanes)) ∧
  (∀ (s : State) (p : HPort) (lanes : Nat), s.boot.mclkRuns = true → domainRuns s.toChip (9 + portNo p) = true → linkIsUp s.toChip p = true → lanes < 65536 →
    Becomes (.opticalEngineFault p lanes 0) s (portReset (raiseEv (modPort s.toChip p fun x => { x with
      oeFault := x.oeFault ||| lanes, oeState := 2, oeTick := s.clk.carillon }) (18 + 8 * portNo p) 0 2 lanes) p 0 hotConfig)) ∧
  (∀ (s : State) (p : HPort), hostReach s.toChip p = true → hostDecodes s.toChip p = true →
    Becomes (.carillonNowLowRead p) s (complete (modPort s.toChip p fun x => { x with latched := true, latch := s.clk.carillon / 2 ^ 32 })
      p 0 (leBytes 4 s.clk.carillon)) ∧
    Becomes (.carillonNowHighRead p) s (complete (modPort s.toChip p fun x => { x with latched := false })
      p 0 (leBytes 4 (if (getPort s.toChip p).latched then (getPort s.toChip p).latch else s.clk.carillon / 2 ^ 32))) ∧
    (∀ off n, bit (getPort s.toChip p).cfg.rom 0 = true → 0 < n → n ≤ 4096 → off + n ≤ 0x1000000 → off % n = 0 →
      (∀ k, k ∈ romBlocks s.toChip off n → blockOk s.sec.fw.running k = true) →
      Becomes (.romRead p off n) s (complete s.toChip p 0 ((upFrom off n).map (romByte s.toChip)))) ∧
    (∀ off n k r, bit (getPort s.toChip p).cfg.rom 0 = true → 0 < n → n ≤ 4096 → off + n ≤ 0x1000000 → off % n = 0 →
      (romBlocks s.toChip off n).filter (fun k => !blockOk s.sec.fw.running k) = k :: r →
      Becomes (.romRead p off n) s (complete (raiseEv s.toChip 186 k 2 0) p 3 ((upFrom off n).map (romByte s.toChip))))) ∧
  (∀ (s : State) (p : HPort), hostPosts s.toChip p = true → hostDecodes s.toChip p = true →
    Becomes (.intxMgmtClear p) s (modPort (received s.toChip p 4) p fun x => { x with mgmt := false }) ∧
    (∀ off size v, off < 0x100000 → bar0Allowed s.toChip off size = true → Becomes (.registerWrite p .bar0 off size v) s (bar0Write (received s.toChip p size) p off size v)) ∧
    (∀ off size v, off < 0x100000 → bar0Allowed s.toChip off size = false → Becomes (.registerWrite p .bar0 off size v) s (urWrite (received s.toChip p size) p)) ∧
    (∀ off size v, off < 0x1000000 → sizeOk off size = true → pageAllowed s.toChip p (off / 4096) (off % 4096) size = true →
      Becomes (.registerWrite p .bar2 off size v) s (pageWrite (received s.toChip p size) p (off / 4096) (off % 4096) v)) ∧
    (∀ v, Becomes (.registerWrite p .bar0 0x1054 4 v) s (modPort (received s.toChip p 4) p fun x => { x with intxEn := v % 4 })) ∧
    (∀ v, Becomes (.registerWrite p .bar0 0x1000 4 v) s (received s.toChip p 4))) ∧
  (∀ (s : State) (p : HPort), hostReach s.toChip p = true → hostDecodes s.toChip p = false →
    Becomes (.carillonNowLowRead p) s (urRead s.toChip p) ∧ Becomes (.carillonNowHighRead p) s (urRead s.toChip p) ∧ (∀ off n, Becomes (.romRead p off n) s (urRead s.toChip p))) ∧
  (∀ (s : State) (p : HPort), hostPosts s.toChip p = true → hostDecodes s.toChip p = false →
    Becomes (.intxMgmtClear p) s (urWrite (received s.toChip p 4) p) ∧
    (∀ b off size v, off < barSize b → Becomes (.registerWrite p b off size v) s (urWrite (received s.toChip p size) p))) ∧
  (∀ (s : State) (p : HPort) (off size v : Nat), hostPosts s.toChip p = true → off < 0x1000000 → Becomes (.registerWrite p .rom off size v) s (urWrite (received s.toChip p size) p)) ∧
  (∀ (c : Chip) (p : HPort), (urRead c p).out = .completion p 1 [] :: .message p 0x30 :: c.out ∧ (urWrite c p).out = .message p 0x31 :: c.out
    ∧ bit (getPort (urWrite c p) p).cfg.aerUnc 20 = true ∧ bit (getPort (urRead c p) p).cfg.aerUnc 20 = true)

/-- What a host read finds. A read of UNIT_STATUS in every mode, whatever is gated, is answered with its fields while the port decodes requests, and no other read is done
when it does not (D3hot among the causes): it is UR (R17, R307, R319). A page of BAR2 reads as zero when it is the other port's or its queue is FREE (R181); on a live page
COMPLETED gives the count shown, QSTATUS the state, the cause, the entries in flight and F, MARKS its two counts, and DOORBELL zero; a DOORBELL read of another size is UR. -/
def Obligations.HostReadsFindTheirRegisters : Prop :=
  (∀ (c : Chip) (p : HPort) (bad : Bool), hostDecodes c p = true → hostReads c p .bar0 0x1000 4 bad = complete c p 0 (leBytes 4 (unitStatus c))) ∧
  (∀ (c : Chip) (p : HPort) (b : Bar) (off size : Nat) (bad : Bool), hostDecodes c p = false → hostReads c p b off size bad = urRead c p) ∧
  (∀ c : Chip, unitStatus c % 8 = modeCode c.mode ∧ unitStatus c / 8 % 2 = 0 ∧ bit (unitStatus c) 4 = c.unit1 ∧ unitStatus c / 32 % 8 = 0
    ∧ bit (unitStatus c) 8 = (getPort c .a).attached ∧ bit (unitStatus c) 9 = (getPort c .b).attached ∧ bit (unitStatus c) 10 = tocsinPending c
    ∧ bit (unitStatus c) 11 = (c.clk.disc.state == 3) ∧ unitStatus c < 4096) ∧
  (∀ (c : Chip) (p : HPort) (q o size : Nat) (bad : Bool), hostDecodes c p = true → enabled c 0 = true → o < 4096 → sizeOk o size = true → pageLive c p q = false →
    hostReads c p .bar2 (q * 4096 + o) size bad = complete c p 0 (zeros size)) ∧
  (∀ (c : Chip) (p : HPort) (q : Nat) (bad : Bool), hostDecodes c p = true → enabled c 0 = true → pageLive c p q = true → pageOpen c q = true →
    hostReads c p .bar2 (q * 4096 + 0x40) 8 bad = complete c p 0 (leBytes 8 (getQueue c q).shown) ∧
    hostReads c p .bar2 (q * 4096 + 0x48) 8 bad = complete c p 0 (leBytes 1 (getQueue c q).state ++ leBytes 1 (getQueue c q).cause
      ++ leBytes 1 (inFlight (getQueue c q)) ++ zeros 1 ++ leBytes 4 (getQueue c q).f) ∧
    hostReads c p .bar2 (q * 4096 + 0x50) 4 bad = complete c p 0 (leBytes 2 (getQueue c q).half ++ leBytes 2 (getQueue c q).full) ∧
    hostReads c p .bar2 (q * 4096) 4 bad = complete c p 0 (zeros 4) ∧
    hostReads c p .bar2 (q * 4096) 8 bad = urRead c p)

/-! Carillon, the clocks and the meter (R326 to R349). -/

/-- Time samples (R330, R331, R333): a PTM period sends a request, or counts an invalid sample when the port cannot; a response within 100,000 ticks gives the sample master +
Offset − Carillon, a later one is invalid; PPS edges are judged in runs. Without a valid sample for the entry time LOCKED becomes HOLDOVER and ACQUIRING FREE. What a
valid sample does (R332, R333): it is counted; past the Offset alert it raises source 8; it moves the discipline between its states; an armed Align steps Carillon to the
source time; and the steering, whose choice the spec leaves open (log entry 11), stays within the Slew limit. Steps of Carillon (R332): Time step and Align are accepted
in the first ROUGH entry after reset, and answer STATE at any other time. -/
def Obligations.TimeIsSampledSteeredAndStepped : Prop :=
  (∀ (s : State) (p : HPort) (t : Nat), timeSource s.toChip = portNo p + 1 → (getPort s.toChip p).link = 2 ∨ (getPort s.toChip p).link = 3 → (getPort s.toChip p).cfg.ptmEn = true →
    s.boot.mclkRuns = true → kclkFirc s.toChip = false → followsPartner s.toChip = false → s.clk.disc.ptmNext ≤ max s.clk.carillon (t % 2 ^ 64) →
    Becomes (.ptmRequest t) s (modDisc (emit (modDisc (advance s.toChip t) fun d => { d with ptmNext := max s.clk.carillon (t % 2 ^ 64) + obj s.toChip 0x1300 0xA })
      (.ptmRequest p)) fun d => { d with ptmOut := true, ptmSent := max s.clk.carillon (t % 2 ^ 64) })) ∧
  (∀ (s : State) (p : HPort) (t : Nat), timeSource s.toChip = portNo p + 1 → (getPort s.toChip p).link ≠ 4 → ptmUsable s.toChip p = false →
    s.boot.mclkRuns = true → kclkFirc s.toChip = false → followsPartner s.toChip = false → s.clk.disc.ptmNext ≤ max s.clk.carillon (t % 2 ^ 64) →
    Becomes (.ptmRequest t) s (stat (modDisc (advance s.toChip t) fun d => { d with ptmNext := max s.clk.carillon (t % 2 ^ 64) + obj s.toChip 0x1300 0xA }) 0x7014 5 1)) ∧
  (∀ (s : State) (p : HPort) (master t : Nat), s.clk.disc.ptmOut = true → max s.clk.carillon (t % 2 ^ 64) ≤ s.clk.disc.ptmSent + 100000 → master < 2 ^ 64 →
    timeSource s.toChip = portNo p + 1 → ptmUsable s.toChip p = true → kclkFirc s.toChip = false →
    Becomes (.ptmResponse master t) s (validSample (modDisc (advance s.toChip t) fun d => { d with ptmOut := false })
      ((master : Int) + sext 64 (obj s.toChip 0x1300 4) - ((max s.clk.carillon (t % 2 ^ 64) : Nat) : Int)))) ∧
  (∀ (s : State) (t : Nat), s.clk.disc.ptmOut = true → s.clk.disc.ptmSent + 100000 < max s.clk.carillon (t % 2 ^ 64) →
    Becomes (.ptmResponseTimeout t) s (stat (modDisc (advance s.toChip t) fun d => { d with ptmOut := false }) 0x7014 5 1)) ∧
  (∀ (s : State) (t : Nat), s.boot.fircOn = true → timeSource s.toChip ≠ 3 → Becomes (.ppsEdge t) s (advance s.toChip t)) ∧
  (∀ (s : State) (t : Nat), s.boot.fircOn = true → timeSource s.toChip = 3 → kclkFirc s.toChip = false → followsPartner s.toChip = false → s.clk.disc.ppsSet = false →
    Becomes (.ppsEdge t) s (stat (advance s.toChip t) 0x7014 5 1)) ∧
  (∀ (s : State) (t : Nat), s.boot.fircOn = true → timeSource s.toChip = 3 → kclkFirc s.toChip = false → followsPartner s.toChip = false → s.clk.disc.ppsSet = true →
    (s.clk.disc.ppsOpen = true → max s.clk.carillon (t % 2 ^ 64) < s.clk.disc.ppsLast + 900000000 → Becomes (.ppsEdge t) s (stat (advance s.toChip t) 0x7014 5 1)) ∧
    (s.clk.disc.ppsOpen = false ∨ s.clk.disc.ppsLast + 1100000000 < max s.clk.carillon (t % 2 ^ 64) →
      Becomes (.ppsEdge t) s (modDisc (advance s.toChip t) fun x => { x with
        ppsLast := max s.clk.carillon (t % 2 ^ 64), ppsOpen := true, ppsNext := (s.clk.disc.ppsNext + 1000000000) % 2 ^ 64 })) ∧
    (s.clk.disc.ppsOpen = true → s.clk.disc.ppsLast + 900000000 ≤ max s.clk.carillon (t % 2 ^ 64) → max s.clk.carillon (t % 2 ^ 64) ≤ s.clk.disc.ppsLast + 1100000000 →
      Becomes (.ppsEdge t) s (validSample (modDisc (advance s.toChip t) fun x => { x with
        ppsLast := max s.clk.carillon (t % 2 ^ 64), ppsOpen := true, ppsNext := (s.clk.disc.ppsNext + 1000000000) % 2 ^ 64 })
        ((s.clk.disc.ppsNext : Int) - ((max s.clk.carillon (t % 2 ^ 64) : Nat) : Int))))) ∧
  (∀ (s : State) (t : Nat), s.clk.disc.since + obj s.toChip 0x1300 9 ≤ max s.clk.carillon (t % 2 ^ 64) →
    (s.clk.disc.state = 1 → Becomes (.holdoverEntryExpiry t) s (modDisc (advance s.toChip t) fun d => { d with state := 0, good := 0 })) ∧
    (s.clk.disc.state = 2 → Becomes (.holdoverEntryExpiry t) s (modDisc (stat (advance s.toChip t) 0x7014 3 1) fun d => { d with
      state := 3, good := 0, holdTick := max s.clk.carillon (t % 2 ^ 64), holdB0 := d.lastOff.natAbs + 20 }))) ∧
  (∀ (c : Chip) (off : Int), c.clk.disc.state = 1 → c.clk.disc.good < 7 → off.natAbs ≤ obj c 0x1300 8 →
    (sampleState c off).clk.disc = { c.clk.disc with good := c.clk.disc.good + 1, state := 1 }) ∧
  (∀ (c : Chip) (off : Int), c.clk.disc.state = 1 → c.clk.disc.good = 7 → off.natAbs ≤ obj c 0x1300 8 →
    (sampleState c off).clk.disc = { c.clk.disc with good := 0, state := 2 }) ∧
  (∀ (c : Chip) (off : Int), c.clk.disc.state = 1 → obj c 0x1300 8 < off.natAbs → (sampleState c off).clk.disc = { c.clk.disc with good := 0, state := 1 }) ∧
  (∀ (c : Chip) (off : Int), c.clk.disc.state = 2 → (sampleState c off).clk.disc.state = if 4 * obj c 0x1300 8 < off.natAbs then 1 else 2) ∧
  (∀ (c : Chip) (off : Int), c.clk.disc.state = 3 → (sampleState c off).clk.disc.state = 1) ∧
  (∀ (c : Chip) (off : Int), (validSample c off).clk.disc.lastOff = off ∧ (obj (validSample c off) 0x7014 4 = (obj c 0x7014 4 + 1) % 2 ^ 64) ∧
    (c.clk.disc.align = false ∨ firstRough c = false → (validSample c off).clk.carillon = c.clk.carillon) ∧
    (c.clk.disc.align = true → firstRough c = true → (validSample c off).clk.carillon = toTwos 64 ((c.clk.carillon : Int) + off) ∧ (validSample c off).clk.disc.align = false) ∧
    ((validSample c off).toc.raised = c.toc.raised ++ (if obj c 0x1300 0xE < off.natAbs then [⟨8, 0, 2, 0⟩] else [])) ∧
    (c.clk.disc.state ≠ 0 → (validSample c off).clk.disc.steer.natAbs ≤ obj c 0x1300 7)) ∧
  (∀ v, v < 2 ^ 64 → RowDoes (fun src tag => .timeStep src tag v) 0x1300 6 (leBytes 8 v) id (fun c => c.mode = .rough ∧ c.rough.kind = 1)
    (fun c => modDisc (modClk c fun k => { k with carillon := v }) fun d => { d with ppsOpen := false })) ∧
  (∀ v, RowTurnsAway (fun src tag => .timeStep src tag v) 0x1300 6 (leBytes 8 v) id (fun c => ¬ (c.mode = .rough ∧ c.rough.kind = 1)) 7) ∧
  (RowDoes (fun src tag => .align src tag 1) 0x1300 0xF (leBytes 1 1) id (fun c => c.mode = .rough ∧ c.rough.kind = 1) (fun c => modDisc c fun d => { d with align := true })) ∧
  (RowTurnsAway (fun src tag => .align src tag 1) 0x1300 0xF (leBytes 1 1) id (fun c => ¬ (c.mode = .rough ∧ c.rough.kind = 1)) 7) ∧
  (∀ v, v % 256 ≠ 1 → RowTurnsAway (fun src tag => .align src tag v) 0x1300 0xF (leBytes 1 v) id (fun _ => True) 5)

/-- KCLK on FIRC (R335): when the monitor of PLL-K or XREF1 fails and forces KCLK to FIRC, Carillon continues without a step (R326: by 5 every 2 cycles), the discipline
enters HOLDOVER and no sample is taken while KCLK is on FIRC; the software switch back to PLL-K takes the discipline to ACQUIRING. -/
def Obligations.KclkOnFircHoldsTime : Prop :=
  (∀ (s : State) (m count : Nat), m = 2 ∨ m = 6 → bit s.clk.armed m = true → s.clk.firc = true → bit s.clk.monFail m = false → monitorBad s.toChip m count = true →
    Becomes (.monitorWindowEnd m count) s (react (monitorEffect (raiseEv (stat (modClk s.toChip fun k => { k with
      monFail := setBit k.monFail m true, monPass := k.monPass.set m 0, lastFail := pack [(m, 1), (0, 3), (count, 4), (k.carillon, 8)] }) 0x7014 1 1) m 0 3 0) m))) ∧
  (∀ (c : Chip) (m : Nat), m = 2 ∨ m = 6 → kclkFirc c = false → kclkFirc (monitorEffect c m) = true ∧ (monitorEffect c m).clk.carillon = c.clk.carillon
    ∧ (monitorEffect c m).clk.disc.state = 3) ∧
  (∀ c : Chip, c.boot.fircOn = true → domainRuns c 22 = true → kclkFirc c = true →
    (c.clk.half = false → kclkCycle c = { c with clk := { c.clk with half := true } }) ∧
    (c.clk.half = true → kclkCycle c = { c with clk := { c.clk with carillon := (c.clk.carillon + 5) % 2 ^ 64, half := false } })) ∧
  (∀ (s : State) (t : Nat), kclkFirc s.toChip = true → exec (.ptmRequest t) s = .fault (.notDue "PTM_REQUEST")) ∧
  (∀ (s : State) (t : Nat), kclkFirc s.toChip = true → s.boot.fircOn = true → Becomes (.ppsEdge t) s (advance s.toChip t)) ∧
  (∀ (s : State) (master t : Nat), kclkFirc s.toChip = true → (ptmPort s.toChip).isSome = true → s.clk.disc.ptmOut = true → max s.clk.carillon (t % 2 ^ 64) ≤ s.clk.disc.ptmSent + 100000 →
    Becomes (.ptmResponse master t) s (stat (modDisc (advance s.toChip t) fun d => { d with ptmOut := false }) 0x7014 5 1)) ∧
  (∀ s : State, muxOf s.toChip 22 = 1 → normalReady s.toChip 22 = true → fallbackRuns s.toChip 22 = true → Becomes (.muxSwitchDone 22) s (muxDone s.toChip 22)) ∧
  (∀ c : Chip, c.clk.want.getD 21 0 = 0 → kclkFirc (muxDone c 22) = false ∧ (c.clk.disc.state = 3 → (muxDone c 22).clk.disc.state = 1))

/-- PLLs and monitors (R337, R342): START takes an OFF PLL to LOCKING, STOP takes one that no domain runs on to OFF and disarms its monitor, and 1,000,000 ticks without lock
make it FAILED; a window that departs from the expected count by more than 5 % fails, 16 passes in a row clear the failure. -/
def Obligations.PllsStartStopAndAreMonitored : Prop :=
  (∀ k, k < 4 → RowDoes (fun src tag => .pllStart src tag k) (0x1310 + k) 2 (leBytes 1 1) id (fun c => pllState c k = 0)
    (fun c => modClk c fun x => { x with pll := x.pll.set k 1, pllAt := x.pllAt.set k x.carillon })) ∧
  (∀ k, k < 4 → RowTurnsAway (fun src tag => .pllStart src tag k) (0x1310 + k) 2 (leBytes 1 1) id (fun c => pllState c k ≠ 0) 7) ∧
  (∀ k, k < 4 → RowDoes (fun src tag => .pllStop src tag k) (0x1310 + k) 2 (leBytes 1 2) id (fun c => pllInUse c k = false)
    (fun c => modClk c fun x => { x with pll := x.pll.set k 0, armed := setBit x.armed (3 + k) false })) ∧
  (∀ k, k < 4 → RowTurnsAway (fun src tag => .pllStop src tag k) (0x1310 + k) 2 (leBytes 1 2) id (fun c => pllInUse c k = true) 7) ∧
  (∀ (s : State) (k t : Nat), k < 4 → pllState s.toChip k = 1 → s.clk.pllAt.getD k 0 + 1000000 ≤ max s.clk.carillon (t % 2 ^ 64) →
    Becomes (.pllLockTimeout k t) s (setPll (advance s.toChip t) k 3)) ∧
  (∀ (s : State) (m count : Nat), m < 7 → bit s.clk.armed m = true → s.clk.firc = true → monitorBad s.toChip m count = true →
    Becomes (.monitorWindowEnd m count) s (react (monitorFail s.toChip m count))) ∧
  (∀ (s : State) (m count : Nat), m < 7 → bit s.clk.armed m = true → s.clk.firc = true → monitorBad s.toChip m count = false →
    Becomes (.monitorWindowEnd m count) s (react (monitorPass s.toChip m))) ∧
  (∀ (c : Chip) (count : Nat), (monitorBad c 0 count = true ↔ count < 3800 ∨ 4200 < count) ∧ (monitorBad c 1 count = true ↔ count < 950 ∨ 1050 < count)) ∧
  (∀ (c : Chip) (m : Nat), m < 7 → bit c.clk.monFail m = false → monitorPass c m = c) ∧
  (∀ (c : Chip) (m : Nat), m < 7 → bit c.clk.monFail m = true → bit (monitorPass c m).clk.monFail m = (c.clk.monPass.getD m 0 + 1 != 16)) ∧
  (∀ (c : Chip) (m count : Nat), m < 7 → m ≠ 1 → m ≠ 4 → bit (monitorFail c m count).clk.monFail m = true) ∧
  (∀ (c : Chip) (m count : Nat), m < 7 → bit c.clk.monFail m = true →
    (monitorFail c m count).toc = c.toc ∧ (monitorFail c m count).clk.sel = c.clk.sel ∧ (monitorFail c m count).clk.pll = c.clk.pll ∧ (monitorFail c m count).objs = c.objs)

/-- Switching a domain (R344): a write of the source already selected completes at once; another one starts the multiplexer and is answered when the switch is done, but for
MCLK at once; NORMAL needs a READY source, a domain without a fallback answers RANGE. The meter and the gates (R340, R341, R346): a request for two known clocks and a
window of 1 to 2^24 cycles runs, and its window or its stall ends it; BUSY while it runs. Clock enables are written unless that would gate a busy block, which answers
STATE; gating the bridge port takes it down, gating the Peer Gateway ends the strokes on route PEER. -/
def Obligations.DomainsMeterAndGates : Prop :=
  (∀ (s : State) (src : Src) (tag d v : Nat), 1 ≤ d → d ≤ 25 → v ≤ 1 → Passes s src (writeReq tag (0x1320 + d) 1 (leBytes 1 v)) → domainSourceStatus d v s.toChip = 0 →
    onFallback s.toChip d = (v == 1) →
    Becomes (.domainSourceWrite src tag d v) s (respond (setMux s.toChip d (v == 1) 0) src (writeReq tag (0x1320 + d) 1 (leBytes 1 v)) 0 0 [])) ∧
  (∀ (s : State) (src : Src) (tag d v : Nat), 1 ≤ d → d ≤ 25 → d ≠ 20 → v ≤ 1 → Passes s src (writeReq tag (0x1320 + d) 1 (leBytes 1 v)) → domainSourceStatus d v s.toChip = 0 →
    onFallback s.toChip d ≠ (v == 1) →
    Becomes (.domainSourceWrite src tag d v) s (modClk (grantTurn (modClk s.toChip fun k => { k with mux := k.mux.set (d - 1) 1, want := k.want.set (d - 1) v }) src)
      fun k => { k with held := k.held ++ [(d, src, writeReq tag (0x1320 + d) 1 (leBytes 1 v))] })) ∧
  (∀ (s : State) (src : Src) (tag v : Nat), v ≤ 1 → Passes s src (writeReq tag (0x1320 + 20) 1 (leBytes 1 v)) → domainSourceStatus 20 v s.toChip = 0 →
    onFallback s.toChip 20 ≠ (v == 1) →
    Becomes (.domainSourceWrite src tag 20 v) s (respond (modClk s.toChip fun k => { k with mux := k.mux.set 19 1, want := k.want.set 19 v }) src
      (writeReq tag (0x1320 + 20) 1 (leBytes 1 v)) 0 0 [])) ∧
  (∀ (s : State) (src : Src) (tag d v : Nat), 1 ≤ d → d ≤ 25 → v < 256 → Passes s src (writeReq tag (0x1320 + d) 1 (leBytes 1 v)) → domainSourceStatus d v s.toChip ≠ 0 →
    Becomes (.domainSourceWrite src tag d v) s (respond s.toChip src (writeReq tag (0x1320 + d) 1 (leBytes 1 v)) (domainSourceStatus d v s.toChip) 0 [])) ∧
  (∀ (c : Chip) (d v : Nat), (hasMux d = false → domainSourceStatus d v c = 5) ∧ (hasMux d = true → normalReady c d = false → domainSourceStatus d 0 c = 7)) ∧
  (∀ (s : State) (d : Nat), 1 ≤ d → d ≤ 25 → muxOf s.toChip d = 1 → normalReady s.toChip d = true → fallbackRuns s.toChip d = true →
    d ≠ 22 ∨ s.clk.want.getD (d - 1) 0 ≠ 0 →
    Becomes (.muxSwitchDone d) s (answerHeld (setMux s.toChip d (s.clk.want.getD (d - 1) 0 == 1) 0) d)) ∧
  (∀ (c : Chip) (d : Nat) (src : Src) (rq : Req) (r : List (Nat × Src × Req)), c.clk.held = (d, src, rq) :: r →
    answerHeld c d = post (modClk c fun k => { k with held := r.filter fun y => y.1 != d }) src rq 0 0 []) ∧
  (∀ payload, meterCode (fld (leNat payload) 0 1) = true → meterCode (fld (leNat payload) 1 1) = true → 1 ≤ fld (leNat payload) 4 4 → fld (leNat payload) 4 4 ≤ 2 ^ 24 →
    RowDoes (fun src tag => .meterRequest src tag payload) 0x1350 1 payload id (fun c => c.clk.meter ≠ 1)
      (fun c => modClk c fun k => { k with meter := 1, meterW := fld (leNat payload) 4 4, meterM := fld (leNat payload) 0 1, meterR := fld (leNat payload) 1 1, meterCount := 0 }) ∧
    RowTurnsAway (fun src tag => .meterRequest src tag payload) 0x1350 1 payload id (fun c => c.clk.meter = 1) 6) ∧
  (∀ payload, meterCode (fld (leNat payload) 0 1) = false ∨ meterCode (fld (leNat payload) 1 1) = false ∨ fld (leNat payload) 4 4 < 1 ∨ 2 ^ 24 < fld (leNat payload) 4 4 →
    RowTurnsAway (fun src tag => .meterRequest src tag payload) 0x1350 1 payload id (fun _ => True) 5) ∧
  (∀ (s : State) (count : Nat), s.clk.meter = 1 → meterRuns s.toChip s.clk.meterR = true → count < 2 ^ 32 →
    Becomes (.meterWindowEnd count) s (modClk s.toChip fun k => { k with meter := 2, meterCount := if meterRuns s.toChip s.clk.meterM then count else 0 })) ∧
  (∀ s : State, s.clk.meter = 1 → Becomes .meterStall s (modClk s.toChip fun k => { k with meter := 3 })) ∧
  (∀ v, v < 2 ^ 20 → RowDoes (fun src tag => .clockEnableSet src tag v) 0x1100 3 (leBytes 4 v) react
      (fun c => (∀ b, b < 20 → bit c.clk.enables b = true → bit v b = true)) (fun c => modClk c fun k => { k with enables := v }) ∧
    RowDoes (fun src tag => .clockEnableClear src tag v) 0x1100 3 (leBytes 4 v) react
      (fun c => (∀ b, b < 20 → bit c.clk.enables b = true → bit v b = false → blockBusy c b = false) ∧ (bit c.clk.enables 18 = true → bit v 18 = true)
        ∧ (bit c.clk.enables 7 = true → bit v 7 = true)) (fun c => modClk c fun k => { k with enables := v }) ∧
    RowDoes (fun src tag => .clockEnableClear src tag v) 0x1100 3 (leBytes 4 v) react
      (fun c => (∀ b, b < 20 → bit c.clk.enables b = true → bit v b = false → blockBusy c b = false) ∧ bit c.clk.enables 18 = true ∧ bit v 18 = false
        ∧ (bit c.clk.enables 7 = true → bit v 7 = true))
      (fun c => { modClk c (fun k => { k with enables := v }) with dbl := { c.dbl with bridge := 0 } }) ∧
    RowDoes (fun src tag => .clockEnableClear src tag v) 0x1100 3 (leBytes 4 v) react
      (fun c => (∀ b, b < 20 → bit c.clk.enables b = true → bit v b = false → blockBusy c b = false) ∧ (bit c.clk.enables 18 = true → bit v 18 = true)
        ∧ bit c.clk.enables 7 = true ∧ bit v 7 = false)
      (fun c => modClk (peerHalt c fun _ => true) fun k => { k with enables := v }) ∧
    RowTurnsAway (fun src tag => .clockEnableClear src tag v) 0x1100 3 (leBytes 4 v) react
      (fun c => ∃ b, b < 20 ∧ bit c.clk.enables b = true ∧ bit v b = false ∧ blockBusy c b = true) 7)

/-! Tocsin (R350 to R371). -/

/-- Events (R351 to R354, R356): Tocsin takes a source's first raised event: it is removed from those raised, sets the source's sticky bit, and counts; a source's total
saturates, its last event is recorded, its level never falls by an event, N events in a window make it SEVERE, a masked source below FATAL goes no higher than NOTE, and
ALERT and SEVERE start the grace timer. Grace timers, windows and software (R351, R353 to R356, R369): an ALERT whose grace ends is SEVERE, a SEVERE one takes its end
action once; a window that closes forgets its count; ACK clears a level below FATAL, sticky bits are cleared one by one or together, and a mask takes ALERT and SEVERE to
NOTE, but for sources 0 to 7. -/
def Obligations.TocsinTakesEventsAndTimes : Prop :=
  (∀ (s : State) (n elem level detail : Nat), firstRaised s.toChip n = some ⟨n, elem, level, detail⟩ → n = 7 ∨ policyRuns s.toChip = true → s.boot.pwrgood = true →
    Becomes (.tocsinEvent n elem level detail) s
      (react (takeEvent { s.toChip with toc := { s.toc with raised := ldel s.toc.raised fun x => x == ⟨n, elem, level, detail⟩ } } n elem level detail))) ∧
  (∀ (s : State) (n elem level detail : Nat), firstRaised s.toChip n ≠ some ⟨n, elem, level, detail⟩ → outsideEvent n elem level detail = false →
    exec (.tocsinEvent n elem level detail) s = .fault (.notDue "TOCSIN_EVENT")) ∧
  (∀ (c : Chip) (n elem level detail : Nat), level < 4 → n < 32 ∨ (48 ≤ n ∧ n < 112) ∨ (128 ≤ n ∧ n < 160) ∨ 173 < n → obj c 0x5100 8 = 0 →
    getSrc (takeEvent c n elem level detail) n = takeLevel c n (getSrc c n) elem level detail ∧ bit (takeEvent c n elem level detail).toc.sticky n = true
      ∧ obj (takeEvent c n elem level detail) 0x7050 1 = (obj c 0x7050 1 + 1) % 2 ^ 64 ∧ (takeEvent c n elem level detail).mode = c.mode
      ∧ (takeEvent c n elem level detail).bel = c.bel ∧ (takeEvent c n elem level detail).pat = c.pat ∧ (takeEvent c n elem level detail).geo = c.geo
      ∧ (∀ m, m ≠ n → getSrc (takeEvent c n elem level detail) m = getSrc c m)) ∧
  (∀ (c : Chip) (n elem level detail : Nat) (x : SrcSt), (takeLevel c n x elem level detail).total = min 0xFFFFFFFF (x.total + 1)
    ∧ (takeLevel c n x elem level detail).lastTick = c.clk.carillon ∧ (takeLevel c n x elem level detail).lastElem = elem
    ∧ (takeLevel c n x elem level detail).lastLevel = level ∧ (takeLevel c n x elem level detail).lastDetail = detail
    ∧ x.level ≤ (takeLevel c n x elem level detail).level
    ∧ (isMasked c n = false → level ≤ (takeLevel c n x elem level detail).level)
    ∧ (isMasked c n = true → level ≠ 4 → (takeLevel c n x elem level detail).level ≤ max x.level 1)
    ∧ (level = 4 → x.level ≤ 4 → (takeLevel c n x elem level detail).level = 4)) ∧
  (∀ (c : Chip) (n elem level detail : Nat) (x : SrcSt), isMasked c n = false → level < 3 → x.level < 3 → x.winOpen = true → c.clk.carillon < x.winClose → x.winN ≤ x.count + 1 →
    (takeLevel c n x elem level detail).level = 3 ∧ (takeLevel c n x elem level detail).timerOn = true
      ∧ (takeLevel c n x elem level detail).timer = c.clk.carillon + obj c 0x5100 6 ∧ (takeLevel c n x elem level detail).winOpen = false) ∧
  (∀ (s : State) (n t : Nat), (getSrc s.toChip n).timerOn = true → (getSrc s.toChip n).timer ≤ max s.clk.carillon (t % 2 ^ 64) → policyRuns s.toChip = true →
    Becomes (.graceTimerExpiry n t) s (react (graceExpiry (advance s.toChip t) n))) ∧
  (∀ (c : Chip) (n : Nat), (getSrc c n).level = 2 →
    graceExpiry c n = setSrc (stat c 0x7050 2 1) n { getSrc c n with level := 3, timer := c.clk.carillon + obj c 0x5100 6 }) ∧
  (∀ (c : Chip) (n : Nat), (getSrc c n).level = 3 → n < 48 ∨ (112 ≤ n ∧ n < 120) ∨ (160 ≤ n ∧ n ≠ 163 ∧ n ≠ 165 ∧ n ≠ 187) →
    graceExpiry c n = setSrc (stat c 0x7050 2 1) n { getSrc c n with timerOn := false, timer := 0 }) ∧
  (∀ (c : Chip) (n : Nat), (getSrc c n).level = 3 → 48 ≤ n → n ≤ 111 →
    graceExpiry c n = setSrc (fenceChannel (setSrc (stat c 0x7050 2 1) n { getSrc c n with timerOn := false, timer := 0 }) n (n - 48)) n
      { getSrc (fenceChannel (setSrc (stat c 0x7050 2 1) n { getSrc c n with timerOn := false, timer := 0 }) n (n - 48)) n with endTaken := true }) ∧
  (∀ (s : State) (n t : Nat), (getSrc s.toChip n).winOpen = true → (getSrc s.toChip n).winClose ≤ max s.clk.carillon (t % 2 ^ 64) →
    Becomes (.tocsinWindowClose n t) s (setSrc (advance s.toChip t) n { getSrc s.toChip n with winOpen := false, count := 0 })) ∧
  (∀ n, n < 192 →
    RowDoes (fun src tag => .sourceAck src tag n) (0x5000 + n) 2 (leBytes 1 1) id (fun c => (getSrc c n).level ≠ 4)
      (fun c => setSrc c n { getSrc c n with level := 0, timerOn := false, timer := 0, endTaken := false }) ∧
    RowTurnsAway (fun src tag => .sourceAck src tag n) (0x5000 + n) 2 (leBytes 1 1) id (fun c => (getSrc c n).level = 4) 7 ∧
    RowDoes (fun src tag => .clearSticky src tag n) (0x5000 + n) 2 (leBytes 1 2) id (fun _ => True)
      (fun c => { c with toc := { c.toc with sticky := setBit c.toc.sticky n false } }) ∧
    RowDoes (fun src tag => .maskWrite src tag n 0) (0x5000 + n) 5 (leBytes 1 0) id (fun _ => True) (fun c => setObj c (0x5000 + n) 5 0) ∧
    RowDoes (fun src tag => .maskWrite src tag n 1) (0x5000 + n) 5 (leBytes 1 1) id (fun c => 7 < n ∧ (getSrc c n).level ≠ 2 ∧ (getSrc c n).level ≠ 3)
      (fun c => setObj c (0x5000 + n) 5 1) ∧
    RowDoes (fun src tag => .maskWrite src tag n 1) (0x5000 + n) 5 (leBytes 1 1) id (fun c => 7 < n ∧ ((getSrc c n).level = 2 ∨ (getSrc c n).level = 3))
      (fun c => setSrc (setObj c (0x5000 + n) 5 1) n { getSrc c n with level := 1, timerOn := false, timer := 0 }) ∧
    RowTurnsAway (fun src tag => .maskWrite src tag n 1) (0x5000 + n) 5 (leBytes 1 1) id (fun _ => n ≤ 7) 5) ∧
  (RowDoes (fun src tag => .clearAllSticky src tag 1) 0x5100 4 (leBytes 1 1) id (fun _ => True) (fun c => { c with toc := { c.toc with sticky := 0 } })) ∧
  (∀ v, v % 256 ≠ 1 → RowTurnsAway (fun src tag => .clearAllSticky src tag v) 0x5100 4 (leBytes 1 v) id (fun _ => True) 5) ∧
  (∀ (s : State) (temp : Int) (power t : Nat), tocsinRuns s.toChip = true → s.toc.sampleNext ≤ max s.clk.carillon (t % 2 ^ 64) → -2147483648 ≤ temp → temp < 2147483648 → power < 2 ^ 32 →
    Becomes (.telemetrySample temp power t) s (telemetry (advance s.toChip t) temp power)) ∧
  (∀ (c : Chip) (temp : Int) (power : Nat), (telemetry c temp power).toc.temp = temp ∧ (telemetry c temp power).toc.power = power
    ∧ (telemetry c temp power).toc.sampleNext = c.clk.carillon + 1000000
    ∧ ((telemetry c temp power).toc.raised = c.toc.raised ↔ crossed c c.toc.temp temp (sext 32 (obj c 0x5140 4)) = false
      ∧ crossed c c.toc.temp temp (sext 32 (obj c 0x5140 3)) = false ∧ crossed c c.toc.power power (obj c 0x5140 5) = false))

/-- ACK (R355), written to object 0x5000+n.02, completes OK at every level except FATAL, and neither ACK nor CLEAR_STICKY changes a fence: the elements in service stay as
they are. -/
def Obligations.AckCompletesBelowFatalAndLeavesFences : Prop :=
  (∀ n, n < 192 →
    RowDoes (fun src tag => .sourceAck src tag n) (0x5000 + n) 2 (leBytes 1 1) id (fun c => (getSrc c n).level ≠ 4) (fun c => (sourceAck n c).2) ∧
    RowTurnsAway (fun src tag => .sourceAck src tag n) (0x5000 + n) 2 (leBytes 1 1) id (fun c => (getSrc c n).level = 4) 7) ∧
  (∀ (n : Nat) (c : Chip), (getSrc c n).level ≠ 4 → (sourceAck n c).1 = 0 ∧ (getSrc (sourceAck n c).2 n).level = 0) ∧
  (∀ (n : Nat) (c d : Chip), d = (sourceAck n c).2 ∨ d = (clearSticky n c).2 →
    d.toc.cutters = c.toc.cutters ∧ d.toc.channels = c.toc.channels ∧ d.toc.slots = c.toc.slots ∧ d.toc.clusters = c.toc.clusters ∧ d.toc.cores = c.toc.cores)

/-! The root of trust, firmware and measurement (R372 to R386). -/

/-- The root-of-trust interface (R375, R376, R378): one request is out at a time; a response with another TAG is discarded, one with its TAG ends it and the next waiting one
goes out; 100,000,000 ticks without a response fail it. Measurement (R383, R386): a model measure request runs unless one runs already; its contents give the program and
weight digests and change blocks 3 and 4, which the log records; a bad range fails it. A log entry's CHAIN covers the CHAIN before it and its own first 80 bytes. -/
def Obligations.RootOfTrustAndMeasurement : Prop :=
  (∀ (s : State) (tag status : Nat) (payload : Bytes) (r : RotReq), s.boot.mclkRuns = true → status < 4 → payload.length ≤ 4096 → s.sec.rot = some r → r.tag ≠ tag →
    status = 0 ∨ payload = [] → Becomes (.rotResponse tag status payload) s s.toChip) ∧
  (∀ (s : State) (payload : Bytes) (r : RotReq), s.boot.mclkRuns = true → payload.length ≤ 4096 → s.sec.rot = some r →
    Becomes (.rotResponse r.tag 0 payload) s (rotNext (rotOk { s.toChip with sec := { s.sec with rot := none } } r.by_ payload))) ∧
  (∀ (s : State) (status : Nat) (r : RotReq), s.boot.mclkRuns = true → 1 ≤ status → status < 4 → s.sec.rot = some r →
    Becomes (.rotResponse r.tag status []) s (rotNext (rotFail { s.toChip with sec := { s.sec with rot := none } } r.by_ (status == 2)))) ∧
  (∀ (s : State) (t : Nat) (r : RotReq), s.sec.rot = some r → r.sent + 100000000 ≤ max s.clk.carillon (t % 2 ^ 64) →
    Becomes (.rotTimeout t) s (rotNext (rotFail { advance s.toChip t with sec := { s.sec with rot := none } } r.by_ false))) ∧
  (∀ (c : Chip) (by_ : RotFor), c.sec.rot = none → (rotAsk c by_).sec.rot = some ⟨(c.sec.rotTag + 1) % 65536, by_, c.clk.carillon⟩ ∧ (rotAsk c by_).sec.rotQueue = c.sec.rotQueue) ∧
  (∀ (c : Chip) (by_ : RotFor) (r : RotReq), c.sec.rot = some r → rotAsk c by_ = { c with sec := { c.sec with rotQueue := c.sec.rotQueue ++ [by_] } }) ∧
  (∀ (c : Chip) (bs : Bytes), (rotOk c .serial bs).boot.serial = bfld bs 0 16 ∧ (rotOk c .counterRead bs).sec.fw.counter = bfld bs 0 4
    ∧ (rotOk c .tenancyRead bs).sec.ten.epoch = bfld bs 0 4 ∧ (rotOk c .verifySig bs).sec.fw.sigOk = (if bfld bs 0 1 = 0 then 1 else 2)
    ∧ (rotOk c .keySeed bs).sec.ten.state = 2 ∧ (rotOk c .keySeed bs).sec.ten.xts = some (takeWords c 8).1) ∧
  (RowDoes (fun src tag => .modelMeasureRequest src tag 1) 0x6008 2 (leBytes 1 1) id (fun c => c.sec.meas.state ≠ 1) (fun c => modMeas c fun m => { m with state := 1 })) ∧
  (RowTurnsAway (fun src tag => .modelMeasureRequest src tag 1) 0x6008 2 (leBytes 1 1) id (fun c => c.sec.meas.state = 1) 6) ∧
  (∀ v, v % 256 ≠ 1 → RowTurnsAway (fun src tag => .modelMeasureRequest src tag v) 0x6008 2 (leBytes 1 v) id (fun _ => True) 5) ∧
  (∀ (s : State) (p w : Bytes), s.sec.meas.state = 1 → badRange s.toChip = none → p.length = kindBytes s.toChip 1 → w.length = kindBytes s.toChip 2 →
    Becomes (.modelMeasureComplete (.contents p w)) s (measured34 s.toChip p w)) ∧
  (∀ (s : State) (k : Nat), s.sec.meas.state = 1 → badRange s.toChip = some k →
    Becomes (.modelMeasureComplete (.badRange k)) s (modMeas s.toChip fun m => { m with state := 3, badRange := k, tick := s.clk.carillon })) ∧
  (∀ (c : Chip) (p w : Bytes), (measured34 c p w).sec.meas.state = 2 ∧ (measured34 c p w).sec.meas.weightDigest = kindDigest c 2 w
    ∧ (measured34 c p w).sec.meas.progDigest = kindDigest c 1 p ∧ (measured34 c p w).sec.meas.block4 = kindDigest c 2 w
    ∧ (measured34 c p w).sec.meas.logTotal = c.sec.meas.logTotal + 2 ∧ (measured34 c p w).objs = c.objs ∧ (measured34 c p w).mode = c.mode) ∧
  (∀ (c : Chip) (kind idx value : Nat) (d : Bytes), (logAdd c kind idx value d).sec.meas.logTotal = c.sec.meas.logTotal + 1 ∧
    (logAdd c kind idx value d).sec.meas.chain = sha384 ((if c.sec.meas.logTotal = 0 then zeros 48 else c.sec.meas.chain) ++ logHead c.clk.carillon kind idx value d) ∧
    (logAdd c kind idx value d).sec.meas.log.head? = some (logHead c.clk.carillon kind idx value d ++ (logAdd c kind idx value d).sec.meas.chain) ∧
    (logAdd c kind idx value d).objs = c.objs ∧ (logAdd c kind idx value d).toc = c.toc)

/-- Staging and verification (R374, R379): a sound stage request reads the bundle and makes the bank WRITING, BUSY while a write, verification or activation runs; the bytes
end it; VERIFY asks the root of trust and ends in STAGED or FAILED with the first check that fails; DISCARD empties the bank. Activation (R380 to R382): ACTIVATE of a
STAGED bundle, outside DOUBLET, makes it ACTIVATING; the in-memory check flips the banks and ends every SPDM session, or fails with REASON 8; the window's close records
the activation and raises the counter when the running SVN exceeds it. -/
def Obligations.FirmwareIsStagedVerifiedActivated : Prop :=
  (∀ payload, fld (leNat payload) 0 8 % 4096 = 0 → 1 ≤ fld (leNat payload) 8 4 → fld (leNat payload) 8 4 ≤ 6291456 → fld (leNat payload) 12 1 ≤ 1 →
    RowDoes (fun src tag => .stageRequest src tag payload) 0x6000 2 payload id
      (fun c => tenantEnding c = false ∧ c.sec.fw.state ≠ 1 ∧ c.sec.fw.state ≠ 2 ∧ c.sec.fw.state ≠ 3 ∧ c.sec.fw.state ≠ 5 ∧ canIssue c (portOf (fld (leNat payload) 12 1 == 1)) = true)
      (fun c => emit (modFw c fun f => { f with
        state := 1, reason := 0, staged := [], stagePort := portOf (fld (leNat payload) 12 1 == 1), stageLen := fld (leNat payload) 8 4 })
        (.hostRead (portOf (fld (leNat payload) 12 1 == 1)) (fld (leNat payload) 0 8) (fld (leNat payload) 8 4))) ∧
    RowTurnsAway (fun src tag => .stageRequest src tag payload) 0x6000 2 payload id (fun c => tenantEnding c = true) 7 ∧
    RowTurnsAway (fun src tag => .stageRequest src tag payload) 0x6000 2 payload id
      (fun c => tenantEnding c = false ∧ (c.sec.fw.state = 1 ∨ c.sec.fw.state = 2 ∨ c.sec.fw.state = 5)) 6) ∧
  (∀ payload, fld (leNat payload) 0 8 % 4096 ≠ 0 ∨ fld (leNat payload) 8 4 = 0 ∨ 6291456 < fld (leNat payload) 8 4 ∨ 1 < fld (leNat payload) 12 1 →
    RowTurnsAway (fun src tag => .stageRequest src tag payload) 0x6000 2 payload id (fun _ => True) 5) ∧
  (∀ (s : State) (bs : Bytes), s.sec.fw.state = 1 → s.sec.fw.stageLen ≠ 0 → bs.length = s.sec.fw.stageLen →
    Becomes (.stageWriteComplete (.data bs)) s (modFw (logRead s.toChip s.sec.fw.stagePort (.data bs)) fun f => { f with state := 0, reason := 0, staged := bs })) ∧
  (RowDoes (fun src tag => .firmwareVerify src tag) 0x6000 5 (leBytes 1 1) id (fun c => c.sec.fw.state = 0 ∨ c.sec.fw.state = 4)
    (fun c => rotAsk (rotAsk (modFw c fun f => { f with state := 2, reason := 0, sigOk := 0 }) .verifySig) .counterRead)) ∧
  (RowTurnsAway (fun src tag => .firmwareVerify src tag) 0x6000 5 (leBytes 1 1) id (fun c => c.sec.fw.state = 1 ∨ c.sec.fw.state = 2 ∨ c.sec.fw.state = 5) 7) ∧
  (∀ (s : State) (flashOk : Bool), s.sec.fw.state = 2 → verifyPending s.toChip = false →
    Becomes (.verifyComplete flashOk) s (setFwState (modFw s.toChip fun f => { f with version := bfld f.staged 4 4, svn := bfld f.staged 8 4 })
      (if verifyReason s.toChip s.sec.fw.staged flashOk = 0 then 3 else 4) (verifyReason s.toChip s.sec.fw.staged flashOk))) ∧
  (∀ (c : Chip) (b : Bytes) (ok : Bool), verifyReason c b ok = 0 ↔ bundleFormed b = true ∧ c.sec.fw.sigOk = 1 ∧ c.sec.fw.counter ≤ bfld b 8 4 ∧ blocksOk b = true ∧ bfld b 20 1 ≤ 0x11 ∧ ok = true) ∧
  (∀ (c : Chip) (b : Bytes) (ok : Bool), (bundleFormed b = false → verifyReason c b ok = 1) ∧ (bundleFormed b = true → c.sec.fw.sigOk = 2 → verifyReason c b ok = 2)
    ∧ (bundleFormed b = true → c.sec.fw.sigOk = 1 → bfld b 8 4 < c.sec.fw.counter → verifyReason c b ok = 3)) ∧
  (RowDoes (fun src tag => .firmwareDiscard src tag) 0x6000 5 (leBytes 1 3) id (fun c => c.sec.fw.state = 4)
    (fun c => modFw c fun f => { f with state := 0, reason := 0, staged := [], version := 0, svn := 0 })) ∧
  (RowDoes (fun src tag => .firmwareDiscard src tag) 0x6000 5 (leBytes 1 3) id (fun c => c.sec.fw.state = 3)
    (fun c => modFw (blockChanged c 1) fun f => { f with state := 0, reason := 0, staged := [], version := 0, svn := 0 })) ∧
  (RowTurnsAway (fun src tag => .firmwareDiscard src tag) 0x6000 5 (leBytes 1 3) id (fun c => c.sec.fw.state ≠ 3 ∧ c.sec.fw.state ≠ 4) 7) ∧
  (RowDoes (fun src tag => .firmwareActivate src tag) 0x6000 5 (leBytes 1 2) id
    (fun c => c.sec.fw.state = 3 ∧ c.mode ≠ .boot ∧ c.mode ≠ .doublet ∧ tenantEnding c = false) (fun c => blockChanged (modFw c fun f => { f with state := 5, reason := 0 }) 1)) ∧
  (RowTurnsAway (fun src tag => .firmwareActivate src tag) 0x6000 5 (leBytes 1 2) id (fun c => c.sec.fw.state ≠ 3 ∨ c.mode = .boot ∨ tenantEnding c = true) 7) ∧
  (∀ s : State, s.sec.fw.state = 5 → s.sec.fw.window = false →
    Becomes (.activationLoadChecked true) s { s.toChip with sec := { s.sec with
      fw := { s.sec.fw with window := true, running := s.sec.fw.staged, staged := s.sec.fw.running, bank := 1 - s.sec.fw.bank, runVersion := s.sec.fw.version, runSvn := s.sec.fw.svn, loader := false }
      spdm := { s.sec.spdm with sessions := [0, 0, 0], handshakes := [0, 0, 0] } } } ∧
    Becomes (.activationLoadChecked false) s (logAdd (blockChanged (raiseEv (modFw s.toChip fun f => { f with state := 4, reason := 8 }) 186 0 2 0) 1) 7 1 8 [])) ∧
  (∀ s : State, s.sec.fw.window = true → Becomes .activationWindowClose s (windowClose s.toChip)) ∧
  (∀ c : Chip, (windowClose c).sec.fw.state = 0 ∧ (windowClose c).sec.fw.window = false ∧ (windowClose c).sec.fw.staged = [] ∧ (windowClose c).sec.fw.running = c.sec.fw.running
    ∧ (windowClose c).sec.fw.raise = (c.sec.fw.raise || decide (c.sec.fw.counter < c.sec.fw.runSvn)) ∧ (windowClose c).sec.meas.logTotal = c.sec.meas.logTotal + 1 ∧ (windowClose c).mode = c.mode) ∧
  (∀ (s : State) (t : Nat), s.sec.fw.raise = true → s.sec.fw.raiseAt ≤ max s.clk.carillon (t % 2 ^ 64) → rotPending s.toChip (fun b => b == .counterRaise) = false →
    Becomes (.counterRaiseRetry t) s (rotAsk (advance s.toChip t) .counterRaise))

/-! Tenancy, SPDM and IDE (R384 to R396). -/

/-- Tenancy (R390 to R394): ATTACH of a VACANT unit in a mode that serves asks the root of trust to raise the tenancy counter; END of an OCCUPIED one starts the end: ENDING,
queues destroyed with CAUSE 10, posts discarded; in DOUBLET unit 0 alone
takes them and tells unit 1; SCRUB of an UNSCRUBBED one begins the scrub of the die's 512 GiB and the cluster ranges; the drain limit aborts every stroke; a scrub whose
zero strokes are all done leaves the unit VACANT
with nothing of the tenant. -/
def Obligations.TenancyAttachesEndsAndScrubs : Prop :=
  (RowDoes (fun src tag => .tenancyAttach src tag) 0x6020 2 (leBytes 1 1) id
    (fun c => c.sec.ten.state = 1 ∧ serving c = true ∧ tenantLead c = true ∧ c.sec.ten.attaching = false)
    (fun c => rotAsk (tenantTell (modTen c fun t => { t with attaching := true }) 1) .tenancyRaise)) ∧
  (RowTurnsAway (fun src tag => .tenancyAttach src tag) 0x6020 2 (leBytes 1 1) id
    (fun c => c.sec.ten.state ≠ 1 ∨ serving c = false ∨ c.sec.ten.attaching = true ∨ tenantLead c = false) 7) ∧
  (RowDoes (fun src tag => .tenancyEnd src tag) 0x6020 2 (leBytes 1 2) (fun c => tenantGo (react c)) (fun c => c.sec.ten.state = 2 ∧ tenantLead c = true)
    (fun c => tenantStop (tenantTell c 2))) ∧
  (RowTurnsAway (fun src tag => .tenancyEnd src tag) 0x6020 2 (leBytes 1 2) (fun c => tenantGo (react c)) (fun c => c.sec.ten.state ≠ 2 ∨ tenantLead c = false) 7) ∧
  (RowDoes (fun src tag => .tenancyScrub src tag) 0x6020 2 (leBytes 1 3) react (fun c => c.sec.ten.state = 0 ∧ tenantLead c = true)
    (fun c => beginScrub (tenantTell c 3))) ∧
  (RowTurnsAway (fun src tag => .tenancyScrub src tag) 0x6020 2 (leBytes 1 3) react (fun c => c.sec.ten.state ≠ 0 ∨ tenantLead c = false) 7) ∧
  (∀ c : Chip, (tenantLead c = false ↔ c.mode = .doublet ∧ c.unit1 = true) ∧ (c.mode ≠ .doublet → ∀ v, tenantTell c v = c)
    ∧ (c.mode = .doublet → ∀ v, tenantTell c v = emit c (.bridge 9 (leBytes 1 v)))) ∧
  (∀ (s : State) (t : Nat), s.sec.ten.state = 3 → s.sec.ten.step = 2 → s.sec.ten.endTick + obj s.toChip 0x6020 5 ≤ max s.clk.carillon (t % 2 ^ 64) →
    Becomes (.drainLimitExpiry t) s (drainLimit t s.toChip)) ∧
  (∀ s : State, s.sec.ten.state = 4 → s.sec.ten.scrubLeft = [] → (∀ x, x ∈ s.xf.chans → x.2.strokes = []) →
    (∀ x, x ∈ s.xf.sds → ∀ n, x.2.owner ≠ .scrub n) → Becomes .scrubComplete s (react (scrubDone s.toChip))) ∧
  (∀ c : Chip, (beginScrub c).sec.ten.state = 4 ∧ (beginScrub c).sec.ten.step = 6 ∧ bit (beginScrub c).clk.enables 4 = true ∧ bit (beginScrub c).clk.enables 9 = true
    ∧ (beginScrub c).sec.ten.scrubLeft = (0, unitNo c * 2 ^ 39, 2 ^ 39) :: (scrubRanges c).map (fun r => (2, r.1, r.2)) ∧ (beginScrub c).out = c.out ∧ (beginScrub c).bel = c.bel ∧ (beginScrub c).lap = c.lap) ∧
  (∀ c : Chip, (scrubDone c).sec.ten.state = 1 ∧ (scrubDone c).pat.pats = [] ∧ (scrubDone c).pat.launches = [] ∧ (scrubDone c).geo.maps = [] ∧ (scrubDone c).geo.frames = []
    ∧ (scrubDone c).geo.spUsed = [] ∧ (scrubDone c).geo.wpBlocks = [] ∧ (scrubDone c).coh.lines = [] ∧ (scrubDone c).xf.banks = [] ∧ (scrubDone c).bel.lanes = []
    ∧ obj (scrubDone c) 0x6020 3 = 0 ∧ (scrubDone c).sec.meas.logTotal = c.sec.meas.logTotal + 1)

/-- SPDM (R384, R387): discarded in BOOT, ResponseNotReady in an activation window; versions 1.2 and 1.3; certificates, challenges, measurements and key exchanges go through
the root of trust, slot 0 and blocks 1 to 8 only; a handshake that is finished is a session, at most 2 a transport, and only a session is ended, kept alive or updated.
IDE (R388, R389): key management travels in a session on the port's own DOE; KEY_PROG keeps a key, K_SET_GO makes the stream SECURE with that key set and the other no
longer in use, K_SET_STOP of the last set in use makes it INSECURE; both of the first are refused during a tenant end; a failed check makes the stream INSECURE with an
Alert of source 19 + 8p. -/
def Obligations.SpdmAndIdeAnswer : Prop :=
  (∀ (s : State) (t : Transport), spdmReach s.toChip t = true → s.mode = .boot →
    Becomes (.getVersion t) s s.toChip ∧ Becomes (.getCapabilities t) s s.toChip ∧ Becomes (.negotiateAlgorithms t) s s.toChip ∧ Becomes (.getDigests t) s s.toChip ∧
    Becomes (.keyExchange t) s s.toChip ∧ Becomes (.finish t) s s.toChip ∧ Becomes (.endSession t) s s.toChip ∧ Becomes (.spdmHeartbeat t) s s.toChip ∧ Becomes (.keyUpdate t) s s.toChip) ∧
  (∀ (s : State) (t : Transport), spdmReach s.toChip t = true → s.mode ≠ .boot → s.sec.fw.window = true →
    Becomes (.getVersion t) s (emit s.toChip (.spdm t 0x7F [0x42, 15, 1])) ∧ (∀ block, Becomes (.getMeasurements t block) s (emit s.toChip (.spdm t 0x7F [0x42, 15, 1])))) ∧
  (∀ (s : State) (t : Transport), spdmReach s.toChip t = true → s.mode ≠ .boot → s.sec.fw.window = false →
    Becomes (.getVersion t) s (emit s.toChip (.spdm t 4 [0x12, 0x13])) ∧
    (∃ bs, bs.length = 4 ∧ Becomes (.getCapabilities t) s (emit { s.toChip with free := s.free + 1 } (.spdm t 0x61 bs))) ∧
    (∃ bs, bs.length = 8 ∧ Becomes (.negotiateAlgorithms t) s (emit { s.toChip with free := s.free + 1 } (.spdm t 0x63 bs))) ∧
    (∃ bs, bs.length = 48 ∧ Becomes (.getDigests t) s (emit { s.toChip with free := s.free + 6 } (.spdm t 1 bs))) ∧
    (∀ off len, Becomes (.getCertificate t 0 off len) s (rotAsk s.toChip (.cert t off len))) ∧
    (∀ slot off len, slot ≠ 0 → Becomes (.getCertificate t slot off len) s (emit s.toChip (.spdm t 0x7F [1]))) ∧
    Becomes (.challenge t 0) s (rotAsk s.toChip (.random t 3 0)) ∧
    (∀ slot, slot ≠ 0 → Becomes (.challenge t slot) s (emit s.toChip (.spdm t 0x7F [1]))) ∧
    (∀ block, (1 ≤ block ∧ block ≤ 8) ∨ block = 0xFF → Becomes (.getMeasurements t block) s (rotAsk s.toChip (.random t 0x60 block))) ∧
    (∀ block, block = 0 ∨ (8 < block ∧ block ≠ 0xFF) → Becomes (.getMeasurements t block) s (emit s.toChip (.spdm t 0x7F [1]))) ∧
    (sessionsOf s.toChip t + handshakesOf s.toChip t < 2 → Becomes (.keyExchange t) s (rotAsk s.toChip (.random t 0x64 0))) ∧
    (2 ≤ sessionsOf s.toChip t + handshakesOf s.toChip t → Becomes (.keyExchange t) s (emit s.toChip (.spdm t 0x7F [0xA]))) ∧
    (handshakesOf s.toChip t ≠ 0 → sessionsOf s.toChip t < 2 →
      Becomes (.finish t) s (emit (setSessions s.toChip t (sessionsOf s.toChip t + 1) (handshakesOf s.toChip t - 1)) (.spdm t 0x65 []))) ∧
    (handshakesOf s.toChip t = 0 → Becomes (.finish t) s (emit s.toChip (.spdm t 0x7F [4]))) ∧
    (sessionsOf s.toChip t ≠ 0 → Becomes (.endSession t) s (emit (setSessions s.toChip t (sessionsOf s.toChip t - 1) (handshakesOf s.toChip t)) (.spdm t 0x6C [])) ∧
      Becomes (.spdmHeartbeat t) s (emit s.toChip (.spdm t 0x68 [])) ∧ Becomes (.keyUpdate t) s (emit s.toChip (.spdm t 0x69 []))) ∧
    (sessionsOf s.toChip t = 0 → Becomes (.endSession t) s (emit s.toChip (.spdm t 0x7F [4])) ∧
      Becomes (.spdmHeartbeat t) s (emit s.toChip (.spdm t 0x7F [4])) ∧ Becomes (.keyUpdate t) s (emit s.toChip (.spdm t 0x7F [4])))) ∧
  (∀ (c : Chip) (i : Nat), c.sec.fw.loader = true → 2 ≤ i → i ≤ 5 → blockValue c i = zeros 48) ∧
  (∀ (s : State) (p : HPort), spdmReach s.toChip (.doe p) = true → s.mode ≠ .boot → s.sec.fw.window = false → sessionsOf s.toChip (.doe p) ≠ 0 →
    Becomes (.ideQuery p) s (emit s.toChip (.spdm (.doe p) 0x101 (leBytes 1 (bits s.sec.spdm.streams (5 * portNo p) 5)))) ∧
    (∀ stream set key, stream < 5 → tenantEnding s.toChip = false → Becomes (.keyProg p stream set key) s
      (emit { s.toChip with sec := { s.sec with spdm := { s.sec.spdm with keys := tset s.sec.spdm.keys (ideKey p stream set) (2 * key) } } } (.spdm (.doe p) 0x103 [0]))) ∧
    (∀ stream set key, 5 ≤ stream ∨ tenantEnding s.toChip = true → Becomes (.keyProg p stream set key) s (emit s.toChip (.spdm (.doe p) 0x103 [1]))) ∧
    (∀ stream set k, stream < 5 → tenantEnding s.toChip = false → tget s.sec.spdm.keys (ideKey p stream set) = some k → Becomes (.kSetGo p stream set) s
      (emit { s.toChip with sec := { s.sec with spdm := { s.sec.spdm with
        streams := setBit s.sec.spdm.streams (5 * portNo p + stream) true
        keys := tmod (tset s.sec.spdm.keys (ideKey p stream set) (k / 2 * 2 + 1)) (ideKey p stream (!set)) fun x => x / 2 * 2 } } } (.spdm (.doe p) 0x106 [0]))) ∧
    (∀ stream set, tget s.sec.spdm.keys (ideKey p stream set) = none ∨ tenantEnding s.toChip = true →
      Becomes (.kSetGo p stream set) s (emit s.toChip (.spdm (.doe p) 0x106 [1]))) ∧
    (∀ stream set k, tget s.sec.spdm.keys (ideKey p stream set) = some k → tgetD s.sec.spdm.keys (ideKey p stream (!set)) 0 % 2 = 0 → Becomes (.kSetStop p stream set) s
      (emit { s.toChip with sec := { s.sec with spdm := { s.sec.spdm with
        streams := setBit s.sec.spdm.streams (5 * portNo p + stream) false, keys := tset s.sec.spdm.keys (ideKey p stream set) (k / 2 * 2) } } } (.spdm (.doe p) 0x106 [0]))) ∧
    (∀ stream set, tget s.sec.spdm.keys (ideKey p stream set) = none → Becomes (.kSetStop p stream set) s (emit s.toChip (.spdm (.doe p) 0x106 [1])))) ∧
  (∀ (s : State) (p : HPort), spdmReach s.toChip (.doe p) = true → s.mode ≠ .boot → s.sec.fw.window = false → sessionsOf s.toChip (.doe p) = 0 →
    Becomes (.ideQuery p) s (emit s.toChip (.spdm (.doe p) 0x7F [4])) ∧ (∀ stream set key, Becomes (.keyProg p stream set key) s (emit s.toChip (.spdm (.doe p) 0x7F [4])))) ∧
  (∀ (s : State) (p : HPort) (stream : Nat), stream < 5 → bit s.sec.spdm.streams (5 * portNo p + stream) = true →
    Becomes (.ideCheckFailure p stream) s (ideFail p stream s.toChip)) ∧
  (∀ (c : Chip) (p : HPort) (stream : Nat), stream < 5 → bit (ideFail p stream c).sec.spdm.streams (5 * portNo p + stream) = false
    ∧ (ideFail p stream c).toc.raised = c.toc.raised ++ [⟨19 + 8 * portNo p, stream, 2, 0⟩]
    ∧ (∀ set, tget (ideFail p stream c).sec.spdm.keys (ideKey p stream set) = none))

/-! Doublet (R276 to R298). -/

/-- The join (R280, R281): the trained bridge sends JOIN, unit 1 answers READY or its reason, unit 0 hands over its time and a copy of every mirrored entry, and at the join
tick both read DOUBLET; a reason, or the end of the join timeout, ends it as FAILED. Flushes, keepalives and the split (R277, R292 to R296): FLUSH is answered with
FLUSH_DONE, which ends the waits; the loss of the bridge splits a joined pair as ISOLATED, the partner's Fatal as PARTNER_ROUGH, and each unit is the lead of what it
holds; both end a running join instead. -/
def Obligations.UnitsJoinAndSplit : Prop :=
  (∀ s : State, s.dbl.bridge ≠ 2 → s.mode ≠ .boot → bit s.clk.enables 18 = true ∨ (s.unit1 = true ∧ s.mode = .rough ∧ s.rough.kind = 1 ∧ joinRequest s.toChip = true) → s.dbl.state ≠ 1 ∨ s.dbl.joinStep ≠ 1 →
    Becomes .bridgeUp s { s.toChip with clk := { s.clk with enables := setBit s.clk.enables 18 true }, dbl := { s.dbl with bridge := 2 } }) ∧
  (∀ s : State, s.dbl.bridge ≠ 2 → s.mode ≠ .boot → bit s.clk.enables 18 = true → s.dbl.state = 1 → s.dbl.joinStep = 1 →
    Becomes .bridgeUp s (emit { s.toChip with clk := { s.clk with enables := setBit s.clk.enables 18 true }, dbl := { s.dbl with bridge := 2, joinStep := 2 } }
      (.bridge 10 (leBytes 5 (pack [(stepping s.toChip, 1), (s.sec.fw.runVersion, 4)]))))) ∧
  (∀ (s : State) (step version : Nat), s.unit1 = true → s.dbl.bridge = 2 → joining s.toChip = false → s.mode = .rough ∨ s.mode = .normal → s.dbl.wasJoined = false →
    (joinReason s.toChip step version = 0 →
      Becomes (.joinMessage step version) s (emit (modDbl s.toChip fun d => { d with joinStep := 4, joinStart := s.clk.carillon }) (.bridge 11 [0]))) ∧
    (joinReason s.toChip step version ≠ 0 →
      Becomes (.joinMessage step version) s (emit (modDbl s.toChip fun d => { d with state := 3, reason := joinReason s.toChip step version, tick := s.clk.carillon })
        (.bridge 11 (leBytes 1 (joinReason s.toChip step version)))))) ∧
  (∀ (c : Chip) (step version : Nat), joinReason c step version = 0 ↔ c.mode = .rough ∧ c.rough.kind = 1 ∧ joinRequest c = true ∧ step = stepping c ∧ version = c.sec.fw.runVersion) ∧
  (∀ (s : State) (t : Nat), s.unit1 = false → s.dbl.bridge = 2 → s.dbl.state = 1 → s.dbl.joinStep = 2 → Becomes (.joinReady 0 t) s (joinCopy s.toChip)) ∧
  (∀ (s : State) (t : Nat), s.unit1 = true → s.dbl.bridge = 2 → s.dbl.joinStep = 4 → t < 2 ^ 64 →
    Becomes (.joinReady 0 t) s { s.toChip with clk := { s.clk with carillon := t }, dbl := { s.dbl with joinStep := 6, joinTick := t + 10000, seqs := [], partner := [] } }) ∧
  (∀ (s : State) (reason t : Nat), s.unit1 = false → s.dbl.bridge = 2 → s.dbl.state = 1 → s.dbl.joinStep = 2 → 1 ≤ reason → reason < 7 →
    Becomes (.joinReady reason t) s { s.toChip with dbl := { s.dbl with state := 3, reason := reason, joinStep := 0, tick := s.clk.carillon } }) ∧
  (∀ c : Chip, (joinCopy c).dbl.joinStep = 6 ∧ (joinCopy c).dbl.joinTick = c.clk.carillon + 10000 ∧ (∀ x, x ∈ mirrorEntries → seqOf (joinCopy c) (mirrorKey x.1 x.2) = 1)) ∧
  (∀ (s : State) (t : Nat), s.mode = .rough → s.rough.kind = 1 → s.dbl.joinStep = 6 → s.dbl.bridge = 2 → s.dbl.joinTick ≤ max s.clk.carillon (t % 2 ^ 64) →
    Answers (.joinTick t) s fun r => r.mode = .doublet ∧ r.dbl.state = 2 ∧ r.dbl.reason = 0 ∧ r.dbl.wasJoined = true ∧ r.dbl.joinStep = 0 ∧ r.dbl.tick = max s.clk.carillon (t % 2 ^ 64)
      ∧ r.rough.kind = 0 ∧ r.objs = s.objs ∧ r.sp = s.sp ∧ r.pat = s.pat ∧ r.lap = s.lap) ∧
  (∀ (s : State) (t : Nat), s.dbl.state = 1 → s.dbl.joinStart + obj s.toChip 0x4900 3 ≤ max s.clk.carillon (t % 2 ^ 64) → s.dbl.bridge = 2 →
    Becomes (.joinTimeout t) s (emit (joinFail (advance s.toChip t) 5) (.bridge 11 [5]))) ∧
  (∀ (s : State) (t : Nat), s.dbl.state = 1 → s.dbl.joinStart + obj s.toChip 0x4900 3 ≤ max s.clk.carillon (t % 2 ^ 64) → s.dbl.bridge ≠ 2 →
    Becomes (.joinTimeout t) s (joinFail (advance s.toChip t) 5)) ∧
  (∀ s : State, s.dbl.bridge = 2 → s.dbl.wasJoined = true → Becomes .bridgeFlush s (emit s.toChip (.bridge 14 []))) ∧
  (∀ s : State, s.dbl.flushing = true → s.dbl.bridge = 2 →
    Becomes .flushDone s (react (modDbl (flushed s.toChip s.dbl.flushFor) fun d => { d with flushing := false, flushFor := [] }))) ∧
  (∀ (s : State) (t : Nat), s.dbl.bridge = 2 → s.dbl.wasJoined = true → s.dbl.kaNext ≤ max s.clk.carillon (t % 2 ^ 64) →
    Becomes (.keepalive t) s (emit (modDbl (advance s.toChip t) fun d => { d with kaNext := max s.clk.carillon (t % 2 ^ 64) + 10000 }) (.bridge 15 []))) ∧
  (∀ (s : State) (t : Nat), s.dbl.bridge = 2 → joining s.toChip = false → s.mode = .doublet →
    Becomes (.bridgeLossTimeout t) s (splitEnter (modDbl (advance s.toChip t) fun d => { d with bridge := 0 }) 2)) ∧
  (∀ (s : State) (t : Nat), s.dbl.bridge = 2 → joining s.toChip = true →
    Becomes (.bridgeLossTimeout t) s { advance s.toChip t with dbl := { s.dbl with bridge := 0, state := 3, reason := 1, joinStep := 0, tick := max s.clk.carillon (t % 2 ^ 64) } }) ∧
  (∀ (s : State) (t : Nat), s.dbl.bridge = 2 → joining s.toChip = false → s.mode = .split → s.dbl.kind = 1 →
    Becomes (.bridgeLossTimeout t) s (react (isolate (modDbl (advance s.toChip t) fun d => { d with bridge := 0 })))) ∧
  (∀ (s : State) (t : Nat), s.dbl.bridge = 2 → joining s.toChip = false → s.mode = .normal → Becomes (.bridgeLossTimeout t) s (modDbl (advance s.toChip t) fun d => { d with bridge := 0 })) ∧
  (∀ s : State, s.dbl.bridge = 2 → joining s.toChip = true →
    Becomes .partnerFatal s { s.toChip with dbl := { s.dbl with state := 3, reason := 6, joinStep := 0, tick := s.clk.carillon } }) ∧
  (∀ s : State, s.dbl.bridge = 2 → joining s.toChip = false → s.dbl.wasJoined = true → s.mode = .doublet →
    Becomes .partnerFatal s (splitEnter (modDbl s.toChip fun d => { d with partnerRough := true }) 1)) ∧
  (∀ s : State, s.dbl.bridge = 2 → joining s.toChip = false → s.dbl.wasJoined = true → s.mode ≠ .doublet →
    Becomes .partnerFatal s (modDbl s.toChip fun d => { d with partnerRough := true })) ∧
  (∀ (c : Chip) (kind : Nat), splitEnter c kind = react (if kind = 2 then isolate (pairOver (lostClusters (raiseEv { c with
    mode := .split, dbl := { c.dbl with state := 4, kind := kind, lead := unitNo c, tick := c.clk.carillon, drained := false } } 183 0 2 0)))
    else pairOver (lostClusters (raiseEv { c with
    mode := .split, dbl := { c.dbl with state := 4, kind := kind, lead := unitNo c, tick := c.clk.carillon, drained := false } } 183 0 2 0)))) ∧
  (∀ c : Chip, (lostGrains c).bel = c.bel ∧ (lostGrains c).pat = c.pat ∧ (lostGrains c).dbl = c.dbl) ∧
  (∀ s : State, s.dbl.bridge = 2 → s.mode = .split → s.dbl.kind = 1 → s.dbl.drained = false →
    Becomes .partnerDrained s (react (flushed (modDbl s.toChip fun d => { d with drained := true }) ((s.pat.launches.filter fun x => x.2.bridge).map fun x => (x.2.q, x.2.e)))))

/-- Mirrored entries (R287 to R290): unit 1 applies the next update, or a whole copy, and acknowledges it; ignores one that is not newer; asks for the whole entry when it has
missed one. Unit 0 answers the write when the acknowledgement comes. The audit passes equal entries, rewrites one that fell behind, and freezes and rewrites one whose
content differs. -/
def Obligations.MirroredEntriesStayEqual : Prop :=
  (∀ (s : State) (num seq : Nat) (content : Bytes), s.unit1 = true → s.dbl.bridge = 2 → s.mode = .doublet → num < 1024 → content ≠ [] → 9 ≤ (content.drop 1).length → bfld (content.drop 1) 0 1 ≤ 4 →
    Becomes (.mirrorUpdate .pattern num seq content) s (mirrorUpdate s.toChip .pattern num seq (bfld content 0 1 == 1) (content.drop 1))) ∧
  (∀ (s : State) (seq : Nat) (content : Bytes), s.unit1 = true → s.dbl.bridge = 2 → s.mode = .doublet → content.length = 5 →
    Becomes (.mirrorUpdate .package 0 seq content) s (mirrorUpdate s.toChip .package 0 seq (bfld content 0 1 == 1) (content.drop 1))) ∧
  (∀ (c d : Chip) (k : MirrorKind) (n seq : Nat) (whole : Bool) (bs : Bytes), whole = true ∨ seqAhead seq (seqOf c (mirrorKey k n)) = 1 →
    d = emit (stat (takeMirror (modDbl c fun d => { d with
      seqs := tset d.seqs (mirrorKey k n) (seq % 2 ^ 32), partner := tset d.partner (mirrorKey k n) (seq % 2 ^ 32), remirror := d.remirror.filter (· != mirrorKey k n) }) k n bs)
      0x704A 3 1) (.bridge 16 (entryHead k n seq)) →
    mirrorUpdate c k n seq whole bs = react d) ∧
  (∀ (c : Chip) (k : MirrorKind) (n seq : Nat) (bs : Bytes), c.dbl.remirror = [] → 1 < seqAhead seq (seqOf c (mirrorKey k n)) → seqAhead seq (seqOf c (mirrorKey k n)) < 2 ^ 31 →
    mirrorUpdate c k n seq false bs = emit c (.bridge 13 (entryHead k n (seqOf c (mirrorKey k n))))) ∧
  (∀ (c : Chip) (k : MirrorKind) (n seq : Nat) (bs : Bytes), c.dbl.remirror = [] →
    seqAhead seq (seqOf c (mirrorKey k n)) = 0 ∨ 2 ^ 31 ≤ seqAhead seq (seqOf c (mirrorKey k n)) → mirrorUpdate c k n seq false bs = c) ∧
  (∀ (s : State) (k : MirrorKind) (num : Nat), leadsMirror s.toChip = true → s.dbl.bridge = 2 → (firstWait s.toChip k num).isSome = true →
    Becomes (.mirrorAck k num) s (mirrorAck s.toChip k num)) ∧
  (∀ (c : Chip) (k : MirrorKind) (n : Nat) (w : MirrorWait) (src : Src) (rq : Req), firstWait c k n = some w → w.req = some (src, rq) →
    mirrorAck c k n = react (unfreeze (post (modDbl c fun d => { d with waits := ldel d.waits (· == w), partner := tset d.partner (mirrorKey k n) w.seq }) src rq 0
      (totalOf (modDbl c fun d => { d with waits := ldel d.waits (· == w), partner := tset d.partner (mirrorKey k n) w.seq }) rq) []) k n)) ∧
  (∀ (s : State) (k : MirrorKind) (num seq : Nat) (digest : Bytes), leadsMirror s.toChip = true → s.dbl.bridge = 2 → mirrorNum k num = true → obj s.toChip 0x4900 5 ≠ 0 →
    firstWait s.toChip k num = none → digest.length = 48 → Becomes (.mirrorAudit k num seq digest) s (audit s.toChip k num seq digest)) ∧
  (∀ (c : Chip) (k : MirrorKind) (n seq : Nat) (digest : Bytes), seq % 2 ^ 32 = seqOf c (mirrorKey k n) →
    digest = auditDigest (modDbl c fun d => { d with partner := tset d.partner (mirrorKey k n) (seq % 2 ^ 32) }) k n →
    audit c k n seq digest = modDbl c fun d => { d with partner := tset d.partner (mirrorKey k n) (seq % 2 ^ 32) }) ∧
  (∀ (c : Chip) (n seq : Nat) (digest : Bytes), seq % 2 ^ 32 = seqOf c (mirrorKey .space n) → (getSpace c n).state = 2 →
    digest ≠ auditDigest (modDbl c fun d => { d with partner := tset d.partner (mirrorKey .space n) (seq % 2 ^ 32) }) .space n →
    (getSpace (audit c .space n seq digest) n).state = 4 ∧ (audit c .space n seq digest).toc.raised = c.toc.raised ++ [⟨182, n, 2, mirrorCode .space⟩])
end

