-- ==== Sys2Proof/Laws/State.lean ====
section
/-! SUPPORT. What each update of the state leaves alone: one lemma per field and update. -/

namespace Sys2Proof.Machine

variable (c : Chip)

/-! `emit` writes out. -/

@[simp] theorem emit_unit1 (e : Emit) : (emit c e).unit1 = c.unit1 := rfl
@[simp] theorem emit_mode (e : Emit) : (emit c e).mode = c.mode := rfl
@[simp] theorem emit_rough (e : Emit) : (emit c e).rough = c.rough := rfl
@[simp] theorem emit_boot (e : Emit) : (emit c e).boot = c.boot := rfl
@[simp] theorem emit_objs (e : Emit) : (emit c e).objs = c.objs := rfl
@[simp] theorem emit_dict (e : Emit) : (emit c e).dict = c.dict := rfl
@[simp] theorem emit_toc (e : Emit) : (emit c e).toc = c.toc := rfl
@[simp] theorem emit_sp (e : Emit) : (emit c e).sp = c.sp := rfl
@[simp] theorem emit_geo (e : Emit) : (emit c e).geo = c.geo := rfl
@[simp] theorem emit_xf (e : Emit) : (emit c e).xf = c.xf := rfl
@[simp] theorem emit_lap (e : Emit) : (emit c e).lap = c.lap := rfl
@[simp] theorem emit_bel (e : Emit) : (emit c e).bel = c.bel := rfl
@[simp] theorem emit_pat (e : Emit) : (emit c e).pat = c.pat := rfl
@[simp] theorem emit_peer (e : Emit) : (emit c e).peer = c.peer := rfl
@[simp] theorem emit_coh (e : Emit) : (emit c e).coh = c.coh := rfl
@[simp] theorem emit_dbl (e : Emit) : (emit c e).dbl = c.dbl := rfl
@[simp] theorem emit_port (e : Emit) : (emit c e).port = c.port := rfl
@[simp] theorem emit_clk (e : Emit) : (emit c e).clk = c.clk := rfl
@[simp] theorem emit_sec (e : Emit) : (emit c e).sec = c.sec := rfl
@[simp] theorem emit_free (e : Emit) : (emit c e).free = c.free := rfl

/-! `raiseEv` writes toc. -/

@[simp] theorem raiseEv_unit1 (n e l d : Nat) : (raiseEv c n e l d).unit1 = c.unit1 := rfl
@[simp] theorem raiseEv_mode (n e l d : Nat) : (raiseEv c n e l d).mode = c.mode := rfl
@[simp] theorem raiseEv_rough (n e l d : Nat) : (raiseEv c n e l d).rough = c.rough := rfl
@[simp] theorem raiseEv_boot (n e l d : Nat) : (raiseEv c n e l d).boot = c.boot := rfl
@[simp] theorem raiseEv_objs (n e l d : Nat) : (raiseEv c n e l d).objs = c.objs := rfl
@[simp] theorem raiseEv_dict (n e l d : Nat) : (raiseEv c n e l d).dict = c.dict := rfl
@[simp] theorem raiseEv_sp (n e l d : Nat) : (raiseEv c n e l d).sp = c.sp := rfl
@[simp] theorem raiseEv_geo (n e l d : Nat) : (raiseEv c n e l d).geo = c.geo := rfl
@[simp] theorem raiseEv_xf (n e l d : Nat) : (raiseEv c n e l d).xf = c.xf := rfl
@[simp] theorem raiseEv_lap (n e l d : Nat) : (raiseEv c n e l d).lap = c.lap := rfl
@[simp] theorem raiseEv_bel (n e l d : Nat) : (raiseEv c n e l d).bel = c.bel := rfl
@[simp] theorem raiseEv_pat (n e l d : Nat) : (raiseEv c n e l d).pat = c.pat := rfl
@[simp] theorem raiseEv_peer (n e l d : Nat) : (raiseEv c n e l d).peer = c.peer := rfl
@[simp] theorem raiseEv_coh (n e l d : Nat) : (raiseEv c n e l d).coh = c.coh := rfl
@[simp] theorem raiseEv_dbl (n e l d : Nat) : (raiseEv c n e l d).dbl = c.dbl := rfl
@[simp] theorem raiseEv_port (n e l d : Nat) : (raiseEv c n e l d).port = c.port := rfl
@[simp] theorem raiseEv_clk (n e l d : Nat) : (raiseEv c n e l d).clk = c.clk := rfl
@[simp] theorem raiseEv_sec (n e l d : Nat) : (raiseEv c n e l d).sec = c.sec := rfl
@[simp] theorem raiseEv_free (n e l d : Nat) : (raiseEv c n e l d).free = c.free := rfl
@[simp] theorem raiseEv_out (n e l d : Nat) : (raiseEv c n e l d).out = c.out := rfl

/-! `advance` writes clk. -/

@[simp] theorem advance_unit1 (t : Nat) : (advance c t).unit1 = c.unit1 := rfl
@[simp] theorem advance_mode (t : Nat) : (advance c t).mode = c.mode := rfl
@[simp] theorem advance_rough (t : Nat) : (advance c t).rough = c.rough := rfl
@[simp] theorem advance_boot (t : Nat) : (advance c t).boot = c.boot := rfl
@[simp] theorem advance_objs (t : Nat) : (advance c t).objs = c.objs := rfl
@[simp] theorem advance_dict (t : Nat) : (advance c t).dict = c.dict := rfl
@[simp] theorem advance_toc (t : Nat) : (advance c t).toc = c.toc := rfl
@[simp] theorem advance_sp (t : Nat) : (advance c t).sp = c.sp := rfl
@[simp] theorem advance_geo (t : Nat) : (advance c t).geo = c.geo := rfl
@[simp] theorem advance_xf (t : Nat) : (advance c t).xf = c.xf := rfl
@[simp] theorem advance_lap (t : Nat) : (advance c t).lap = c.lap := rfl
@[simp] theorem advance_bel (t : Nat) : (advance c t).bel = c.bel := rfl
@[simp] theorem advance_pat (t : Nat) : (advance c t).pat = c.pat := rfl
@[simp] theorem advance_peer (t : Nat) : (advance c t).peer = c.peer := rfl
@[simp] theorem advance_coh (t : Nat) : (advance c t).coh = c.coh := rfl
@[simp] theorem advance_dbl (t : Nat) : (advance c t).dbl = c.dbl := rfl
@[simp] theorem advance_port (t : Nat) : (advance c t).port = c.port := rfl
@[simp] theorem advance_sec (t : Nat) : (advance c t).sec = c.sec := rfl
@[simp] theorem advance_free (t : Nat) : (advance c t).free = c.free := rfl
@[simp] theorem advance_out (t : Nat) : (advance c t).out = c.out := rfl

/-! `setObj` writes objs. -/

@[simp] theorem setObj_unit1 (i s v : Nat) : (setObj c i s v).unit1 = c.unit1 := rfl
@[simp] theorem setObj_mode (i s v : Nat) : (setObj c i s v).mode = c.mode := rfl
@[simp] theorem setObj_rough (i s v : Nat) : (setObj c i s v).rough = c.rough := rfl
@[simp] theorem setObj_boot (i s v : Nat) : (setObj c i s v).boot = c.boot := rfl
@[simp] theorem setObj_dict (i s v : Nat) : (setObj c i s v).dict = c.dict := rfl
@[simp] theorem setObj_toc (i s v : Nat) : (setObj c i s v).toc = c.toc := rfl
@[simp] theorem setObj_sp (i s v : Nat) : (setObj c i s v).sp = c.sp := rfl
@[simp] theorem setObj_geo (i s v : Nat) : (setObj c i s v).geo = c.geo := rfl
@[simp] theorem setObj_xf (i s v : Nat) : (setObj c i s v).xf = c.xf := rfl
@[simp] theorem setObj_lap (i s v : Nat) : (setObj c i s v).lap = c.lap := rfl
@[simp] theorem setObj_bel (i s v : Nat) : (setObj c i s v).bel = c.bel := rfl
@[simp] theorem setObj_pat (i s v : Nat) : (setObj c i s v).pat = c.pat := rfl
@[simp] theorem setObj_peer (i s v : Nat) : (setObj c i s v).peer = c.peer := rfl
@[simp] theorem setObj_coh (i s v : Nat) : (setObj c i s v).coh = c.coh := rfl
@[simp] theorem setObj_dbl (i s v : Nat) : (setObj c i s v).dbl = c.dbl := rfl
@[simp] theorem setObj_port (i s v : Nat) : (setObj c i s v).port = c.port := rfl
@[simp] theorem setObj_clk (i s v : Nat) : (setObj c i s v).clk = c.clk := rfl
@[simp] theorem setObj_sec (i s v : Nat) : (setObj c i s v).sec = c.sec := rfl
@[simp] theorem setObj_free (i s v : Nat) : (setObj c i s v).free = c.free := rfl
@[simp] theorem setObj_out (i s v : Nat) : (setObj c i s v).out = c.out := rfl

/-! `clearObj` writes objs. -/

@[simp] theorem clearObj_unit1 (i s : Nat) : (clearObj c i s).unit1 = c.unit1 := rfl
@[simp] theorem clearObj_mode (i s : Nat) : (clearObj c i s).mode = c.mode := rfl
@[simp] theorem clearObj_rough (i s : Nat) : (clearObj c i s).rough = c.rough := rfl
@[simp] theorem clearObj_boot (i s : Nat) : (clearObj c i s).boot = c.boot := rfl
@[simp] theorem clearObj_dict (i s : Nat) : (clearObj c i s).dict = c.dict := rfl
@[simp] theorem clearObj_toc (i s : Nat) : (clearObj c i s).toc = c.toc := rfl
@[simp] theorem clearObj_sp (i s : Nat) : (clearObj c i s).sp = c.sp := rfl
@[simp] theorem clearObj_geo (i s : Nat) : (clearObj c i s).geo = c.geo := rfl
@[simp] theorem clearObj_xf (i s : Nat) : (clearObj c i s).xf = c.xf := rfl
@[simp] theorem clearObj_lap (i s : Nat) : (clearObj c i s).lap = c.lap := rfl
@[simp] theorem clearObj_bel (i s : Nat) : (clearObj c i s).bel = c.bel := rfl
@[simp] theorem clearObj_pat (i s : Nat) : (clearObj c i s).pat = c.pat := rfl
@[simp] theorem clearObj_peer (i s : Nat) : (clearObj c i s).peer = c.peer := rfl
@[simp] theorem clearObj_coh (i s : Nat) : (clearObj c i s).coh = c.coh := rfl
@[simp] theorem clearObj_dbl (i s : Nat) : (clearObj c i s).dbl = c.dbl := rfl
@[simp] theorem clearObj_port (i s : Nat) : (clearObj c i s).port = c.port := rfl
@[simp] theorem clearObj_clk (i s : Nat) : (clearObj c i s).clk = c.clk := rfl
@[simp] theorem clearObj_sec (i s : Nat) : (clearObj c i s).sec = c.sec := rfl
@[simp] theorem clearObj_free (i s : Nat) : (clearObj c i s).free = c.free := rfl
@[simp] theorem clearObj_out (i s : Nat) : (clearObj c i s).out = c.out := rfl

/-! `stat` writes objs. -/

@[simp] theorem stat_unit1 (i s n : Nat) : (stat c i s n).unit1 = c.unit1 := rfl
@[simp] theorem stat_mode (i s n : Nat) : (stat c i s n).mode = c.mode := rfl
@[simp] theorem stat_rough (i s n : Nat) : (stat c i s n).rough = c.rough := rfl
@[simp] theorem stat_boot (i s n : Nat) : (stat c i s n).boot = c.boot := rfl
@[simp] theorem stat_dict (i s n : Nat) : (stat c i s n).dict = c.dict := rfl
@[simp] theorem stat_toc (i s n : Nat) : (stat c i s n).toc = c.toc := rfl
@[simp] theorem stat_sp (i s n : Nat) : (stat c i s n).sp = c.sp := rfl
@[simp] theorem stat_geo (i s n : Nat) : (stat c i s n).geo = c.geo := rfl
@[simp] theorem stat_xf (i s n : Nat) : (stat c i s n).xf = c.xf := rfl
@[simp] theorem stat_lap (i s n : Nat) : (stat c i s n).lap = c.lap := rfl
@[simp] theorem stat_bel (i s n : Nat) : (stat c i s n).bel = c.bel := rfl
@[simp] theorem stat_pat (i s n : Nat) : (stat c i s n).pat = c.pat := rfl
@[simp] theorem stat_peer (i s n : Nat) : (stat c i s n).peer = c.peer := rfl
@[simp] theorem stat_coh (i s n : Nat) : (stat c i s n).coh = c.coh := rfl
@[simp] theorem stat_dbl (i s n : Nat) : (stat c i s n).dbl = c.dbl := rfl
@[simp] theorem stat_port (i s n : Nat) : (stat c i s n).port = c.port := rfl
@[simp] theorem stat_clk (i s n : Nat) : (stat c i s n).clk = c.clk := rfl
@[simp] theorem stat_sec (i s n : Nat) : (stat c i s n).sec = c.sec := rfl
@[simp] theorem stat_free (i s n : Nat) : (stat c i s n).free = c.free := rfl
@[simp] theorem stat_out (i s n : Nat) : (stat c i s n).out = c.out := rfl

/-! `modPort` writes port. -/

@[simp] theorem modPort_unit1 (p : HPort) (f : Port → Port) : (modPort c p f).unit1 = c.unit1 := rfl
@[simp] theorem modPort_mode (p : HPort) (f : Port → Port) : (modPort c p f).mode = c.mode := rfl
@[simp] theorem modPort_rough (p : HPort) (f : Port → Port) : (modPort c p f).rough = c.rough := rfl
@[simp] theorem modPort_boot (p : HPort) (f : Port → Port) : (modPort c p f).boot = c.boot := rfl
@[simp] theorem modPort_objs (p : HPort) (f : Port → Port) : (modPort c p f).objs = c.objs := rfl
@[simp] theorem modPort_dict (p : HPort) (f : Port → Port) : (modPort c p f).dict = c.dict := rfl
@[simp] theorem modPort_toc (p : HPort) (f : Port → Port) : (modPort c p f).toc = c.toc := rfl
@[simp] theorem modPort_sp (p : HPort) (f : Port → Port) : (modPort c p f).sp = c.sp := rfl
@[simp] theorem modPort_geo (p : HPort) (f : Port → Port) : (modPort c p f).geo = c.geo := rfl
@[simp] theorem modPort_xf (p : HPort) (f : Port → Port) : (modPort c p f).xf = c.xf := rfl
@[simp] theorem modPort_lap (p : HPort) (f : Port → Port) : (modPort c p f).lap = c.lap := rfl
@[simp] theorem modPort_bel (p : HPort) (f : Port → Port) : (modPort c p f).bel = c.bel := rfl
@[simp] theorem modPort_pat (p : HPort) (f : Port → Port) : (modPort c p f).pat = c.pat := rfl
@[simp] theorem modPort_peer (p : HPort) (f : Port → Port) : (modPort c p f).peer = c.peer := rfl
@[simp] theorem modPort_coh (p : HPort) (f : Port → Port) : (modPort c p f).coh = c.coh := rfl
@[simp] theorem modPort_dbl (p : HPort) (f : Port → Port) : (modPort c p f).dbl = c.dbl := rfl
@[simp] theorem modPort_clk (p : HPort) (f : Port → Port) : (modPort c p f).clk = c.clk := rfl
@[simp] theorem modPort_sec (p : HPort) (f : Port → Port) : (modPort c p f).sec = c.sec := rfl
@[simp] theorem modPort_free (p : HPort) (f : Port → Port) : (modPort c p f).free = c.free := rfl
@[simp] theorem modPort_out (p : HPort) (f : Port → Port) : (modPort c p f).out = c.out := rfl

/-! `takeFree` writes free. -/

@[simp] theorem takeFree_unit1 (w : Nat) : ((takeFree c w).2).unit1 = c.unit1 := rfl
@[simp] theorem takeFree_mode (w : Nat) : ((takeFree c w).2).mode = c.mode := rfl
@[simp] theorem takeFree_rough (w : Nat) : ((takeFree c w).2).rough = c.rough := rfl
@[simp] theorem takeFree_boot (w : Nat) : ((takeFree c w).2).boot = c.boot := rfl
@[simp] theorem takeFree_objs (w : Nat) : ((takeFree c w).2).objs = c.objs := rfl
@[simp] theorem takeFree_dict (w : Nat) : ((takeFree c w).2).dict = c.dict := rfl
@[simp] theorem takeFree_toc (w : Nat) : ((takeFree c w).2).toc = c.toc := rfl
@[simp] theorem takeFree_sp (w : Nat) : ((takeFree c w).2).sp = c.sp := rfl
@[simp] theorem takeFree_geo (w : Nat) : ((takeFree c w).2).geo = c.geo := rfl
@[simp] theorem takeFree_xf (w : Nat) : ((takeFree c w).2).xf = c.xf := rfl
@[simp] theorem takeFree_lap (w : Nat) : ((takeFree c w).2).lap = c.lap := rfl
@[simp] theorem takeFree_bel (w : Nat) : ((takeFree c w).2).bel = c.bel := rfl
@[simp] theorem takeFree_pat (w : Nat) : ((takeFree c w).2).pat = c.pat := rfl
@[simp] theorem takeFree_peer (w : Nat) : ((takeFree c w).2).peer = c.peer := rfl
@[simp] theorem takeFree_coh (w : Nat) : ((takeFree c w).2).coh = c.coh := rfl
@[simp] theorem takeFree_dbl (w : Nat) : ((takeFree c w).2).dbl = c.dbl := rfl
@[simp] theorem takeFree_port (w : Nat) : ((takeFree c w).2).port = c.port := rfl
@[simp] theorem takeFree_clk (w : Nat) : ((takeFree c w).2).clk = c.clk := rfl
@[simp] theorem takeFree_sec (w : Nat) : ((takeFree c w).2).sec = c.sec := rfl
@[simp] theorem takeFree_out (w : Nat) : ((takeFree c w).2).out = c.out := rfl

/-! `setSpace` writes sp. -/

@[simp] theorem setSpace_unit1 (s : Nat) (v : Space) : (setSpace c s v).unit1 = c.unit1 := rfl
@[simp] theorem setSpace_mode (s : Nat) (v : Space) : (setSpace c s v).mode = c.mode := rfl
@[simp] theorem setSpace_rough (s : Nat) (v : Space) : (setSpace c s v).rough = c.rough := rfl
@[simp] theorem setSpace_boot (s : Nat) (v : Space) : (setSpace c s v).boot = c.boot := rfl
@[simp] theorem setSpace_objs (s : Nat) (v : Space) : (setSpace c s v).objs = c.objs := rfl
@[simp] theorem setSpace_dict (s : Nat) (v : Space) : (setSpace c s v).dict = c.dict := rfl
@[simp] theorem setSpace_toc (s : Nat) (v : Space) : (setSpace c s v).toc = c.toc := rfl
@[simp] theorem setSpace_geo (s : Nat) (v : Space) : (setSpace c s v).geo = c.geo := rfl
@[simp] theorem setSpace_xf (s : Nat) (v : Space) : (setSpace c s v).xf = c.xf := rfl
@[simp] theorem setSpace_lap (s : Nat) (v : Space) : (setSpace c s v).lap = c.lap := rfl
@[simp] theorem setSpace_bel (s : Nat) (v : Space) : (setSpace c s v).bel = c.bel := rfl
@[simp] theorem setSpace_pat (s : Nat) (v : Space) : (setSpace c s v).pat = c.pat := rfl
@[simp] theorem setSpace_peer (s : Nat) (v : Space) : (setSpace c s v).peer = c.peer := rfl
@[simp] theorem setSpace_coh (s : Nat) (v : Space) : (setSpace c s v).coh = c.coh := rfl
@[simp] theorem setSpace_dbl (s : Nat) (v : Space) : (setSpace c s v).dbl = c.dbl := rfl
@[simp] theorem setSpace_port (s : Nat) (v : Space) : (setSpace c s v).port = c.port := rfl
@[simp] theorem setSpace_clk (s : Nat) (v : Space) : (setSpace c s v).clk = c.clk := rfl
@[simp] theorem setSpace_sec (s : Nat) (v : Space) : (setSpace c s v).sec = c.sec := rfl
@[simp] theorem setSpace_free (s : Nat) (v : Space) : (setSpace c s v).free = c.free := rfl
@[simp] theorem setSpace_out (s : Nat) (v : Space) : (setSpace c s v).out = c.out := rfl

/-! `modSpace` writes sp. -/

@[simp] theorem modSpace_unit1 (s : Nat) (f : Space → Space) : (modSpace c s f).unit1 = c.unit1 := rfl
@[simp] theorem modSpace_mode (s : Nat) (f : Space → Space) : (modSpace c s f).mode = c.mode := rfl
@[simp] theorem modSpace_rough (s : Nat) (f : Space → Space) : (modSpace c s f).rough = c.rough := rfl
@[simp] theorem modSpace_boot (s : Nat) (f : Space → Space) : (modSpace c s f).boot = c.boot := rfl
@[simp] theorem modSpace_objs (s : Nat) (f : Space → Space) : (modSpace c s f).objs = c.objs := rfl
@[simp] theorem modSpace_dict (s : Nat) (f : Space → Space) : (modSpace c s f).dict = c.dict := rfl
@[simp] theorem modSpace_toc (s : Nat) (f : Space → Space) : (modSpace c s f).toc = c.toc := rfl
@[simp] theorem modSpace_geo (s : Nat) (f : Space → Space) : (modSpace c s f).geo = c.geo := rfl
@[simp] theorem modSpace_xf (s : Nat) (f : Space → Space) : (modSpace c s f).xf = c.xf := rfl
@[simp] theorem modSpace_lap (s : Nat) (f : Space → Space) : (modSpace c s f).lap = c.lap := rfl
@[simp] theorem modSpace_bel (s : Nat) (f : Space → Space) : (modSpace c s f).bel = c.bel := rfl
@[simp] theorem modSpace_pat (s : Nat) (f : Space → Space) : (modSpace c s f).pat = c.pat := rfl
@[simp] theorem modSpace_peer (s : Nat) (f : Space → Space) : (modSpace c s f).peer = c.peer := rfl
@[simp] theorem modSpace_coh (s : Nat) (f : Space → Space) : (modSpace c s f).coh = c.coh := rfl
@[simp] theorem modSpace_dbl (s : Nat) (f : Space → Space) : (modSpace c s f).dbl = c.dbl := rfl
@[simp] theorem modSpace_port (s : Nat) (f : Space → Space) : (modSpace c s f).port = c.port := rfl
@[simp] theorem modSpace_clk (s : Nat) (f : Space → Space) : (modSpace c s f).clk = c.clk := rfl
@[simp] theorem modSpace_sec (s : Nat) (f : Space → Space) : (modSpace c s f).sec = c.sec := rfl
@[simp] theorem modSpace_free (s : Nat) (f : Space → Space) : (modSpace c s f).free = c.free := rfl
@[simp] theorem modSpace_out (s : Nat) (f : Space → Space) : (modSpace c s f).out = c.out := rfl

/-! `setQueue` writes bel. -/

@[simp] theorem setQueue_unit1 (q : Nat) (v : Queue) : (setQueue c q v).unit1 = c.unit1 := rfl
@[simp] theorem setQueue_mode (q : Nat) (v : Queue) : (setQueue c q v).mode = c.mode := rfl
@[simp] theorem setQueue_rough (q : Nat) (v : Queue) : (setQueue c q v).rough = c.rough := rfl
@[simp] theorem setQueue_boot (q : Nat) (v : Queue) : (setQueue c q v).boot = c.boot := rfl
@[simp] theorem setQueue_objs (q : Nat) (v : Queue) : (setQueue c q v).objs = c.objs := rfl
@[simp] theorem setQueue_dict (q : Nat) (v : Queue) : (setQueue c q v).dict = c.dict := rfl
@[simp] theorem setQueue_toc (q : Nat) (v : Queue) : (setQueue c q v).toc = c.toc := rfl
@[simp] theorem setQueue_sp (q : Nat) (v : Queue) : (setQueue c q v).sp = c.sp := rfl
@[simp] theorem setQueue_geo (q : Nat) (v : Queue) : (setQueue c q v).geo = c.geo := rfl
@[simp] theorem setQueue_xf (q : Nat) (v : Queue) : (setQueue c q v).xf = c.xf := rfl
@[simp] theorem setQueue_lap (q : Nat) (v : Queue) : (setQueue c q v).lap = c.lap := rfl
@[simp] theorem setQueue_pat (q : Nat) (v : Queue) : (setQueue c q v).pat = c.pat := rfl
@[simp] theorem setQueue_peer (q : Nat) (v : Queue) : (setQueue c q v).peer = c.peer := rfl
@[simp] theorem setQueue_coh (q : Nat) (v : Queue) : (setQueue c q v).coh = c.coh := rfl
@[simp] theorem setQueue_dbl (q : Nat) (v : Queue) : (setQueue c q v).dbl = c.dbl := rfl
@[simp] theorem setQueue_port (q : Nat) (v : Queue) : (setQueue c q v).port = c.port := rfl
@[simp] theorem setQueue_clk (q : Nat) (v : Queue) : (setQueue c q v).clk = c.clk := rfl
@[simp] theorem setQueue_sec (q : Nat) (v : Queue) : (setQueue c q v).sec = c.sec := rfl
@[simp] theorem setQueue_free (q : Nat) (v : Queue) : (setQueue c q v).free = c.free := rfl
@[simp] theorem setQueue_out (q : Nat) (v : Queue) : (setQueue c q v).out = c.out := rfl

/-! `modQueue` writes bel. -/

@[simp] theorem modQueue_unit1 (q : Nat) (f : Queue → Queue) : (modQueue c q f).unit1 = c.unit1 := rfl
@[simp] theorem modQueue_mode (q : Nat) (f : Queue → Queue) : (modQueue c q f).mode = c.mode := rfl
@[simp] theorem modQueue_rough (q : Nat) (f : Queue → Queue) : (modQueue c q f).rough = c.rough := rfl
@[simp] theorem modQueue_boot (q : Nat) (f : Queue → Queue) : (modQueue c q f).boot = c.boot := rfl
@[simp] theorem modQueue_objs (q : Nat) (f : Queue → Queue) : (modQueue c q f).objs = c.objs := rfl
@[simp] theorem modQueue_dict (q : Nat) (f : Queue → Queue) : (modQueue c q f).dict = c.dict := rfl
@[simp] theorem modQueue_toc (q : Nat) (f : Queue → Queue) : (modQueue c q f).toc = c.toc := rfl
@[simp] theorem modQueue_sp (q : Nat) (f : Queue → Queue) : (modQueue c q f).sp = c.sp := rfl
@[simp] theorem modQueue_geo (q : Nat) (f : Queue → Queue) : (modQueue c q f).geo = c.geo := rfl
@[simp] theorem modQueue_xf (q : Nat) (f : Queue → Queue) : (modQueue c q f).xf = c.xf := rfl
@[simp] theorem modQueue_lap (q : Nat) (f : Queue → Queue) : (modQueue c q f).lap = c.lap := rfl
@[simp] theorem modQueue_pat (q : Nat) (f : Queue → Queue) : (modQueue c q f).pat = c.pat := rfl
@[simp] theorem modQueue_peer (q : Nat) (f : Queue → Queue) : (modQueue c q f).peer = c.peer := rfl
@[simp] theorem modQueue_coh (q : Nat) (f : Queue → Queue) : (modQueue c q f).coh = c.coh := rfl
@[simp] theorem modQueue_dbl (q : Nat) (f : Queue → Queue) : (modQueue c q f).dbl = c.dbl := rfl
@[simp] theorem modQueue_port (q : Nat) (f : Queue → Queue) : (modQueue c q f).port = c.port := rfl
@[simp] theorem modQueue_clk (q : Nat) (f : Queue → Queue) : (modQueue c q f).clk = c.clk := rfl
@[simp] theorem modQueue_sec (q : Nat) (f : Queue → Queue) : (modQueue c q f).sec = c.sec := rfl
@[simp] theorem modQueue_free (q : Nat) (f : Queue → Queue) : (modQueue c q f).free = c.free := rfl
@[simp] theorem modQueue_out (q : Nat) (f : Queue → Queue) : (modQueue c q f).out = c.out := rfl

/-! `setChan` writes xf. -/

@[simp] theorem setChan_unit1 (k : Nat) (v : Channel) : (setChan c k v).unit1 = c.unit1 := rfl
@[simp] theorem setChan_mode (k : Nat) (v : Channel) : (setChan c k v).mode = c.mode := rfl
@[simp] theorem setChan_rough (k : Nat) (v : Channel) : (setChan c k v).rough = c.rough := rfl
@[simp] theorem setChan_boot (k : Nat) (v : Channel) : (setChan c k v).boot = c.boot := rfl
@[simp] theorem setChan_objs (k : Nat) (v : Channel) : (setChan c k v).objs = c.objs := rfl
@[simp] theorem setChan_dict (k : Nat) (v : Channel) : (setChan c k v).dict = c.dict := rfl
@[simp] theorem setChan_toc (k : Nat) (v : Channel) : (setChan c k v).toc = c.toc := rfl
@[simp] theorem setChan_sp (k : Nat) (v : Channel) : (setChan c k v).sp = c.sp := rfl
@[simp] theorem setChan_geo (k : Nat) (v : Channel) : (setChan c k v).geo = c.geo := rfl
@[simp] theorem setChan_lap (k : Nat) (v : Channel) : (setChan c k v).lap = c.lap := rfl
@[simp] theorem setChan_bel (k : Nat) (v : Channel) : (setChan c k v).bel = c.bel := rfl
@[simp] theorem setChan_pat (k : Nat) (v : Channel) : (setChan c k v).pat = c.pat := rfl
@[simp] theorem setChan_peer (k : Nat) (v : Channel) : (setChan c k v).peer = c.peer := rfl
@[simp] theorem setChan_coh (k : Nat) (v : Channel) : (setChan c k v).coh = c.coh := rfl
@[simp] theorem setChan_dbl (k : Nat) (v : Channel) : (setChan c k v).dbl = c.dbl := rfl
@[simp] theorem setChan_port (k : Nat) (v : Channel) : (setChan c k v).port = c.port := rfl
@[simp] theorem setChan_clk (k : Nat) (v : Channel) : (setChan c k v).clk = c.clk := rfl
@[simp] theorem setChan_sec (k : Nat) (v : Channel) : (setChan c k v).sec = c.sec := rfl
@[simp] theorem setChan_free (k : Nat) (v : Channel) : (setChan c k v).free = c.free := rfl
@[simp] theorem setChan_out (k : Nat) (v : Channel) : (setChan c k v).out = c.out := rfl

/-! `modChan` writes xf. -/

@[simp] theorem modChan_unit1 (k : Nat) (f : Channel → Channel) : (modChan c k f).unit1 = c.unit1 := rfl
@[simp] theorem modChan_mode (k : Nat) (f : Channel → Channel) : (modChan c k f).mode = c.mode := rfl
@[simp] theorem modChan_rough (k : Nat) (f : Channel → Channel) : (modChan c k f).rough = c.rough := rfl
@[simp] theorem modChan_boot (k : Nat) (f : Channel → Channel) : (modChan c k f).boot = c.boot := rfl
@[simp] theorem modChan_objs (k : Nat) (f : Channel → Channel) : (modChan c k f).objs = c.objs := rfl
@[simp] theorem modChan_dict (k : Nat) (f : Channel → Channel) : (modChan c k f).dict = c.dict := rfl
@[simp] theorem modChan_toc (k : Nat) (f : Channel → Channel) : (modChan c k f).toc = c.toc := rfl
@[simp] theorem modChan_sp (k : Nat) (f : Channel → Channel) : (modChan c k f).sp = c.sp := rfl
@[simp] theorem modChan_geo (k : Nat) (f : Channel → Channel) : (modChan c k f).geo = c.geo := rfl
@[simp] theorem modChan_lap (k : Nat) (f : Channel → Channel) : (modChan c k f).lap = c.lap := rfl
@[simp] theorem modChan_bel (k : Nat) (f : Channel → Channel) : (modChan c k f).bel = c.bel := rfl
@[simp] theorem modChan_pat (k : Nat) (f : Channel → Channel) : (modChan c k f).pat = c.pat := rfl
@[simp] theorem modChan_peer (k : Nat) (f : Channel → Channel) : (modChan c k f).peer = c.peer := rfl
@[simp] theorem modChan_coh (k : Nat) (f : Channel → Channel) : (modChan c k f).coh = c.coh := rfl
@[simp] theorem modChan_dbl (k : Nat) (f : Channel → Channel) : (modChan c k f).dbl = c.dbl := rfl
@[simp] theorem modChan_port (k : Nat) (f : Channel → Channel) : (modChan c k f).port = c.port := rfl
@[simp] theorem modChan_clk (k : Nat) (f : Channel → Channel) : (modChan c k f).clk = c.clk := rfl
@[simp] theorem modChan_sec (k : Nat) (f : Channel → Channel) : (modChan c k f).sec = c.sec := rfl
@[simp] theorem modChan_free (k : Nat) (f : Channel → Channel) : (modChan c k f).free = c.free := rfl
@[simp] theorem modChan_out (k : Nat) (f : Channel → Channel) : (modChan c k f).out = c.out := rfl

/-! `setTable` writes lap. -/

@[simp] theorem setTable_unit1 (t : Nat) (v : Table) : (setTable c t v).unit1 = c.unit1 := rfl
@[simp] theorem setTable_mode (t : Nat) (v : Table) : (setTable c t v).mode = c.mode := rfl
@[simp] theorem setTable_rough (t : Nat) (v : Table) : (setTable c t v).rough = c.rough := rfl
@[simp] theorem setTable_boot (t : Nat) (v : Table) : (setTable c t v).boot = c.boot := rfl
@[simp] theorem setTable_objs (t : Nat) (v : Table) : (setTable c t v).objs = c.objs := rfl
@[simp] theorem setTable_dict (t : Nat) (v : Table) : (setTable c t v).dict = c.dict := rfl
@[simp] theorem setTable_toc (t : Nat) (v : Table) : (setTable c t v).toc = c.toc := rfl
@[simp] theorem setTable_sp (t : Nat) (v : Table) : (setTable c t v).sp = c.sp := rfl
@[simp] theorem setTable_geo (t : Nat) (v : Table) : (setTable c t v).geo = c.geo := rfl
@[simp] theorem setTable_xf (t : Nat) (v : Table) : (setTable c t v).xf = c.xf := rfl
@[simp] theorem setTable_bel (t : Nat) (v : Table) : (setTable c t v).bel = c.bel := rfl
@[simp] theorem setTable_pat (t : Nat) (v : Table) : (setTable c t v).pat = c.pat := rfl
@[simp] theorem setTable_peer (t : Nat) (v : Table) : (setTable c t v).peer = c.peer := rfl
@[simp] theorem setTable_coh (t : Nat) (v : Table) : (setTable c t v).coh = c.coh := rfl
@[simp] theorem setTable_dbl (t : Nat) (v : Table) : (setTable c t v).dbl = c.dbl := rfl
@[simp] theorem setTable_port (t : Nat) (v : Table) : (setTable c t v).port = c.port := rfl
@[simp] theorem setTable_clk (t : Nat) (v : Table) : (setTable c t v).clk = c.clk := rfl
@[simp] theorem setTable_sec (t : Nat) (v : Table) : (setTable c t v).sec = c.sec := rfl
@[simp] theorem setTable_free (t : Nat) (v : Table) : (setTable c t v).free = c.free := rfl
@[simp] theorem setTable_out (t : Nat) (v : Table) : (setTable c t v).out = c.out := rfl

/-! `modTable` writes lap. -/

@[simp] theorem modTable_unit1 (t : Nat) (f : Table → Table) : (modTable c t f).unit1 = c.unit1 := rfl
@[simp] theorem modTable_mode (t : Nat) (f : Table → Table) : (modTable c t f).mode = c.mode := rfl
@[simp] theorem modTable_rough (t : Nat) (f : Table → Table) : (modTable c t f).rough = c.rough := rfl
@[simp] theorem modTable_boot (t : Nat) (f : Table → Table) : (modTable c t f).boot = c.boot := rfl
@[simp] theorem modTable_objs (t : Nat) (f : Table → Table) : (modTable c t f).objs = c.objs := rfl
@[simp] theorem modTable_dict (t : Nat) (f : Table → Table) : (modTable c t f).dict = c.dict := rfl
@[simp] theorem modTable_toc (t : Nat) (f : Table → Table) : (modTable c t f).toc = c.toc := rfl
@[simp] theorem modTable_sp (t : Nat) (f : Table → Table) : (modTable c t f).sp = c.sp := rfl
@[simp] theorem modTable_geo (t : Nat) (f : Table → Table) : (modTable c t f).geo = c.geo := rfl
@[simp] theorem modTable_xf (t : Nat) (f : Table → Table) : (modTable c t f).xf = c.xf := rfl
@[simp] theorem modTable_bel (t : Nat) (f : Table → Table) : (modTable c t f).bel = c.bel := rfl
@[simp] theorem modTable_pat (t : Nat) (f : Table → Table) : (modTable c t f).pat = c.pat := rfl
@[simp] theorem modTable_peer (t : Nat) (f : Table → Table) : (modTable c t f).peer = c.peer := rfl
@[simp] theorem modTable_coh (t : Nat) (f : Table → Table) : (modTable c t f).coh = c.coh := rfl
@[simp] theorem modTable_dbl (t : Nat) (f : Table → Table) : (modTable c t f).dbl = c.dbl := rfl
@[simp] theorem modTable_port (t : Nat) (f : Table → Table) : (modTable c t f).port = c.port := rfl
@[simp] theorem modTable_clk (t : Nat) (f : Table → Table) : (modTable c t f).clk = c.clk := rfl
@[simp] theorem modTable_sec (t : Nat) (f : Table → Table) : (modTable c t f).sec = c.sec := rfl
@[simp] theorem modTable_free (t : Nat) (f : Table → Table) : (modTable c t f).free = c.free := rfl
@[simp] theorem modTable_out (t : Nat) (f : Table → Table) : (modTable c t f).out = c.out := rfl

/-! `setPat` writes pat. -/

@[simp] theorem setPat_unit1 (p : Nat) (v : Pattern) : (setPat c p v).unit1 = c.unit1 := rfl
@[simp] theorem setPat_mode (p : Nat) (v : Pattern) : (setPat c p v).mode = c.mode := rfl
@[simp] theorem setPat_rough (p : Nat) (v : Pattern) : (setPat c p v).rough = c.rough := rfl
@[simp] theorem setPat_boot (p : Nat) (v : Pattern) : (setPat c p v).boot = c.boot := rfl
@[simp] theorem setPat_objs (p : Nat) (v : Pattern) : (setPat c p v).objs = c.objs := rfl
@[simp] theorem setPat_dict (p : Nat) (v : Pattern) : (setPat c p v).dict = c.dict := rfl
@[simp] theorem setPat_toc (p : Nat) (v : Pattern) : (setPat c p v).toc = c.toc := rfl
@[simp] theorem setPat_sp (p : Nat) (v : Pattern) : (setPat c p v).sp = c.sp := rfl
@[simp] theorem setPat_geo (p : Nat) (v : Pattern) : (setPat c p v).geo = c.geo := rfl
@[simp] theorem setPat_xf (p : Nat) (v : Pattern) : (setPat c p v).xf = c.xf := rfl
@[simp] theorem setPat_lap (p : Nat) (v : Pattern) : (setPat c p v).lap = c.lap := rfl
@[simp] theorem setPat_bel (p : Nat) (v : Pattern) : (setPat c p v).bel = c.bel := rfl
@[simp] theorem setPat_peer (p : Nat) (v : Pattern) : (setPat c p v).peer = c.peer := rfl
@[simp] theorem setPat_coh (p : Nat) (v : Pattern) : (setPat c p v).coh = c.coh := rfl
@[simp] theorem setPat_dbl (p : Nat) (v : Pattern) : (setPat c p v).dbl = c.dbl := rfl
@[simp] theorem setPat_port (p : Nat) (v : Pattern) : (setPat c p v).port = c.port := rfl
@[simp] theorem setPat_clk (p : Nat) (v : Pattern) : (setPat c p v).clk = c.clk := rfl
@[simp] theorem setPat_sec (p : Nat) (v : Pattern) : (setPat c p v).sec = c.sec := rfl
@[simp] theorem setPat_free (p : Nat) (v : Pattern) : (setPat c p v).free = c.free := rfl
@[simp] theorem setPat_out (p : Nat) (v : Pattern) : (setPat c p v).out = c.out := rfl

/-! `modPat` writes pat. -/

@[simp] theorem modPat_unit1 (p : Nat) (f : Pattern → Pattern) : (modPat c p f).unit1 = c.unit1 := rfl
@[simp] theorem modPat_mode (p : Nat) (f : Pattern → Pattern) : (modPat c p f).mode = c.mode := rfl
@[simp] theorem modPat_rough (p : Nat) (f : Pattern → Pattern) : (modPat c p f).rough = c.rough := rfl
@[simp] theorem modPat_boot (p : Nat) (f : Pattern → Pattern) : (modPat c p f).boot = c.boot := rfl
@[simp] theorem modPat_objs (p : Nat) (f : Pattern → Pattern) : (modPat c p f).objs = c.objs := rfl
@[simp] theorem modPat_dict (p : Nat) (f : Pattern → Pattern) : (modPat c p f).dict = c.dict := rfl
@[simp] theorem modPat_toc (p : Nat) (f : Pattern → Pattern) : (modPat c p f).toc = c.toc := rfl
@[simp] theorem modPat_sp (p : Nat) (f : Pattern → Pattern) : (modPat c p f).sp = c.sp := rfl
@[simp] theorem modPat_geo (p : Nat) (f : Pattern → Pattern) : (modPat c p f).geo = c.geo := rfl
@[simp] theorem modPat_xf (p : Nat) (f : Pattern → Pattern) : (modPat c p f).xf = c.xf := rfl
@[simp] theorem modPat_lap (p : Nat) (f : Pattern → Pattern) : (modPat c p f).lap = c.lap := rfl
@[simp] theorem modPat_bel (p : Nat) (f : Pattern → Pattern) : (modPat c p f).bel = c.bel := rfl
@[simp] theorem modPat_peer (p : Nat) (f : Pattern → Pattern) : (modPat c p f).peer = c.peer := rfl
@[simp] theorem modPat_coh (p : Nat) (f : Pattern → Pattern) : (modPat c p f).coh = c.coh := rfl
@[simp] theorem modPat_dbl (p : Nat) (f : Pattern → Pattern) : (modPat c p f).dbl = c.dbl := rfl
@[simp] theorem modPat_port (p : Nat) (f : Pattern → Pattern) : (modPat c p f).port = c.port := rfl
@[simp] theorem modPat_clk (p : Nat) (f : Pattern → Pattern) : (modPat c p f).clk = c.clk := rfl
@[simp] theorem modPat_sec (p : Nat) (f : Pattern → Pattern) : (modPat c p f).sec = c.sec := rfl
@[simp] theorem modPat_free (p : Nat) (f : Pattern → Pattern) : (modPat c p f).free = c.free := rfl
@[simp] theorem modPat_out (p : Nat) (f : Pattern → Pattern) : (modPat c p f).out = c.out := rfl

/-! `setSlot` writes pat. -/

@[simp] theorem setSlot_unit1 (s : Nat) (v : Slot) : (setSlot c s v).unit1 = c.unit1 := rfl
@[simp] theorem setSlot_mode (s : Nat) (v : Slot) : (setSlot c s v).mode = c.mode := rfl
@[simp] theorem setSlot_rough (s : Nat) (v : Slot) : (setSlot c s v).rough = c.rough := rfl
@[simp] theorem setSlot_boot (s : Nat) (v : Slot) : (setSlot c s v).boot = c.boot := rfl
@[simp] theorem setSlot_objs (s : Nat) (v : Slot) : (setSlot c s v).objs = c.objs := rfl
@[simp] theorem setSlot_dict (s : Nat) (v : Slot) : (setSlot c s v).dict = c.dict := rfl
@[simp] theorem setSlot_toc (s : Nat) (v : Slot) : (setSlot c s v).toc = c.toc := rfl
@[simp] theorem setSlot_sp (s : Nat) (v : Slot) : (setSlot c s v).sp = c.sp := rfl
@[simp] theorem setSlot_geo (s : Nat) (v : Slot) : (setSlot c s v).geo = c.geo := rfl
@[simp] theorem setSlot_xf (s : Nat) (v : Slot) : (setSlot c s v).xf = c.xf := rfl
@[simp] theorem setSlot_lap (s : Nat) (v : Slot) : (setSlot c s v).lap = c.lap := rfl
@[simp] theorem setSlot_bel (s : Nat) (v : Slot) : (setSlot c s v).bel = c.bel := rfl
@[simp] theorem setSlot_peer (s : Nat) (v : Slot) : (setSlot c s v).peer = c.peer := rfl
@[simp] theorem setSlot_coh (s : Nat) (v : Slot) : (setSlot c s v).coh = c.coh := rfl
@[simp] theorem setSlot_dbl (s : Nat) (v : Slot) : (setSlot c s v).dbl = c.dbl := rfl
@[simp] theorem setSlot_port (s : Nat) (v : Slot) : (setSlot c s v).port = c.port := rfl
@[simp] theorem setSlot_clk (s : Nat) (v : Slot) : (setSlot c s v).clk = c.clk := rfl
@[simp] theorem setSlot_sec (s : Nat) (v : Slot) : (setSlot c s v).sec = c.sec := rfl
@[simp] theorem setSlot_free (s : Nat) (v : Slot) : (setSlot c s v).free = c.free := rfl
@[simp] theorem setSlot_out (s : Nat) (v : Slot) : (setSlot c s v).out = c.out := rfl

/-! `modSlot` writes pat. -/

@[simp] theorem modSlot_unit1 (s : Nat) (f : Slot → Slot) : (modSlot c s f).unit1 = c.unit1 := rfl
@[simp] theorem modSlot_mode (s : Nat) (f : Slot → Slot) : (modSlot c s f).mode = c.mode := rfl
@[simp] theorem modSlot_rough (s : Nat) (f : Slot → Slot) : (modSlot c s f).rough = c.rough := rfl
@[simp] theorem modSlot_boot (s : Nat) (f : Slot → Slot) : (modSlot c s f).boot = c.boot := rfl
@[simp] theorem modSlot_objs (s : Nat) (f : Slot → Slot) : (modSlot c s f).objs = c.objs := rfl
@[simp] theorem modSlot_dict (s : Nat) (f : Slot → Slot) : (modSlot c s f).dict = c.dict := rfl
@[simp] theorem modSlot_toc (s : Nat) (f : Slot → Slot) : (modSlot c s f).toc = c.toc := rfl
@[simp] theorem modSlot_sp (s : Nat) (f : Slot → Slot) : (modSlot c s f).sp = c.sp := rfl
@[simp] theorem modSlot_geo (s : Nat) (f : Slot → Slot) : (modSlot c s f).geo = c.geo := rfl
@[simp] theorem modSlot_xf (s : Nat) (f : Slot → Slot) : (modSlot c s f).xf = c.xf := rfl
@[simp] theorem modSlot_lap (s : Nat) (f : Slot → Slot) : (modSlot c s f).lap = c.lap := rfl
@[simp] theorem modSlot_bel (s : Nat) (f : Slot → Slot) : (modSlot c s f).bel = c.bel := rfl
@[simp] theorem modSlot_peer (s : Nat) (f : Slot → Slot) : (modSlot c s f).peer = c.peer := rfl
@[simp] theorem modSlot_coh (s : Nat) (f : Slot → Slot) : (modSlot c s f).coh = c.coh := rfl
@[simp] theorem modSlot_dbl (s : Nat) (f : Slot → Slot) : (modSlot c s f).dbl = c.dbl := rfl
@[simp] theorem modSlot_port (s : Nat) (f : Slot → Slot) : (modSlot c s f).port = c.port := rfl
@[simp] theorem modSlot_clk (s : Nat) (f : Slot → Slot) : (modSlot c s f).clk = c.clk := rfl
@[simp] theorem modSlot_sec (s : Nat) (f : Slot → Slot) : (modSlot c s f).sec = c.sec := rfl
@[simp] theorem modSlot_free (s : Nat) (f : Slot → Slot) : (modSlot c s f).free = c.free := rfl
@[simp] theorem modSlot_out (s : Nat) (f : Slot → Slot) : (modSlot c s f).out = c.out := rfl

/-! `setClu` writes pat. -/

@[simp] theorem setClu_unit1 (k : Nat) (v : Cluster) : (setClu c k v).unit1 = c.unit1 := rfl
@[simp] theorem setClu_mode (k : Nat) (v : Cluster) : (setClu c k v).mode = c.mode := rfl
@[simp] theorem setClu_rough (k : Nat) (v : Cluster) : (setClu c k v).rough = c.rough := rfl
@[simp] theorem setClu_boot (k : Nat) (v : Cluster) : (setClu c k v).boot = c.boot := rfl
@[simp] theorem setClu_objs (k : Nat) (v : Cluster) : (setClu c k v).objs = c.objs := rfl
@[simp] theorem setClu_dict (k : Nat) (v : Cluster) : (setClu c k v).dict = c.dict := rfl
@[simp] theorem setClu_toc (k : Nat) (v : Cluster) : (setClu c k v).toc = c.toc := rfl
@[simp] theorem setClu_sp (k : Nat) (v : Cluster) : (setClu c k v).sp = c.sp := rfl
@[simp] theorem setClu_geo (k : Nat) (v : Cluster) : (setClu c k v).geo = c.geo := rfl
@[simp] theorem setClu_xf (k : Nat) (v : Cluster) : (setClu c k v).xf = c.xf := rfl
@[simp] theorem setClu_lap (k : Nat) (v : Cluster) : (setClu c k v).lap = c.lap := rfl
@[simp] theorem setClu_bel (k : Nat) (v : Cluster) : (setClu c k v).bel = c.bel := rfl
@[simp] theorem setClu_peer (k : Nat) (v : Cluster) : (setClu c k v).peer = c.peer := rfl
@[simp] theorem setClu_coh (k : Nat) (v : Cluster) : (setClu c k v).coh = c.coh := rfl
@[simp] theorem setClu_dbl (k : Nat) (v : Cluster) : (setClu c k v).dbl = c.dbl := rfl
@[simp] theorem setClu_port (k : Nat) (v : Cluster) : (setClu c k v).port = c.port := rfl
@[simp] theorem setClu_clk (k : Nat) (v : Cluster) : (setClu c k v).clk = c.clk := rfl
@[simp] theorem setClu_sec (k : Nat) (v : Cluster) : (setClu c k v).sec = c.sec := rfl
@[simp] theorem setClu_free (k : Nat) (v : Cluster) : (setClu c k v).free = c.free := rfl
@[simp] theorem setClu_out (k : Nat) (v : Cluster) : (setClu c k v).out = c.out := rfl

/-! `modClu` writes pat. -/

@[simp] theorem modClu_unit1 (k : Nat) (f : Cluster → Cluster) : (modClu c k f).unit1 = c.unit1 := rfl
@[simp] theorem modClu_mode (k : Nat) (f : Cluster → Cluster) : (modClu c k f).mode = c.mode := rfl
@[simp] theorem modClu_rough (k : Nat) (f : Cluster → Cluster) : (modClu c k f).rough = c.rough := rfl
@[simp] theorem modClu_boot (k : Nat) (f : Cluster → Cluster) : (modClu c k f).boot = c.boot := rfl
@[simp] theorem modClu_objs (k : Nat) (f : Cluster → Cluster) : (modClu c k f).objs = c.objs := rfl
@[simp] theorem modClu_dict (k : Nat) (f : Cluster → Cluster) : (modClu c k f).dict = c.dict := rfl
@[simp] theorem modClu_toc (k : Nat) (f : Cluster → Cluster) : (modClu c k f).toc = c.toc := rfl
@[simp] theorem modClu_sp (k : Nat) (f : Cluster → Cluster) : (modClu c k f).sp = c.sp := rfl
@[simp] theorem modClu_geo (k : Nat) (f : Cluster → Cluster) : (modClu c k f).geo = c.geo := rfl
@[simp] theorem modClu_xf (k : Nat) (f : Cluster → Cluster) : (modClu c k f).xf = c.xf := rfl
@[simp] theorem modClu_lap (k : Nat) (f : Cluster → Cluster) : (modClu c k f).lap = c.lap := rfl
@[simp] theorem modClu_bel (k : Nat) (f : Cluster → Cluster) : (modClu c k f).bel = c.bel := rfl
@[simp] theorem modClu_peer (k : Nat) (f : Cluster → Cluster) : (modClu c k f).peer = c.peer := rfl
@[simp] theorem modClu_coh (k : Nat) (f : Cluster → Cluster) : (modClu c k f).coh = c.coh := rfl
@[simp] theorem modClu_dbl (k : Nat) (f : Cluster → Cluster) : (modClu c k f).dbl = c.dbl := rfl
@[simp] theorem modClu_port (k : Nat) (f : Cluster → Cluster) : (modClu c k f).port = c.port := rfl
@[simp] theorem modClu_clk (k : Nat) (f : Cluster → Cluster) : (modClu c k f).clk = c.clk := rfl
@[simp] theorem modClu_sec (k : Nat) (f : Cluster → Cluster) : (modClu c k f).sec = c.sec := rfl
@[simp] theorem modClu_free (k : Nat) (f : Cluster → Cluster) : (modClu c k f).free = c.free := rfl
@[simp] theorem modClu_out (k : Nat) (f : Cluster → Cluster) : (modClu c k f).out = c.out := rfl

/-! `setLaunch` writes pat. -/

@[simp] theorem setLaunch_unit1 (l : Launch) : (setLaunch c l).unit1 = c.unit1 := rfl
@[simp] theorem setLaunch_mode (l : Launch) : (setLaunch c l).mode = c.mode := rfl
@[simp] theorem setLaunch_rough (l : Launch) : (setLaunch c l).rough = c.rough := rfl
@[simp] theorem setLaunch_boot (l : Launch) : (setLaunch c l).boot = c.boot := rfl
@[simp] theorem setLaunch_objs (l : Launch) : (setLaunch c l).objs = c.objs := rfl
@[simp] theorem setLaunch_dict (l : Launch) : (setLaunch c l).dict = c.dict := rfl
@[simp] theorem setLaunch_toc (l : Launch) : (setLaunch c l).toc = c.toc := rfl
@[simp] theorem setLaunch_sp (l : Launch) : (setLaunch c l).sp = c.sp := rfl
@[simp] theorem setLaunch_geo (l : Launch) : (setLaunch c l).geo = c.geo := rfl
@[simp] theorem setLaunch_xf (l : Launch) : (setLaunch c l).xf = c.xf := rfl
@[simp] theorem setLaunch_lap (l : Launch) : (setLaunch c l).lap = c.lap := rfl
@[simp] theorem setLaunch_bel (l : Launch) : (setLaunch c l).bel = c.bel := rfl
@[simp] theorem setLaunch_peer (l : Launch) : (setLaunch c l).peer = c.peer := rfl
@[simp] theorem setLaunch_coh (l : Launch) : (setLaunch c l).coh = c.coh := rfl
@[simp] theorem setLaunch_dbl (l : Launch) : (setLaunch c l).dbl = c.dbl := rfl
@[simp] theorem setLaunch_port (l : Launch) : (setLaunch c l).port = c.port := rfl
@[simp] theorem setLaunch_clk (l : Launch) : (setLaunch c l).clk = c.clk := rfl
@[simp] theorem setLaunch_sec (l : Launch) : (setLaunch c l).sec = c.sec := rfl
@[simp] theorem setLaunch_free (l : Launch) : (setLaunch c l).free = c.free := rfl
@[simp] theorem setLaunch_out (l : Launch) : (setLaunch c l).out = c.out := rfl

/-! `modLaunch` writes pat. -/

@[simp] theorem modLaunch_unit1 (q e : Nat) (f : Launch → Launch) : (modLaunch c q e f).unit1 = c.unit1 := by unfold modLaunch; split <;> rfl
@[simp] theorem modLaunch_mode (q e : Nat) (f : Launch → Launch) : (modLaunch c q e f).mode = c.mode := by unfold modLaunch; split <;> rfl
@[simp] theorem modLaunch_rough (q e : Nat) (f : Launch → Launch) : (modLaunch c q e f).rough = c.rough := by unfold modLaunch; split <;> rfl
@[simp] theorem modLaunch_boot (q e : Nat) (f : Launch → Launch) : (modLaunch c q e f).boot = c.boot := by unfold modLaunch; split <;> rfl
@[simp] theorem modLaunch_objs (q e : Nat) (f : Launch → Launch) : (modLaunch c q e f).objs = c.objs := by unfold modLaunch; split <;> rfl
@[simp] theorem modLaunch_dict (q e : Nat) (f : Launch → Launch) : (modLaunch c q e f).dict = c.dict := by unfold modLaunch; split <;> rfl
@[simp] theorem modLaunch_toc (q e : Nat) (f : Launch → Launch) : (modLaunch c q e f).toc = c.toc := by unfold modLaunch; split <;> rfl
@[simp] theorem modLaunch_sp (q e : Nat) (f : Launch → Launch) : (modLaunch c q e f).sp = c.sp := by unfold modLaunch; split <;> rfl
@[simp] theorem modLaunch_geo (q e : Nat) (f : Launch → Launch) : (modLaunch c q e f).geo = c.geo := by unfold modLaunch; split <;> rfl
@[simp] theorem modLaunch_xf (q e : Nat) (f : Launch → Launch) : (modLaunch c q e f).xf = c.xf := by unfold modLaunch; split <;> rfl
@[simp] theorem modLaunch_lap (q e : Nat) (f : Launch → Launch) : (modLaunch c q e f).lap = c.lap := by unfold modLaunch; split <;> rfl
@[simp] theorem modLaunch_bel (q e : Nat) (f : Launch → Launch) : (modLaunch c q e f).bel = c.bel := by unfold modLaunch; split <;> rfl
@[simp] theorem modLaunch_peer (q e : Nat) (f : Launch → Launch) : (modLaunch c q e f).peer = c.peer := by unfold modLaunch; split <;> rfl
@[simp] theorem modLaunch_coh (q e : Nat) (f : Launch → Launch) : (modLaunch c q e f).coh = c.coh := by unfold modLaunch; split <;> rfl
@[simp] theorem modLaunch_dbl (q e : Nat) (f : Launch → Launch) : (modLaunch c q e f).dbl = c.dbl := by unfold modLaunch; split <;> rfl
@[simp] theorem modLaunch_port (q e : Nat) (f : Launch → Launch) : (modLaunch c q e f).port = c.port := by unfold modLaunch; split <;> rfl
@[simp] theorem modLaunch_clk (q e : Nat) (f : Launch → Launch) : (modLaunch c q e f).clk = c.clk := by unfold modLaunch; split <;> rfl
@[simp] theorem modLaunch_sec (q e : Nat) (f : Launch → Launch) : (modLaunch c q e f).sec = c.sec := by unfold modLaunch; split <;> rfl
@[simp] theorem modLaunch_free (q e : Nat) (f : Launch → Launch) : (modLaunch c q e f).free = c.free := by unfold modLaunch; split <;> rfl
@[simp] theorem modLaunch_out (q e : Nat) (f : Launch → Launch) : (modLaunch c q e f).out = c.out := by unfold modLaunch; split <;> rfl

/-! `modNode` writes pat. -/

@[simp] theorem modNode_unit1 (q e n : Nat) (f : NodeRt → NodeRt) : (modNode c q e n f).unit1 = c.unit1 := by simp [modNode]
@[simp] theorem modNode_mode (q e n : Nat) (f : NodeRt → NodeRt) : (modNode c q e n f).mode = c.mode := by simp [modNode]
@[simp] theorem modNode_rough (q e n : Nat) (f : NodeRt → NodeRt) : (modNode c q e n f).rough = c.rough := by simp [modNode]
@[simp] theorem modNode_boot (q e n : Nat) (f : NodeRt → NodeRt) : (modNode c q e n f).boot = c.boot := by simp [modNode]
@[simp] theorem modNode_objs (q e n : Nat) (f : NodeRt → NodeRt) : (modNode c q e n f).objs = c.objs := by simp [modNode]
@[simp] theorem modNode_dict (q e n : Nat) (f : NodeRt → NodeRt) : (modNode c q e n f).dict = c.dict := by simp [modNode]
@[simp] theorem modNode_toc (q e n : Nat) (f : NodeRt → NodeRt) : (modNode c q e n f).toc = c.toc := by simp [modNode]
@[simp] theorem modNode_sp (q e n : Nat) (f : NodeRt → NodeRt) : (modNode c q e n f).sp = c.sp := by simp [modNode]
@[simp] theorem modNode_geo (q e n : Nat) (f : NodeRt → NodeRt) : (modNode c q e n f).geo = c.geo := by simp [modNode]
@[simp] theorem modNode_xf (q e n : Nat) (f : NodeRt → NodeRt) : (modNode c q e n f).xf = c.xf := by simp [modNode]
@[simp] theorem modNode_lap (q e n : Nat) (f : NodeRt → NodeRt) : (modNode c q e n f).lap = c.lap := by simp [modNode]
@[simp] theorem modNode_bel (q e n : Nat) (f : NodeRt → NodeRt) : (modNode c q e n f).bel = c.bel := by simp [modNode]
@[simp] theorem modNode_peer (q e n : Nat) (f : NodeRt → NodeRt) : (modNode c q e n f).peer = c.peer := by simp [modNode]
@[simp] theorem modNode_coh (q e n : Nat) (f : NodeRt → NodeRt) : (modNode c q e n f).coh = c.coh := by simp [modNode]
@[simp] theorem modNode_dbl (q e n : Nat) (f : NodeRt → NodeRt) : (modNode c q e n f).dbl = c.dbl := by simp [modNode]
@[simp] theorem modNode_port (q e n : Nat) (f : NodeRt → NodeRt) : (modNode c q e n f).port = c.port := by simp [modNode]
@[simp] theorem modNode_clk (q e n : Nat) (f : NodeRt → NodeRt) : (modNode c q e n f).clk = c.clk := by simp [modNode]
@[simp] theorem modNode_sec (q e n : Nat) (f : NodeRt → NodeRt) : (modNode c q e n f).sec = c.sec := by simp [modNode]
@[simp] theorem modNode_free (q e n : Nat) (f : NodeRt → NodeRt) : (modNode c q e n f).free = c.free := by simp [modNode]
@[simp] theorem modNode_out (q e n : Nat) (f : NodeRt → NodeRt) : (modNode c q e n f).out = c.out := by simp [modNode]

/-! `modSd` writes xf. -/

@[simp] theorem modSd_unit1 (i : Nat) (f : SetDesc → SetDesc) : (modSd c i f).unit1 = c.unit1 := rfl
@[simp] theorem modSd_mode (i : Nat) (f : SetDesc → SetDesc) : (modSd c i f).mode = c.mode := rfl
@[simp] theorem modSd_rough (i : Nat) (f : SetDesc → SetDesc) : (modSd c i f).rough = c.rough := rfl
@[simp] theorem modSd_boot (i : Nat) (f : SetDesc → SetDesc) : (modSd c i f).boot = c.boot := rfl
@[simp] theorem modSd_objs (i : Nat) (f : SetDesc → SetDesc) : (modSd c i f).objs = c.objs := rfl
@[simp] theorem modSd_dict (i : Nat) (f : SetDesc → SetDesc) : (modSd c i f).dict = c.dict := rfl
@[simp] theorem modSd_toc (i : Nat) (f : SetDesc → SetDesc) : (modSd c i f).toc = c.toc := rfl
@[simp] theorem modSd_sp (i : Nat) (f : SetDesc → SetDesc) : (modSd c i f).sp = c.sp := rfl
@[simp] theorem modSd_geo (i : Nat) (f : SetDesc → SetDesc) : (modSd c i f).geo = c.geo := rfl
@[simp] theorem modSd_lap (i : Nat) (f : SetDesc → SetDesc) : (modSd c i f).lap = c.lap := rfl
@[simp] theorem modSd_bel (i : Nat) (f : SetDesc → SetDesc) : (modSd c i f).bel = c.bel := rfl
@[simp] theorem modSd_pat (i : Nat) (f : SetDesc → SetDesc) : (modSd c i f).pat = c.pat := rfl
@[simp] theorem modSd_peer (i : Nat) (f : SetDesc → SetDesc) : (modSd c i f).peer = c.peer := rfl
@[simp] theorem modSd_coh (i : Nat) (f : SetDesc → SetDesc) : (modSd c i f).coh = c.coh := rfl
@[simp] theorem modSd_dbl (i : Nat) (f : SetDesc → SetDesc) : (modSd c i f).dbl = c.dbl := rfl
@[simp] theorem modSd_port (i : Nat) (f : SetDesc → SetDesc) : (modSd c i f).port = c.port := rfl
@[simp] theorem modSd_clk (i : Nat) (f : SetDesc → SetDesc) : (modSd c i f).clk = c.clk := rfl
@[simp] theorem modSd_sec (i : Nat) (f : SetDesc → SetDesc) : (modSd c i f).sec = c.sec := rfl
@[simp] theorem modSd_free (i : Nat) (f : SetDesc → SetDesc) : (modSd c i f).free = c.free := rfl
@[simp] theorem modSd_out (i : Nat) (f : SetDesc → SetDesc) : (modSd c i f).out = c.out := rfl

/-! `setSrc` writes toc. -/

@[simp] theorem setSrc_unit1 (n : Nat) (v : SrcSt) : (setSrc c n v).unit1 = c.unit1 := rfl
@[simp] theorem setSrc_mode (n : Nat) (v : SrcSt) : (setSrc c n v).mode = c.mode := rfl
@[simp] theorem setSrc_rough (n : Nat) (v : SrcSt) : (setSrc c n v).rough = c.rough := rfl
@[simp] theorem setSrc_boot (n : Nat) (v : SrcSt) : (setSrc c n v).boot = c.boot := rfl
@[simp] theorem setSrc_objs (n : Nat) (v : SrcSt) : (setSrc c n v).objs = c.objs := rfl
@[simp] theorem setSrc_dict (n : Nat) (v : SrcSt) : (setSrc c n v).dict = c.dict := rfl
@[simp] theorem setSrc_sp (n : Nat) (v : SrcSt) : (setSrc c n v).sp = c.sp := rfl
@[simp] theorem setSrc_geo (n : Nat) (v : SrcSt) : (setSrc c n v).geo = c.geo := rfl
@[simp] theorem setSrc_xf (n : Nat) (v : SrcSt) : (setSrc c n v).xf = c.xf := rfl
@[simp] theorem setSrc_lap (n : Nat) (v : SrcSt) : (setSrc c n v).lap = c.lap := rfl
@[simp] theorem setSrc_bel (n : Nat) (v : SrcSt) : (setSrc c n v).bel = c.bel := rfl
@[simp] theorem setSrc_pat (n : Nat) (v : SrcSt) : (setSrc c n v).pat = c.pat := rfl
@[simp] theorem setSrc_peer (n : Nat) (v : SrcSt) : (setSrc c n v).peer = c.peer := rfl
@[simp] theorem setSrc_coh (n : Nat) (v : SrcSt) : (setSrc c n v).coh = c.coh := rfl
@[simp] theorem setSrc_dbl (n : Nat) (v : SrcSt) : (setSrc c n v).dbl = c.dbl := rfl
@[simp] theorem setSrc_port (n : Nat) (v : SrcSt) : (setSrc c n v).port = c.port := rfl
@[simp] theorem setSrc_clk (n : Nat) (v : SrcSt) : (setSrc c n v).clk = c.clk := rfl
@[simp] theorem setSrc_sec (n : Nat) (v : SrcSt) : (setSrc c n v).sec = c.sec := rfl
@[simp] theorem setSrc_free (n : Nat) (v : SrcSt) : (setSrc c n v).free = c.free := rfl
@[simp] theorem setSrc_out (n : Nat) (v : SrcSt) : (setSrc c n v).out = c.out := rfl

/-! `settleAlert` writes toc. -/

@[simp] theorem settleAlert_unit1 : (settleAlert c).unit1 = c.unit1 := rfl
@[simp] theorem settleAlert_mode : (settleAlert c).mode = c.mode := rfl
@[simp] theorem settleAlert_rough : (settleAlert c).rough = c.rough := rfl
@[simp] theorem settleAlert_boot : (settleAlert c).boot = c.boot := rfl
@[simp] theorem settleAlert_objs : (settleAlert c).objs = c.objs := rfl
@[simp] theorem settleAlert_dict : (settleAlert c).dict = c.dict := rfl
@[simp] theorem settleAlert_sp : (settleAlert c).sp = c.sp := rfl
@[simp] theorem settleAlert_geo : (settleAlert c).geo = c.geo := rfl
@[simp] theorem settleAlert_xf : (settleAlert c).xf = c.xf := rfl
@[simp] theorem settleAlert_lap : (settleAlert c).lap = c.lap := rfl
@[simp] theorem settleAlert_bel : (settleAlert c).bel = c.bel := rfl
@[simp] theorem settleAlert_pat : (settleAlert c).pat = c.pat := rfl
@[simp] theorem settleAlert_peer : (settleAlert c).peer = c.peer := rfl
@[simp] theorem settleAlert_coh : (settleAlert c).coh = c.coh := rfl
@[simp] theorem settleAlert_dbl : (settleAlert c).dbl = c.dbl := rfl
@[simp] theorem settleAlert_port : (settleAlert c).port = c.port := rfl
@[simp] theorem settleAlert_clk : (settleAlert c).clk = c.clk := rfl
@[simp] theorem settleAlert_sec : (settleAlert c).sec = c.sec := rfl
@[simp] theorem settleAlert_free : (settleAlert c).free = c.free := rfl
@[simp] theorem settleAlert_out : (settleAlert c).out = c.out := rfl

/-! `settleInta` writes port, out. -/

@[simp] theorem settleInta_unit1 (p : HPort) : (settleInta c p).unit1 = c.unit1 := by unfold settleInta; dsimp only; split <;> (try split) <;> rfl
@[simp] theorem settleInta_mode (p : HPort) : (settleInta c p).mode = c.mode := by unfold settleInta; dsimp only; split <;> (try split) <;> rfl
@[simp] theorem settleInta_rough (p : HPort) : (settleInta c p).rough = c.rough := by unfold settleInta; dsimp only; split <;> (try split) <;> rfl
@[simp] theorem settleInta_boot (p : HPort) : (settleInta c p).boot = c.boot := by unfold settleInta; dsimp only; split <;> (try split) <;> rfl
@[simp] theorem settleInta_objs (p : HPort) : (settleInta c p).objs = c.objs := by unfold settleInta; dsimp only; split <;> (try split) <;> rfl
@[simp] theorem settleInta_dict (p : HPort) : (settleInta c p).dict = c.dict := by unfold settleInta; dsimp only; split <;> (try split) <;> rfl
@[simp] theorem settleInta_toc (p : HPort) : (settleInta c p).toc = c.toc := by unfold settleInta; dsimp only; split <;> (try split) <;> rfl
@[simp] theorem settleInta_sp (p : HPort) : (settleInta c p).sp = c.sp := by unfold settleInta; dsimp only; split <;> (try split) <;> rfl
@[simp] theorem settleInta_geo (p : HPort) : (settleInta c p).geo = c.geo := by unfold settleInta; dsimp only; split <;> (try split) <;> rfl
@[simp] theorem settleInta_xf (p : HPort) : (settleInta c p).xf = c.xf := by unfold settleInta; dsimp only; split <;> (try split) <;> rfl
@[simp] theorem settleInta_lap (p : HPort) : (settleInta c p).lap = c.lap := by unfold settleInta; dsimp only; split <;> (try split) <;> rfl
@[simp] theorem settleInta_bel (p : HPort) : (settleInta c p).bel = c.bel := by unfold settleInta; dsimp only; split <;> (try split) <;> rfl
@[simp] theorem settleInta_pat (p : HPort) : (settleInta c p).pat = c.pat := by unfold settleInta; dsimp only; split <;> (try split) <;> rfl
@[simp] theorem settleInta_peer (p : HPort) : (settleInta c p).peer = c.peer := by unfold settleInta; dsimp only; split <;> (try split) <;> rfl
@[simp] theorem settleInta_coh (p : HPort) : (settleInta c p).coh = c.coh := by unfold settleInta; dsimp only; split <;> (try split) <;> rfl
@[simp] theorem settleInta_dbl (p : HPort) : (settleInta c p).dbl = c.dbl := by unfold settleInta; dsimp only; split <;> (try split) <;> rfl
@[simp] theorem settleInta_clk (p : HPort) : (settleInta c p).clk = c.clk := by unfold settleInta; dsimp only; split <;> (try split) <;> rfl
@[simp] theorem settleInta_sec (p : HPort) : (settleInta c p).sec = c.sec := by unfold settleInta; dsimp only; split <;> (try split) <;> rfl
@[simp] theorem settleInta_free (p : HPort) : (settleInta c p).free = c.free := by unfold settleInta; dsimp only; split <;> (try split) <;> rfl

/-! `settle` writes port, out, toc. -/

@[simp] theorem settle_unit1 : (settle c).unit1 = c.unit1 := by simp [settle]
@[simp] theorem settle_mode : (settle c).mode = c.mode := by simp [settle]
@[simp] theorem settle_rough : (settle c).rough = c.rough := by simp [settle]
@[simp] theorem settle_boot : (settle c).boot = c.boot := by simp [settle]
@[simp] theorem settle_objs : (settle c).objs = c.objs := by simp [settle]
@[simp] theorem settle_dict : (settle c).dict = c.dict := by simp [settle]
@[simp] theorem settle_sp : (settle c).sp = c.sp := by simp [settle]
@[simp] theorem settle_geo : (settle c).geo = c.geo := by simp [settle]
@[simp] theorem settle_xf : (settle c).xf = c.xf := by simp [settle]
@[simp] theorem settle_lap : (settle c).lap = c.lap := by simp [settle]
@[simp] theorem settle_bel : (settle c).bel = c.bel := by simp [settle]
@[simp] theorem settle_pat : (settle c).pat = c.pat := by simp [settle]
@[simp] theorem settle_peer : (settle c).peer = c.peer := by simp [settle]
@[simp] theorem settle_coh : (settle c).coh = c.coh := by simp [settle]
@[simp] theorem settle_dbl : (settle c).dbl = c.dbl := by simp [settle]
@[simp] theorem settle_clk : (settle c).clk = c.clk := by simp [settle]
@[simp] theorem settle_sec : (settle c).sec = c.sec := by simp [settle]
@[simp] theorem settle_free : (settle c).free = c.free := by simp [settle]

/-! `put` settles the unit and leaves the queue. -/

@[simp] theorem put_toChip (s : State) : (put s c).toChip = settle c := rfl
@[simp] theorem put_pending (s : State) : (put s c).pending = s.pending := rfl
@[simp] theorem put_unit1 (s : State) : (put s c).unit1 = c.unit1 := by rw [put_toChip]; simp
@[simp] theorem put_mode (s : State) : (put s c).mode = c.mode := by rw [put_toChip]; simp
@[simp] theorem put_rough (s : State) : (put s c).rough = c.rough := by rw [put_toChip]; simp
@[simp] theorem put_boot (s : State) : (put s c).boot = c.boot := by rw [put_toChip]; simp
@[simp] theorem put_objs (s : State) : (put s c).objs = c.objs := by rw [put_toChip]; simp
@[simp] theorem put_dict (s : State) : (put s c).dict = c.dict := by rw [put_toChip]; simp
@[simp] theorem put_sp (s : State) : (put s c).sp = c.sp := by rw [put_toChip]; simp
@[simp] theorem put_geo (s : State) : (put s c).geo = c.geo := by rw [put_toChip]; simp
@[simp] theorem put_xf (s : State) : (put s c).xf = c.xf := by rw [put_toChip]; simp
@[simp] theorem put_lap (s : State) : (put s c).lap = c.lap := by rw [put_toChip]; simp
@[simp] theorem put_bel (s : State) : (put s c).bel = c.bel := by rw [put_toChip]; simp
@[simp] theorem put_pat (s : State) : (put s c).pat = c.pat := by rw [put_toChip]; simp
@[simp] theorem put_peer (s : State) : (put s c).peer = c.peer := by rw [put_toChip]; simp
@[simp] theorem put_coh (s : State) : (put s c).coh = c.coh := by rw [put_toChip]; simp
@[simp] theorem put_dbl (s : State) : (put s c).dbl = c.dbl := by rw [put_toChip]; simp
@[simp] theorem put_clk (s : State) : (put s c).clk = c.clk := by rw [put_toChip]; simp
@[simp] theorem put_sec (s : State) : (put s c).sec = c.sec := by rw [put_toChip]; simp
@[simp] theorem put_free (s : State) : (put s c).free = c.free := by rw [put_toChip]; simp

end Sys2Proof.Machine
end

