-- ==== Sys2Proof/Laws/Ops.lean ====
section
/-! SUPPORT. What the shared operations can do, said once each: how a command ends, how a request is answered, what the pools hand out. -/

namespace Sys2Proof.Machine

/-! How a command ends. -/

/-- A due event becomes its effect. -/
theorem event_due {n : String} {d : Bool} (h : d = true) (c : Chip) (s : State) : event n d c s = .next (put s c) := if_pos h

/-- Every command is one event: its condition, its effect, its name. -/
theorem exec_event (i : Instr) (s : State) : ∃ n d c, exec i s = event n d c s := by
  cases i with
  | tallyForward inbound => cases inbound <;> exact ⟨_, _, _, rfl⟩
  | geodeStateAck sp seg g change => cases change <;> exact ⟨_, _, _, rfl⟩
  | forwardedWrite answer tag i sub payload => cases answer <;> exact ⟨_, _, _, rfl⟩
  | _ => exact ⟨_, _, _, rfl⟩

/-- A due event of a block that runs becomes its effect (R340). -/
theorem eventOn_due {b : Nat} {n : String} {d : Bool} {s : State} (hb : blockRuns s.toChip b = true) (h : d = true) (c : Chip) :
    eventOn b n d c s = .next (put s c) := by simp [eventOn, event, hb, h]

/-! Responses (R30, R33). -/

@[simp] theorem grantTurn_dict (c : Chip) (src : Src) :
    (grantTurn c src).dict = { c.dict with ptr := (grantTurn c src).dict.ptr } := by
  unfold grantTurn; split <;> rfl

theorem grantTurn_spec (c : Chip) (src : Src) : ∃ p, grantTurn c src = { c with dict := { c.dict with ptr := p } } := by
  unfold grantTurn
  split
  · exact ⟨c.dict.ptr, rfl⟩
  · exact ⟨_, rfl⟩

theorem commitDrained_spec (c : Chip) : ∃ pe ob, commitDrained c = { c with peer := pe, objs := ob } := by
  unfold commitDrained
  split <;> exact ⟨_, _, rfl⟩

theorem untrack_spec (c : Chip) (id : Nat) : ∃ pe ob, untrack c id = { c with peer := pe, objs := ob } := by
  obtain ⟨pe, ob, h⟩ := commitDrained_spec { c with peer := { c.peer with packets := c.peer.packets.filter fun y => y.id != id } }
  exact ⟨pe, ob, h⟩

theorem refuse_spec (c : Chip) (node code detail : Nat) (w : Option Nat) :
    ∃ pe o ob, refuse c node code detail w = { c with peer := pe, out := o, objs := ob } := by
  cases w <;> exact ⟨_, _, _, rfl⟩

/-- The answer to a post touches the gateway, what was sent and statistics only. -/
theorem peerAnswer_spec (c : Chip) (rec : Bytes) (st : Nat) :
    ∃ pe o ob, peerAnswer c rec st = { c with peer := pe, out := o, objs := ob } := by
  unfold peerAnswer
  split
  · exact ⟨_, _, _, rfl⟩
  · dsimp only
    split
    · exact ⟨_, _, _, rfl⟩
    · obtain ⟨pe, ob, h⟩ := untrack_spec _ _
      rw [h]
      split
      · exact ⟨_, _, _, rfl⟩
      · exact ⟨_, _, _, rfl⟩

/-- A response is the last response and changes the dictionary service and what was sent; the answer to a post changes the gateway and its
statistics too. Nothing else changes. -/
theorem respond_spec (c : Chip) (src : Src) (rq : Req) (st total : Nat) (p : Bytes) :
    ∃ d o pe ob, respond c src rq st total p = { c with dict := d, out := o, peer := pe, objs := ob }
      ∧ d.lastResp = some ⟨rq.op, st, rq.tag, rq.index, rq.sub, total, if st = 0 then p else []⟩
      ∧ d.staged = c.dict.staged ∧ d.views = c.dict.views ∧ d.store = c.dict.store
      ∧ (src ≠ .peer → pe = c.peer ∧ ob = c.objs) := by
  obtain ⟨k, hk⟩ := grantTurn_spec c src
  unfold respond post
  rw [hk]
  cases src with
  | mbox q =>
    simp only [mboxAnswer, setMbox]
    split
    · exact ⟨_, _, _, _, rfl, rfl, rfl, rfl, rfl, fun _ => ⟨rfl, rfl⟩⟩
    · split <;> exact ⟨_, _, _, _, rfl, rfl, rfl, rfl, rfl, fun _ => ⟨rfl, rfl⟩⟩
  | sideband =>
    simp only [sidebandAnswer, sidebandSend, emit]
    split <;> exact ⟨_, _, _, _, rfl, rfl, rfl, rfl, rfl, fun _ => ⟨rfl, rfl⟩⟩
  | peer =>
    simp only
    obtain ⟨pe, o, ob, h⟩ := peerAnswer_spec { c with dict := { c.dict with ptr := k, lastResp :=
      (some (Resp.mk rq.op st rq.tag rq.index rq.sub total (if st = 0 then p else []))) } } rq.payload st
    rw [h]
    exact ⟨_, _, _, _, rfl, rfl, rfl, rfl, rfl, fun h => absurd rfl h⟩
  | forwarded => exact ⟨_, _, _, _, rfl, rfl, rfl, rfl, rfl, fun _ => ⟨rfl, rfl⟩⟩

/-- A write that the checks refuse is answered with their status, and that is all (R34). -/
theorem serve_refused {h : Chip → Nat × Chip} {src : Src} {rq : Req} {c : Chip} (hc : check c src rq ≠ 0) :
    serve h src rq c = respond c src rq (check c src rq) 0 [] := by
  simp [serve, hc]

/-- A write that this unit serves is handled by its part, and then answered or mirrored (R34, R287). -/
theorem serve_handled {h : Chip → Nat × Chip} {src : Src} {rq : Req} {c : Chip} (hc : check c src rq = 0) (hf : forwards c rq = false) :
    serve h src rq c = finishWrite (h c).2 src rq (h c).1 0 := by
  simp [serve, hc, hf]

/-- A write of an object that is not mirrored is answered at once. -/
theorem finishWrite_plain {c : Chip} {src : Src} {rq : Req} {st total : Nat} (hm : mirrorEntry rq.index rq.sub = none) :
    finishWrite c src rq st total = respond c src rq st total [] := by
  simp [finishWrite, hm]

/-- Outside a leading unit every write is answered at once. -/
theorem finishWrite_alone {c : Chip} {src : Src} {rq : Req} {st total : Nat} (hl : leadsMirror c = false) :
    finishWrite c src rq st total = respond c src rq st total [] := by
  unfold finishWrite
  split <;> simp [hl]

/-! The level-sensitive outputs. -/

/-- INTA of one port does not bear on what INTA of the other, or SB_ALERT_N, should be. -/
theorem sbAlertWanted_settleInta (c : Chip) (p : HPort) : sbAlertWanted (settleInta c p) = sbAlertWanted c := by
  simp [sbAlertWanted, tocLow, anyLevel, obj]

theorem port_settleInta (c : Chip) (p : HPort) :
    (settleInta c p).port = setTwo c.port p { two c.port p with inta := intaWanted c p } := by
  unfold settleInta
  dsimp only
  split
  · rename_i h
    have h' : (two c.port p).inta = intaWanted c p := by simpa [getPort] using h
    cases p <;> simp [setTwo, two] at * <;> rw [← h']
  · split <;> rfl

theorem intaWanted_settleInta (c : Chip) (p q : HPort) : intaWanted (settleInta c p) q = intaWanted c q := by
  cases p <;> cases q <;>
    simp [intaWanted, intxStatus, tocsinPending, tocsinSummary, tocGroups, tocLow, anyLevel, linkIsUp, getPort, two, setTwo, port_settleInta]

/-- After `settle` the outputs are where the state puts them. -/
theorem settle_settled (c : Chip) : OutputsSettled (settle c) := by
  unfold OutputsSettled settle
  refine ⟨?_, ?_, ?_⟩
  · simp [sbAlertWanted_settleInta]
    simp [settleAlert, sbAlertWanted, tocLow, anyLevel, obj]
  · rw [intaWanted_settleInta, port_settleInta, intaWanted_settleInta]
    simp [port_settleInta, setTwo, intaWanted_settleInta]
  · rw [intaWanted_settleInta, port_settleInta]
    simp [setTwo]

/-- `put` leaves the outputs settled. -/
theorem put_settled (s : State) (c : Chip) : OutputsSettled (put s c).toChip := settle_settled c

/-! Bytes and digests. -/

@[simp] theorem length_leBytes (n v : Nat) : (leBytes n v).length = n := by
  induction n generalizing v with
  | zero => rfl
  | succ n ih => simp [leBytes, ih]

/-- A little-endian value that fits its bytes reads back. -/
theorem leNat_leBytes (n v : Nat) (h : v < 256 ^ n) : leNat (leBytes n v) = v := by
  induction n generalizing v with
  | zero => simp at h; simp [leBytes, leNat, h]
  | succ n ih =>
    have := ih (v / 256) (by rw [Nat.pow_succ] at h; omega)
    simp [leBytes, leNat, this]
    omega

/-- A digest has 48 bytes. -/
theorem sha384_length (bs : Bytes) : (sha384 bs).length = 48 := by simp [sha384, wordBytes]

/-- A field that lies in the first part of a byte string. -/
theorem bfld_append {a b : Bytes} {o n : Nat} (h : o + n ≤ a.length) : bfld (a ++ b) o n = bfld a o n := by
  unfold bfld
  rw [List.drop_append_of_le_length (by omega), List.take_append_of_le_length (by simp; omega)]

end Sys2Proof.Machine
end

