-- ==== Sys2Proof/Laws/Tables.lean ====
section
/-! SUPPORT. Tables: a read after a write, and the canonical form (keys strictly rising) that every update keeps; then the getters and setters
of the unit's tables. -/

namespace Sys2Proof.Machine

variable {α : Type}

@[simp] theorem tget_tset_self (t : Tab α) (k : Nat) (v : α) : tget (tset t k v) k = some v := by
  induction t with
  | nil => simp [tset, tget]
  | cons x r ih =>
    obtain ⟨j, w⟩ := x
    simp only [tset]
    split
    · simp [tget]
    · split
      · simp [tget]
      · rename_i h; simp [tget, Ne.symm h, ih]

theorem tget_tset_ne (t : Tab α) {k j : Nat} (v : α) (h : j ≠ k) : tget (tset t k v) j = tget t j := by
  induction t with
  | nil => simp [tset, tget, Ne.symm h]
  | cons x r ih =>
    obtain ⟨i, w⟩ := x
    simp only [tset]
    split
    · simp [tget, Ne.symm h]
    · split
      · rename_i e; subst e; simp [tget, Ne.symm h]
      · simp [tget, ih]

@[simp] theorem tget_tdel_self (t : Tab α) (k : Nat) : tget (tdel t k) k = none := by
  induction t with
  | nil => rfl
  | cons x r ih =>
    obtain ⟨j, w⟩ := x
    simp only [tdel]
    split
    · exact ih
    · rename_i h; simp [tget, h, ih]

theorem tget_tdel_ne (t : Tab α) {k j : Nat} (h : j ≠ k) : tget (tdel t k) j = tget t j := by
  induction t with
  | nil => rfl
  | cons x r ih =>
    obtain ⟨i, w⟩ := x
    simp only [tdel]
    split
    · rename_i e; subst e; simp [tget, Ne.symm h, ih]
    · simp [tget, ih]

/-- A read of the key that was written gives the value, listed or not. -/
@[simp] theorem tgetD_tput_self [DecidableEq α] (t : Tab α) (d : α) (k : Nat) (v : α) : tgetD (tput t d k v) k d = v := by
  unfold tput tgetD
  split <;> simp_all

/-- A write leaves every other key's value. -/
theorem tgetD_tput_ne [DecidableEq α] (t : Tab α) (d e : α) {k j : Nat} (v : α) (h : j ≠ k) : tgetD (tput t d k v) j e = tgetD t j e := by
  unfold tput tgetD
  split
  · rw [tget_tdel_ne t h]
  · rw [tget_tset_ne t v h]

/-! The canonical form. -/

theorem tsorted_tail {x : Nat × α} {t : Tab α} (h : tsorted (x :: t) = true) : tsorted t = true := by
  cases t with
  | nil => rfl
  | cons y r => obtain ⟨j, w⟩ := x; obtain ⟨k, v⟩ := y; simp [tsorted] at h; exact h.2

/-- Every key of a table exceeds a bound. -/
def above (b : Nat) (t : Tab α) : Prop := ∀ x ∈ t, b < x.1

theorem tsorted_cons {j : Nat} {w : α} {t : Tab α} : tsorted ((j, w) :: t) = true ↔ above j t ∧ tsorted t = true := by
  induction t generalizing j w with
  | nil => simp [tsorted, above]
  | cons y r ih =>
    obtain ⟨k, v⟩ := y
    simp only [tsorted, Bool.and_eq_true, decide_eq_true_eq, above, List.mem_cons, forall_eq_or_imp]
    constructor
    · rintro ⟨h1, h2⟩
      exact ⟨⟨h1, fun x hx => Nat.lt_trans h1 ((ih.mp h2).1 x hx)⟩, h2⟩
    · rintro ⟨⟨h1, -⟩, h3⟩
      exact ⟨h1, h3⟩

theorem above_tset {b k : Nat} {v : α} {t : Tab α} (h : above b t) (hk : b < k) : above b (tset t k v) := by
  induction t with
  | nil => intro x hx; simp [tset] at hx; subst hx; exact hk
  | cons y r ih =>
    obtain ⟨j, w⟩ := y
    have hj : b < j := h (j, w) (by simp)
    have hr : above b r := fun x hx => h x (by simp [hx])
    simp only [tset]
    split
    · intro x hx; simp at hx; rcases hx with rfl | rfl | hx
      · exact hk
      · exact hj
      · exact hr _ hx
    · split
      · intro x hx; simp at hx; rcases hx with rfl | hx
        · exact hk
        · exact hr _ hx
      · intro x hx; simp at hx; rcases hx with rfl | hx
        · exact hj
        · exact ih hr _ hx

/-- A write keeps the keys strictly rising. -/
theorem tsorted_tset {t : Tab α} (k : Nat) (v : α) (h : tsorted t = true) : tsorted (tset t k v) = true := by
  induction t with
  | nil => rfl
  | cons y r ih =>
    obtain ⟨j, w⟩ := y
    have ⟨h1, h2⟩ := tsorted_cons.mp h
    simp only [tset]
    split
    · rename_i hkj
      refine tsorted_cons.mpr ⟨?_, h⟩
      intro x hx; simp at hx; rcases hx with rfl | hx
      · exact hkj
      · exact Nat.lt_trans hkj (h1 _ hx)
    · split
      · rename_i e; subst e; exact tsorted_cons.mpr ⟨h1, h2⟩
      · exact tsorted_cons.mpr ⟨above_tset h1 (by omega), ih h2⟩

theorem above_tdel {b k : Nat} {t : Tab α} (h : above b t) : above b (tdel t k) := by
  induction t with
  | nil => exact h
  | cons y r ih =>
    obtain ⟨j, w⟩ := y
    have hr : above b r := fun x hx => h x (by simp [hx])
    simp only [tdel]
    split
    · exact ih hr
    · intro x hx; simp at hx; rcases hx with rfl | hx
      · exact h _ (by simp)
      · exact ih hr _ hx

/-- A removal keeps the keys strictly rising. -/
theorem tsorted_tdel {t : Tab α} (k : Nat) (h : tsorted t = true) : tsorted (tdel t k) = true := by
  induction t with
  | nil => rfl
  | cons y r ih =>
    obtain ⟨j, w⟩ := y
    have ⟨h1, h2⟩ := tsorted_cons.mp h
    simp only [tdel]
    split
    · exact ih h2
    · exact tsorted_cons.mpr ⟨above_tdel h1, ih h2⟩

/-- A write of a table with a default keeps the keys strictly rising. -/
theorem tsorted_tput [DecidableEq α] {t : Tab α} (d : α) (k : Nat) (v : α) (h : tsorted t = true) : tsorted (tput t d k v) = true := by
  unfold tput
  split
  · exact tsorted_tdel k h
  · exact tsorted_tset k v h

/-! The unit's tables. -/

variable (c : Chip)

@[simp] theorem obj_setObj_self (i s v : Nat) : obj (setObj c i s v) i s = v := tgetD_tput_self c.objs (objDefault i s) (objKey i s) v
theorem obj_setObj_ne (i s v : Nat) {j r : Nat} (h : objKey j r ≠ objKey i s) : obj (setObj c i s v) j r = obj c j r :=
  tgetD_tput_ne c.objs (objDefault i s) (objDefault j r) v h
@[simp] theorem getSpace_setSpace (s : Nat) (v : Space) : getSpace (setSpace c s v) s = v := tgetD_tput_self _ _ _ _
@[simp] theorem getQueue_setQueue (q : Nat) (v : Queue) : getQueue (setQueue c q v) q = v := tgetD_tput_self _ _ _ _
@[simp] theorem getChan_setChan (k : Nat) (v : Channel) : getChan (setChan c k v) k = v := tgetD_tput_self _ _ _ _
@[simp] theorem getTable_setTable (t : Nat) (v : Table) : getTable (setTable c t v) t = v := tgetD_tput_self _ _ _ _
@[simp] theorem getPat_setPat (p : Nat) (v : Pattern) : getPat (setPat c p v) p = v := tgetD_tput_self _ _ _ _
@[simp] theorem getSlot_setSlot (s : Nat) (v : Slot) : getSlot (setSlot c s v) s = v := tgetD_tput_self _ _ _ _
@[simp] theorem getClu_setClu (k : Nat) (v : Cluster) : getClu (setClu c k v) k = v := tgetD_tput_self _ _ _ _
@[simp] theorem getSrc_setSrc (n : Nat) (v : SrcSt) : getSrc (setSrc c n v) n = v := tgetD_tput_self _ _ _ _

theorem getQueue_setQueue_ne (q : Nat) (v : Queue) {r : Nat} (h : r ≠ q) : getQueue (setQueue c q v) r = getQueue c r := tgetD_tput_ne _ _ _ _ h
theorem getChan_setChan_ne (k : Nat) (v : Channel) {r : Nat} (h : r ≠ k) : getChan (setChan c k v) r = getChan c r := tgetD_tput_ne _ _ _ _ h
theorem getTable_setTable_ne (t : Nat) (v : Table) {r : Nat} (h : r ≠ t) : getTable (setTable c t v) r = getTable c r := tgetD_tput_ne _ _ _ _ h
theorem getPat_setPat_ne (p : Nat) (v : Pattern) {r : Nat} (h : r ≠ p) : getPat (setPat c p v) r = getPat c r := tgetD_tput_ne _ _ _ _ h
theorem getSlot_setSlot_ne (s : Nat) (v : Slot) {r : Nat} (h : r ≠ s) : getSlot (setSlot c s v) r = getSlot c r := tgetD_tput_ne _ _ _ _ h
theorem getClu_setClu_ne (k : Nat) (v : Cluster) {r : Nat} (h : r ≠ k) : getClu (setClu c k v) r = getClu c r := tgetD_tput_ne _ _ _ _ h
theorem getSrc_setSrc_ne (n : Nat) (v : SrcSt) {r : Nat} (h : r ≠ n) : getSrc (setSrc c n v) r = getSrc c r := tgetD_tput_ne _ _ _ _ h

theorem getSpace_setSpace_ne (s : Nat) (v : Space) {r : Nat} (h : r ≠ s) : getSpace (setSpace c s v) r = getSpace c r :=
  tgetD_tput_ne _ _ _ _ h

end Sys2Proof.Machine
end

