-- ==== Sys2Proof/WellFormed.lean ====
section
/-! DEFINITION. Well-formed commands: every operand fits the field or the range of numbers that the spec gives it. A value the spec makes a
request's answer depend on (a wrong size, a value out of range) is well-formed: refusing it is the unit's part. -/

namespace Sys2Proof

/-- Is a number below its bound? -/
def fits (v b : Nat) : Bool := v < b

/-- The sizes of a host memory access to a register (R306). -/
def accessSize (n : Nat) : Bool := n == 1 || n == 2 || n == 4 || n == 8

/-- A well-formed command. -/
def Instr.wf (i : Instr) : Bool :=
  match i with
  | .unitPwrgoodAssert => true
  | .unitReset _ => true
  | .resetRelease => true
  | .sourceReady _ => true
  | .storeLoad copyA copyB => fits copyA.length 262145 && fits copyB.length 262145
  | .bootClockSwitch _ count => fits count (2 ^ 32)
  | .xrefReadyTimeout _ now => fits now (2 ^ 64)
  | .firmwareRelease => true
  | .firmwareVerifyFailAtReset reason => fits reason 9
  | .modeRequest _ tag v => fits tag (2 ^ 16) && fits v 256
  | .roughSettled => true
  | .roughExit _ tag v => fits tag (2 ^ 16) && fits v 256
  | .mboxGo _ => true
  | .mboxAck _ => true
  | .protoErrClear _ => true
  | .registerWrite _ _ off size value => fits off (2 ^ 24) && fits value (2 ^ 64) && accessSize size
  | .sidebandMessage body => fits body.length 2052
  | .read _ tag index sub len => fits tag (2 ^ 16) && fits index (2 ^ 16) && fits sub 256 && fits len (2 ^ 32)
  | .write _ tag index sub payload => fits tag (2 ^ 16) && fits index (2 ^ 16) && fits sub 256 && fits payload.length 2033
  | .describe _ tag index sub len => fits tag (2 ^ 16) && fits index (2 ^ 16) && fits sub 256 && fits len (2 ^ 32)
  | .readSeg _ tag index sub len off => fits tag (2 ^ 16) && fits index (2 ^ 16) && fits sub 256 && fits len (2 ^ 32) && fits off (2 ^ 32)
  | .writeSeg _ tag index sub off flags payload => fits tag (2 ^ 16) && fits index (2 ^ 16) && fits sub 256 && fits off (2 ^ 32) && fits flags 256 && fits payload.length 2033
  | .domainStageTimeout _ index sub now => fits index (2 ^ 16) && fits sub 256 && fits now (2 ^ 64)
  | .readViewTimeout _ index sub now => fits index (2 ^ 16) && fits sub 256 && fits now (2 ^ 64)
  | .setEndpointId eid => fits eid 256
  | .getEndpointId => true
  | .getMctpVersionSupport => true
  | .getMessageTypeSupport => true
  | .getVendorDefinedMessageSupport => true
  | .configCommit _ tag v => fits tag (2 ^ 16) && fits v 256
  | .configCommitComplete _ => true
  | .spaceCreate _ tag sp => fits tag (2 ^ 16) && fits sp 1024
  | .spaceGoLive _ tag sp => fits tag (2 ^ 16) && fits sp 1024
  | .spaceInvalidate _ tag sp => fits tag (2 ^ 16) && fits sp 1024
  | .spaceRetire _ tag sp => fits tag (2 ^ 16) && fits sp 1024
  | .segmentDescriptorWrite _ tag sp n payload => fits tag (2 ^ 16) && fits sp 1024 && fits n 16 && fits payload.length 65
  | .bumpCounterFree _ => true
  | .bumpDrainComplete _ => true
  | .bumpFlushReadComplete _ => true
  | .drainAlertExpiry _ now => fits now (2 ^ 64)
  | .atsInvalidateRequest _ itag _ => fits itag 32
  | .facetLoadBuild _ tag payload => fits tag (2 ^ 16) && fits payload.length 33
  | .facetLoadFill _ tag payload => fits tag (2 ^ 16) && fits payload.length 33
  | .facetLoadComplete _ => true
  | .cutJobGrant cutter q e _ _ _ => fits cutter 16 && fits q 4096 && fits e (2 ^ 32)
  | .facetCacheMissReturn cutter _ => fits cutter 16
  | .cutListRetry cutter => fits cutter 16
  | .atsTranslationCompletion cutter _ => fits cutter 16
  | .priPageResponse _ page _ => fits page (2 ^ 52)
  | .sideCutComplete cutter => fits cutter 16
  | .nodeRecut q e _ => fits q 4096 && fits e (2 ^ 32)
  | .faultTimeoutExpiry q e _ now => fits q 4096 && fits e (2 ^ 32) && fits now (2 ^ 64)
  | .mapBuildFillDone => true
  | .promotionTokenAccrue => true
  | .promotionStart other => (other.map fun k => fits k (2 ^ 30)).getD true
  | .promotionCopyComplete sp _ _ => fits sp 1024
  | .promotionCopyFail sp _ _ => fits sp 1024
  | .sweepVisit list => fits list 4
  | .writeBackComplete sp _ _ => fits sp 1024
  | .writeBackFail sp _ _ => fits sp 1024
  | .writeBackRequest _ tag payload => fits tag (2 ^ 16) && fits payload.length 9
  | .grainProbeRequest _ tag payload => fits tag (2 ^ 16) && fits payload.length 17
  | .quarantineTimeExpiry now => fits now (2 ^ 64)
  | .farDecayVisit => true
  | .tallyForward inbound => (inbound.map fun m =>
      m.counts.all (fun x => fits x.1 1024 && fits x.2.1 16) && m.asks.all (fun x => fits x.1 1024 && fits x.2.1 16)
        && m.takes.all (fun x => fits x.1 1024 && fits x.2.1 16) && m.backs.all fun k => fits k (2 ^ 30)).getD true
  | .geodeStateAck sp _ _ change => fits sp 1024 && (change.map fun v => fits v (2 ^ 64)).getD true
  | .nodeBind q e _ => fits q 4096 && fits e (2 ^ 32)
  | .strokeIssue ch => fits ch 64
  | .requestResponse _ _ => true
  | .strokeComplete ch _ _ => fits ch 64
  | .strokeErrorRetryable ch _ _ cls => fits ch 64 && fits cls 256
  | .strokeRetryReissue ch => fits ch 64
  | .strokeErrorFatal ch _ _ cls => fits ch 64 && fits cls 256
  | .channelResume _ tag ch v => fits tag (2 ^ 16) && fits ch 64 && fits v 256
  | .paceAtTickMet q e _ now => fits q 4096 && fits e (2 ^ 32) && fits now (2 ^ 64)
  | .pacePeriodDue ch now => fits ch 64 && fits now (2 ^ 64)
  | .paceAfterChannelMet q e _ => fits q 4096 && fits e (2 ^ 32)
  | .markFire q e _ _ => fits q 4096 && fits e (2 ^ 32)
  | .scaleBankWrite _ off size value => fits off (2 ^ 20) && fits value (2 ^ 64) && accessSize size
  | .tableDefine _ tag t => fits tag (2 ^ 16) && fits t 256
  | .tableUndefine _ tag t => fits tag (2 ^ 16) && fits t 256
  | .manifestPost _ tag payload => fits tag (2 ^ 16) && fits payload.length 33
  | .manifestApplyStart => true
  | .manifestHeaderArrive _ => true
  | .grainOpen _ _ => true
  | .rowPullComplete _ _ _ => true
  | .manifestApplied => true
  | .commitStart now => fits now (2 ^ 64)
  | .commitSweepStep => true
  | .publishAck => true
  | .releaseSweepStep t => fits t 256
  | .refreshStallAlert t now => fits t 256 && fits now (2 ^ 64)
  | .lapidaryAbortRequest _ tag t => fits tag (2 ^ 16) && fits t 256
  | .doorbellWrite _ q size value => fits q 4096 && fits value (2 ^ 32) && accessSize size
  | .producerValueTake lane => fits lane 4
  | .ringFetchIssue => true
  | .ringReadComplete q _ => fits q 4096
  | .completionFlushReadComplete q e => fits q 4096 && fits e (2 ^ 32)
  | .queueCreate _ tag q => fits tag (2 ^ 16) && fits q 4096
  | .queueResume _ tag q => fits tag (2 ^ 16) && fits q 4096
  | .queueDestroy _ tag q => fits tag (2 ^ 16) && fits q 4096
  | .queueReattach _ tag q => fits tag (2 ^ 16) && fits q 4096
  | .watchdogExpiry q e now => fits q 4096 && fits e (2 ^ 32) && fits now (2 ^ 64)
  | .patternRegister _ tag p => fits tag (2 ^ 16) && fits p 1024
  | .patternCheckComplete p => fits p 1024
  | .patternRetire _ tag p => fits tag (2 ^ 16) && fits p 1024
  | .patternClear _ tag p => fits tag (2 ^ 16) && fits p 1024
  | .admissionStart _ => true
  | .admissionReadsArrive q e _ _ => fits q 4096 && fits e (2 ^ 32)
  | .joinBetweenBoundaries slot => fits slot 32
  | .stepBoundary slot now => fits slot 32 && fits now (2 ^ 64)
  | .waitTickReached q e _ now => fits q 4096 && fits e (2 ^ 32) && fits now (2 ^ 64)
  | .fenceNodeComplete q e _ => fits q 4096 && fits e (2 ^ 32)
  | .runDispatch cluster => fits cluster 16
  | .runResult cluster core word => fits cluster 16 && fits core 16 && fits word (2 ^ 64)
  | .redispatchWaitExpiry q e _ now => fits q 4096 && fits e (2 ^ 32) && fits now (2 ^ 64)
  | .abortWaitExpiry cluster core now => fits cluster 16 && fits core 16 && fits now (2 ^ 64)
  | .switchPointBoundExpiry slot now => fits slot 32 && fits now (2 ^ 64)
  | .saveComplete q e => fits q 4096 && fits e (2 ^ 32)
  | .restoreComplete q e => fits q 4096 && fits e (2 ^ 32)
  | .bootstrapCopy => true
  | .bootstrapFill => true
  | .bootstrapDescriptor => true
  | .bootstrapRun => true
  | .bootstrapWait => true
  | .bootstrapDigest => true
  | .inboundPacket node fabric len _ payload => fits node (2 ^ 16) && fits fabric (2 ^ 60) && fits len (2 ^ 16) && fits payload.length 4097
  | .inboundResponse _ _ => true
  | .peerWindowCommit _ tag v => fits tag (2 ^ 16) && fits v 256
  | .peerRequestTimeout _ now => fits now (2 ^ 64)
  | .windowEnable _ tag w => fits tag (2 ^ 16) && fits w 64
  | .windowDisable _ tag w => fits tag (2 ^ 16) && fits w 64
  | .snoop _ addr _ => fits addr (2 ^ 64)
  | .lineReadComplete _ addr line => fits addr (2 ^ 64) && line.length == 64
  | .windowResume _ => true
  | .bridgeUp => true
  | .joinMessage stepping version => fits stepping 256 && fits version (2 ^ 32)
  | .joinReady reason partnerTick => fits reason 256 && fits partnerTick (2 ^ 64)
  | .joinTick now => fits now (2 ^ 64)
  | .joinTimeout now => fits now (2 ^ 64)
  | .bridgeFlush => true
  | .flushDone => true
  | .keepalive now => fits now (2 ^ 64)
  | .bridgeLossTimeout now => fits now (2 ^ 64)
  | .partnerFatal => true
  | .partnerDrained => true
  | .forwardedWrite answer tag index sub payload => answer.all (fits · 10) && fits tag (2 ^ 16) && fits index (2 ^ 16) && fits sub 256 && fits payload.length 1048577
  | .mirrorUpdate _ num seq _ => fits num (2 ^ 16) && fits seq (2 ^ 32)
  | .mirrorAck _ num => fits num (2 ^ 16)
  | .mirrorAudit _ num seq digest => fits num (2 ^ 16) && fits seq (2 ^ 32) && digest.length == 48
  | .perstAssert _ => true
  | .perstDeassert _ => true
  | .hotReset _ => true
  | .linkDown _ => true
  | .lossOfLightTimeout _ now => fits now (2 ^ 64)
  | .linkUp _ rate width => fits rate 256 && fits width 17
  | .linkRecovery _ => true
  | .initiateFlr _ => true
  | .bmeClear _ => true
  | .d3hotEntry _ => true
  | .configWrite _ _ v => fits v (2 ^ 32)
  | .portAttach _ tag _ => fits tag (2 ^ 16)
  | .portDetach _ tag _ => fits tag (2 ^ 16)
  | .completionTimeout _ now => fits now (2 ^ 64)
  | .l0pEntry _ now => fits now (2 ^ 64)
  | .l1Entry _ now => fits now (2 ^ 64)
  | .linkPowerExit _ => true
  | .opticalPoll _ light faults temp state now => fits light (2 ^ 16) && fits faults (2 ^ 16) && fits temp 256 && fits state 256 && fits now (2 ^ 64)
  | .opticalEngineFault _ lanes width => fits lanes (2 ^ 16) && fits width 17
  | .romRead _ off len => fits off (2 ^ 24) && fits len (2 ^ 32)
  | .carillonNowLowRead _ => true
  | .carillonNowHighRead _ => true
  | .intxMgmtClear _ => true
  | .ptmRequest now => fits now (2 ^ 64)
  | .ptmResponse master now => fits master (2 ^ 64) && fits now (2 ^ 64)
  | .ppsEdge now => fits now (2 ^ 64)
  | .timeStep _ tag v => fits tag (2 ^ 16) && fits v (2 ^ 64)
  | .align _ tag v => fits tag (2 ^ 16) && fits v 256
  | .holdoverEntryExpiry now => fits now (2 ^ 64)
  | .monitorWindowEnd m count => fits m 7 && fits count (2 ^ 32)
  | .pllStart _ tag k => fits tag (2 ^ 16) && fits k 4
  | .pllStop _ tag k => fits tag (2 ^ 16) && fits k 4
  | .pllLockTimeout k now => fits k 4 && fits now (2 ^ 64)
  | .domainSourceWrite _ tag d v => fits tag (2 ^ 16) && fits d 26 && fits v 256
  | .muxSwitchDone d => fits d 26
  | .meterRequest _ tag payload => fits tag (2 ^ 16) && fits payload.length 9
  | .meterWindowEnd count => fits count (2 ^ 32)
  | .meterStall => true
  | .clockEnableSet _ tag v => fits tag (2 ^ 16) && fits v (2 ^ 32)
  | .clockEnableClear _ tag v => fits tag (2 ^ 16) && fits v (2 ^ 32)
  | .tocsinEvent n element level detail => fits n 192 && fits element (2 ^ 16) && fits level 5 && fits detail (2 ^ 32)
  | .graceTimerExpiry n now => fits n 192 && fits now (2 ^ 64)
  | .tocsinWindowClose n now => fits n 192 && fits now (2 ^ 64)
  | .sourceAck _ tag n => fits tag (2 ^ 16) && fits n 192
  | .clearSticky _ tag n => fits tag (2 ^ 16) && fits n 192
  | .clearAllSticky _ tag v => fits tag (2 ^ 16) && fits v 256
  | .maskWrite _ tag n v => fits tag (2 ^ 16) && fits n 192 && fits v 2
  | .telemetrySample _ power now => fits power (2 ^ 32) && fits now (2 ^ 64)
  | .rotResponse tag status payload => fits tag (2 ^ 16) && fits status 256 && fits payload.length 4097
  | .rotTimeout now => fits now (2 ^ 64)
  | .stageRequest _ tag payload => fits tag (2 ^ 16) && fits payload.length 17
  | .stageWriteComplete _ => true
  | .firmwareVerify _ tag => fits tag (2 ^ 16)
  | .verifyComplete _ => true
  | .firmwareActivate _ tag => fits tag (2 ^ 16)
  | .firmwareDiscard _ tag => fits tag (2 ^ 16)
  | .activationLoadChecked _ => true
  | .activationWindowClose => true
  | .counterRaiseRetry now => fits now (2 ^ 64)
  | .modelMeasureRequest _ tag v => fits tag (2 ^ 16) && fits v 256
  | .modelMeasureComplete _ => true
  | .tenancyAttach _ tag => fits tag (2 ^ 16)
  | .tenancyEnd _ tag => fits tag (2 ^ 16)
  | .tenancyScrub _ tag => fits tag (2 ^ 16)
  | .drainLimitExpiry now => fits now (2 ^ 64)
  | .scrubComplete => true
  | .ideCheckFailure _ stream => fits stream 5
  | .getVersion _ => true
  | .getCapabilities _ => true
  | .negotiateAlgorithms _ => true
  | .getDigests _ => true
  | .getCertificate _ slot off len => fits slot 8 && fits off (2 ^ 16) && fits len (2 ^ 16)
  | .challenge _ slot => fits slot 8
  | .getMeasurements _ block => fits block 256
  | .keyExchange _ => true
  | .finish _ => true
  | .endSession _ => true
  | .spdmHeartbeat _ => true
  | .keyUpdate _ => true
  | .ideQuery _ => true
  | .keyProg _ stream _ _ => fits stream 5
  | .kSetGo _ stream _ => fits stream 5
  | .kSetStop _ stream _ => fits stream 5
  | .linkError _ _ => true
  | .ptmResponseTimeout now => fits now (2 ^ 64)
  | .bootstrapDigestComplete => true
  | .bootstrapReadComplete _ => true

end Sys2Proof
end

