-- ==== Sys2Proof/Tests/Slice0.lean ====
section
/-! SUPPORT. Tests of the model. Small tests of one step each, and for every statement with hypotheses a witness: a concrete state and operands
that meet them together, clause by clause. Expected values come from the spec or from hand calculation by its rules. -/

set_option Elab.async false

namespace Sys2Proof.Tests
open Sys2Proof Sys2Proof.Machine

/-! Small states. -/

/-- A state of a unit with no command waiting. -/
def st (c : Chip) : State := ⟨c, []⟩

/-- A port with its link in L0 and its configuration space ready, memory and bus mastering enabled. -/
def portOn : Port := { Port.reset with perst := false, link := 2, rate := 64, width := 16, ready := true, cfg := { CfgSpace.reset with mse := true, bme := true } }

/-- A unit in NORMAL: both links up, every clock running and enabled, the tenancy OCCUPIED. -/
def unit : Chip :=
  { Chip.reset with
    mode := .normal
    boot := { BootSt.reset with pwrgood := true, rstN := true, fircOn := true, storeLoaded := true, mclkRuns := true, kclkDone := true, serialFetched := true, keyFetched := true }
    clk := { ClkSt.reset with carillon := 1000, firc := true, xref0 := true, xref1 := true, pll := [2, 2, 2, 2], armed := 127, enables := 2 ^ 20 - 1 }
    port := ⟨portOn, portOn⟩
    sec := { SecSt.reset with ten := { TenSt.reset with state := 2 } } }

/-- A request from the mailbox of Port A. -/
def fromA : Src := .mbox .a


/-! Well-formed commands: one ill-formed term for each kind of check. -/

theorem test_wf_accepts : (Instr.write .sideband 65535 65535 255 (zeros 2032)).wf = true ∧ (Instr.registerWrite .a .bar0 0xFFFFFF 8 (2 ^ 64 - 1)).wf = true ∧
    (Instr.maskWrite .sideband 0 191 1).wf = true ∧ (Instr.lineReadComplete .a 64 (zeros 64)).wf = true := by decide +kernel

theorem test_wf_refuses_tag : (Instr.read .sideband 65536 0 0 0).wf = false := by decide
theorem test_wf_refuses_index : (Instr.read .sideband 0 65536 0 0).wf = false := by decide
theorem test_wf_refuses_subindex : (Instr.read .sideband 0 0 256 0).wf = false := by decide
theorem test_wf_refuses_payload : (Instr.write .sideband 0 0 0 (zeros 2033)).wf = false := by decide +kernel
theorem test_wf_refuses_access_size : (Instr.registerWrite .a .bar0 0 3 0).wf = false := by decide
theorem test_wf_refuses_offset : (Instr.registerWrite .a .bar0 (2 ^ 24) 4 0).wf = false := by decide
theorem test_wf_refuses_tick : (Instr.graceTimerExpiry 0 (2 ^ 64)).wf = false := by decide
theorem test_wf_refuses_source : (Instr.sourceAck .sideband 0 192).wf = false := by decide
theorem test_wf_refuses_queue : (Instr.queueCreate .sideband 0 4096).wf = false := by decide
theorem test_wf_refuses_space : (Instr.spaceCreate .sideband 0 1024).wf = false := by decide
theorem test_wf_refuses_channel : (Instr.strokeIssue 64).wf = false := by decide
theorem test_wf_refuses_line_length : (Instr.lineReadComplete .a 64 (zeros 63)).wf = false := by decide
theorem test_wf_refuses_digest_length : (Instr.mirrorAudit .space 0 1 (zeros 47)).wf = false := by decide

/-- No row of the table gives bits, so no word spells a command. -/
theorem test_no_word_spells_a_command : decodeTableWord 32 0x12345678 = none ∧ State.reset.withFetchWord 32 0x12345678 = State.reset := ⟨rfl, rfl⟩

/-! Worked examples of the spec. -/

/-- The driver's request frame, byte by byte (the worked example after R45): WRITE of 2 to object 0x1100.02, TAG 0x17. -/
theorem test_request_frame : parseReq [0x02, 0x00, 0x17, 0x00, 0x00, 0x11, 0x02, 0x00, 0x01, 0, 0, 0, 0, 0, 0, 0, 0x02] = writeReq 0x17 0x1100 2 [2] := by decide

/-- The same example: stepping B1 reads 0x11, and the mode request leads to NORMAL, object 0x1100.01 = 2. -/
theorem test_mode_request_example :
    let first : Chip := { unit with mode := .rough, rough := ⟨1, true, 0xFFFF, 0, 3⟩ }
    readVal first 0x1000 5 = 0x11 ∧ (match exec (.modeRequest fromA 0x17 2) (st first) with | .next t => readVal t.toChip 0x1100 1 == 2 | _ => false) = true := by decide +kernel

/-- The promoted grain of the Geode chapter: entry 0x0007_0308_0000_0000 is FAR, SEALED, TALLY 3; step 2 makes it PROMOTING with frame 0x2_5A3C of list 1, step 8
RESIDENT and clean. -/
theorem test_geode_entry_example :
    isFar 0x0007030800000000 = true ∧ eSealed 0x0007030800000000 = true ∧ eTally 0x0007030800000000 = 3 ∧ isPromoting 0x0007040A10025A3C = true ∧
    eFrame unit 0x0007040A10025A3C = 2 ^ 28 + 0x25A3C ∧ isResident 0x0007040910025A3C = true ∧ eDirty 0x0007040910025A3C = false := by decide

/-- The narrowing of the format chapter: 1,024, −980 and 950 under 0.5 in FP8-E4M3 saturate to 0x7E, 0xFE and 0x7E (SAT 3); 700 fits. -/
theorem test_fp8_saturation_example :
    convertRun 0 3 false [(0x44800000, 0x3F000000), (0xC4750000, 0x3F000000), (0x446D8000, 0x3F000000)] = ([0x7E, 0xFE, 0x7E], ⟨3, 0, 0⟩) ∧
    (convertRun 0 3 false [(0x442F0000, 0x3F000000)]).2 = ⟨0, 0, 0⟩ := by decide +kernel

/-- RESCALE of the same stroke: s′ = 448 / 1,024 = 0.4375 (0x3EE0_0000), and 1,024 becomes 448 exactly (0x7E). -/
theorem test_rescale_example : rescaleTo 3 0 (1024, 1) = 0x3EE00000 ∧ (convertOne 0 3 false 0x3EE00000 0x44800000) = (0x7E, ⟨0, 0, 0⟩) := by decide +kernel

/-- Row 0xF_4240 of the refresh chapter: STEP 2^−7 (0x3C00_0000), s = 128, codes 0x7F (saturated), 0x80, 0x7F, 0x7F, 0x26 and 0x00 (UNF). -/
theorem test_row_example :
    rowStep 0x3F000000 5 (largestMag 0 [0x3FFE0000, 0xBFE00000]) = 0x3C000000 ∧ rowScale 0x3C000000 = 0x43000000 ∧
    (convertRun 0 5 false ([0x3FFE0000, 0xBFE00000, 0x3FC00000, 0x3F7E0000, 0x3E9A0000, 0x3B000000].map fun x => (x, 0x43000000)))
      = ([0x7F, 0x80, 0x7F, 0x7F, 0x26, 0x00], ⟨3, 1, 0⟩) ∧ rowHeader 0x3C000000 3 none = 0x400000003C000000 ∧ rowHeader 0x3D000000 11 (some 0xB83) = 0xC0000B833D000000 := by
  decide +kernel

/-- XREF0 fails under load: 300 cycles counted against 1,000 expected fail the monitor; 4,012 FIRC cycles against 4,000 pass. -/
theorem test_monitor_example : monitorBad unit 1 300 = true ∧ monitorBad unit 0 4012 = false := by decide

/-- A channel that keeps halting, step 6: the third event of source 57 in its window makes it SEVERE with the timer at 740,000,020, and the window closes. -/
theorem test_tocsin_example :
    let c := { unit with clk := { unit.clk with carillon := 640000020 } }
    let x := takeLevel c 57 { SrcSt.reset with winOpen := true, winClose := 1000000000, winN := 3, count := 2 } 9 2 0
    x.level = 3 ∧ x.timer = 740000020 ∧ x.winOpen = false := by decide

/-- The transfer of three strokes: 192 KiB in strokes of 64 KiB, the half mark in stroke 1. -/
theorem test_strokes_example : strokeCount (contigBody 1 0 0 196608) = 3 ∧ halfStroke (contigBody 1 0 0 196608) = 1 := by decide +kernel

/-- SHA-384 of "abc" (the example of FIPS 180-4). -/
theorem test_sha384_abc : leNat ((sha384 [0x61, 0x62, 0x63]).take 8) = 0x8B5EA3453F7500CB ∧ leNat ((sha384 [0x61, 0x62, 0x63]).drop 40) = 0xA725C834A1ECBA58 := by decide +kernel

/-- What is sealed at a DVA opens to the same bytes there (R99). -/
theorem test_seal_opens : xtsOpen 7 0x100000 (xtsSeal 7 0x100000 ((List.range 16).map (BitVec.ofNat 8))) = (List.range 16).map (BitVec.ofNat 8) := by decide +kernel
/-! Witnesses: the machine as a whole, the dictionary, power and modes. -/

/-- READ of an object. -/
def rd (i s : Nat) : Req := ⟨1, 0, 1, i, s, 0, 0, []⟩

/-- A segment of Pattern 1's image: flags, offset, payload. -/
def seg (fl off : Nat) (p : Bytes) : Req := ⟨5, fl, 1, 0x4001, 3, p.length, off, p⟩

/-- Pattern 1 with its run, and an image segment staged by the other master. -/
def unitImg : Chip := { unit with pat := { unit.pat with pats := [(1, { Pattern.reset with run := some (0, 0x200000) })] } }

/-- Pattern 1 staged by a master. -/
def staged1 (m : Master) : Chip := { unitImg with dict := { unit.dict with staged := [⟨m, 0x4001, 3, [1, 2], 1000⟩], views := [⟨m, 0x4001, 3, 1000⟩] } }

/-- A structure pool of 1 GiB. -/
def unitPool : Chip := setObj unit 0x3500 3 (2 ^ 64 * 2 ^ 30)

/-- Unit 0 in DOUBLET. -/
def lead : Chip := { unitImg with mode := .doublet, dbl := { DblSt.reset with state := 2, bridge := 2, wasJoined := true } }

theorem witness_EmptyQueuePassesOneTick : (st unit).pending = [] ∧ unit.boot.fircOn = true ∧ bit unit.clk.stopped 21 = false ∧ bit unit.clk.sel 21 = false := by decide

theorem witness_EveryStepSettlesOutputs : ∃ t, step (st unit) = .next t := ⟨_, rfl⟩

theorem witness_ChecksFollowTheirOrder :
    unit.boot.mclkRuns = true ∧ ((objRows 0x0FFF).isEmpty = true ∧ objRow 0x0FFF 0 = none) ∧ ((objRows 0x1000).isEmpty = false ∧ objRow 0x1000 0xFE = none) ∧
    ((objRow 0x1000 4).isSome = true) ∧
    check unit .sideband (rd 0x0FFF 0) = 1 ∧ check unit .sideband (rd 0x1000 0xFE) = 2 ∧ check unit .sideband { rd 0x1000 4 with op := 6 } = 4 ∧
    check { unit with mode := .boot } .sideband (rd 0x5000 1) = 7 ∧ check { unit with clk := ClkSt.reset } .sideband (rd 0x2000 1) = 9 ∧
    check unit .sideband (writeReq 1 0x1000 4 [0]) = 3 ∧ check unit .sideband (rd 0x4001 3) = 4 ∧ check unit fromA (writeReq 1 0x4001 3 [0]) = 4 ∧
    check unit .sideband { rd 0x1000 4 with len := 1 } = 8 ∧ check unit .sideband (writeReq 1 0x1300 8 [0]) = 8 ∧
    check unit fromA { seg 0 0 [] with len := 2033 } = 8 := by decide

theorem witness_RefusedRequestsHaveNoEffect :
    (presents unit .sideband (writeReq 1 0x0FFF 0 []) = true ∧ check unit .sideband (writeReq 1 0x0FFF 0 []) ≠ 0) ∧
    (presents unit .sideband (rd 0x0FFF 0) = true ∧ check unit .sideband (rd 0x0FFF 0) ≠ 0) ∧
    (presents unit .sideband { rd 0x0FFF 0 with op := 3 } = true ∧ check unit .sideband { rd 0x0FFF 0 with op := 3 } ≠ 0) ∧
    (presents unit .sideband ⟨5, 0, 1, 0x0FFF, 0, 0, 0, []⟩ = true ∧ check unit .sideband ⟨5, 0, 1, 0x0FFF, 0, 0, 0, []⟩ ≠ 0) := by decide

theorem witness_ReadsReturnTheValue :
    (Passes (st unit) .sideband (rd 0x1000 5) ∧ identWaits unit 0x1000 5 = false) ∧
    (Passes (st { unit with boot := { unit.boot with serialFetched := false } }) .sideband (rd 0x1000 6)
      ∧ identWaits { unit with boot := { unit.boot with serialFetched := false } } 0x1000 6 = true) ∧
    (Passes (st unit) .sideband { rd 0x1000 5 with op := 3 } ∧ (objRow 0x1000 5).isSome = true ∧ (objRow 0x1000 5).map (fun r => r.typ) ≠ some 12) ∧
    Passes (st unit) fromA ⟨4, 0, 1, 0x4000, 3, 16, 0, []⟩ ∧ Passes (st unit) fromA ⟨4, 0, 1, 0x43FF, 3, 16, 0, []⟩ := by decide

theorem witness_WriteStoresTheValue : Serves (st unit) .sideband (writeReq 1 0x1300 8 (leBytes 8 20)) ∧ Serves (st unit) fromA (writeReq 1 0x3500 6 (leBytes 1 255)) := by decide

theorem witness_SegmentsStage :
    (Passes (st unitImg) fromA (seg 0 0 [7]) ∧ imageOpen unitImg 1 = true ∧ (getPat unitImg 1).run.isSome = true ∧ stagedOf unitImg (otherMaster (masterOf fromA)) 0x4001 3 = none) ∧
    (Passes (st (staged1 .h)) fromA (seg 2 9 []) ∧ (stagedOf (staged1 .h) (masterOf fromA) 0x4001 3).isSome = true) ∧
    (Passes (st (staged1 .s)) fromA (seg 0 3 [7]) ∧ stagedOf (staged1 .s) (masterOf fromA) 0x4001 3 = none) ∧
    (Passes (st (staged1 .s)) fromA (seg 0 0 [7]) ∧ imageOpen (staged1 .s) 1 = true ∧ (stagedOf (staged1 .s) (otherMaster (masterOf fromA)) 0x4001 3).isSome = true) ∧
    (Serves (st unitPool) fromA (seg 0 0 [7]) ∧ imageOpen unitPool 1 = true ∧ (getPat unitPool 1).run = none ∧ (spAlloc unitPool 0x200000).isSome = true) := by decide

theorem witness_SegmentsTimeOut :
    (stagedOf (staged1 .h) .h 0x4001 3).map (fun x => x.last + 100000000) = some 100001000 ∧ 100001000 ≤ max (staged1 .h).clk.carillon (100001000 % 2 ^ 64) ∧
    (∃ x, x ∈ (staged1 .h).dict.views ∧ x.isFor .h 0x4001 3 = true ∧ x.last + 100000000 ≤ max (staged1 .h).clk.carillon (100001000 % 2 ^ 64)) :=
  ⟨by decide, by decide, _, List.mem_cons_self, by decide, by decide⟩

theorem witness_ForwardedWritesAreServed :
    (presents lead .forwarded (writeReq 1 0x3001 2 [1]) = true ∧ (mirrorEntry 0x3001 2).isSome = true ∧ check lead .forwarded (writeReq 1 0x3001 2 [1]) = 0) ∧
    (presents lead .forwarded ⟨5, 1, 1, 0x4001, 3, 1, 0, [7]⟩ = true ∧ isGated lead 0x4001 = false ∧ imageOpen lead 1 = true ∧ (getPat lead 1).run.isSome = true) := by decide

/-- A unit whose Port A mailbox stands in a state. -/
def mboxIn (m : MboxState) : Chip := setMbox unit .a { Mbox.reset with state := m, req := [(0, 1)] }

theorem witness_MailboxHandshake :
    (hostReach (mboxIn .idle) .a = true ∧ hostDecodes (mboxIn .idle) .a = true ∧ (two (mboxIn .idle).dict.mbox .a).state = .idle
      ∧ answersAtOnce (parseReq (requestHalf (two (mboxIn .idle).dict.mbox .a))) = false) ∧
    (hostReach (mboxIn .busy) .a = true ∧ hostDecodes (mboxIn .busy) .a = true ∧ (two (mboxIn .busy).dict.mbox .a).state ≠ .idle ∧ (two (mboxIn .busy).dict.mbox .a).state ≠ .done) ∧
    (hostReach (mboxIn .done) .a = true ∧ hostDecodes (mboxIn .done) .a = true ∧ (two (mboxIn .done).dict.mbox .a).state = .done) := by decide

/-- A side-band message of the unit's vendor that carries a READ of object 0x1000.05. -/
def sbRead : Bytes := leBytes 2 Config.pciVendorId.toNat ++ [1, 0, 9, 0, 0, 0x10, 5, 0, 0, 0, 0, 0, 0, 0, 0, 0]

theorem witness_SidebandPresents_vendor : bfld sbRead 0 2 = Config.pciVendorId.toNat := by
  have h : Config.pciVendorId.toNat < 65536 := Config.pciVendorId.isLt
  simp [sbRead, bfld, leBytes, leNat]
  omega

theorem witness_SidebandPresents :
    sidebandUp unit = true ∧ sbRead.length = 18 ∧ (parseReq (sbRead.drop 2)).op = 1 ∧ (sbRead.drop 2).length - 16 = (parseReq (sbRead.drop 2)).len
      ∧ answersAtOnce (parseReq (sbRead.drop 2)) = false ∧ unit.dict.sb.outstanding = none ∧ unit.sec.fw.window = false
      ∧ sidebandUp { unit with dict := { unit.dict with sb := ⟨0, some (rd 0x1000 5), 0⟩ } } = true := by decide

theorem witness_ControlMessagesAreAnswered : sidebandUp unit = true ∧ 8 % 256 ≠ 0 ∧ 8 % 256 ≠ 0xFF := by decide

/-- A unit whose commit runs. -/
def committing : Chip := { unit with dict := { unit.dict with store := { StoreSt.reset with commit := 1, active := 0, seqA := 5 } } }

theorem witness_ConfigStoreCommits :
    (Serves (st unit) .sideband (writeReq 1 0x10F0 7 (leBytes 1 1)) ∧ activeSeq unit ≠ 0xFFFFFFFE ∧ unit.dict.store.commit ≠ 1) ∧
    Serves (st unit) .sideband (writeReq 1 0x10F0 7 (leBytes 1 2)) ∧ committing.dict.store.commit = 1 := by decide

/-! Witnesses: power, boot and the modes. -/

/-- A unit whose PLL-T locks on XREF0. -/
def locking : Chip := { unit with clk := { unit.clk with pll := [1, 2, 2, 2] } }

/-- A unit that has loaded its store and waits for both references. -/
def waiting : Chip := { unit with
  mode := .boot
  boot := { unit.boot with mclkRuns := false, kclkDone := false, storeTick := 5 }
  clk := { unit.clk with xref0 := false, xref1 := false, pll := [0, 0, 0, 0] } }

/-- A unit whose PLLs are ready before either switch of the boot sequencer. -/
def measuredBoot : Chip := { unit with mode := .boot, boot := { unit.boot with mclkRuns := false, kclkDone := false } }

/-- The first 160 bytes of a bundle of one block, whose LENGTH is 4,097 (R372). -/
def bunHead : Bytes := leBytes 160 (pack [(0x4C444E42, 4), (7, 4), (0, 4), (4097, 4), (1, 4)])

/-- A bundle whose one body block matches its digest. -/
def bundle : Bytes := bunHead ++ (sha384 (zeros 4096) ++ zeros 3889)

/-- A unit whose active bank holds the bundle, its signature found good. -/
def verified : Chip := { unit with mode := .boot, sec := { unit.sec with fw := { FwSt.reset with running := bundle, sigOk := 1 } } }

/-- A unit whose active bank is blank. -/
def unverified : Chip := { unit with mode := .boot, sec := { unit.sec with fw := { FwSt.reset with running := [], sigOk := 1 } } }

/-- A unit with a source at FATAL. -/
def withFatal (c : Chip) : Chip := { c with toc := { TocSt.reset with srcs := [(9, { SrcSt.reset with level := 4 })] } }

/-- The first Rough entry. -/
def first : Chip := { unit with mode := .rough, rough := ⟨1, true, 0xFFFF, 0, 3⟩ }

/-- The first Rough entry with Join request set. -/
def firstJoin : Chip := setObj first 0x4900 1 1

/-- ROUGH after a Fatal that has ended. -/
def roughAfter : Chip := { unit with mode := .rough, rough := ⟨2, true, 9, 0, 3⟩ }

theorem witness_PowerAndReset :
    Chip.reset.boot.pwrgood = false ∧ unit.boot.pwrgood = true ∧ ({ unit with boot := { unit.boot with rstN := false } }).boot.pwrgood = true
      ∧ bit { unit.toc with sticky := 8 }.sticky 3 = true := by decide

theorem witness_SourcesBecomeReady :
    (unit.boot.rstN = true ∧ ({ unit with clk := { unit.clk with firc := false } }).clk.firc = false) ∧ (waiting.boot.rstN = true ∧ waiting.clk.xref0 = false ∧ waiting.clk.xref1 = false) ∧
    ({ BootSt.reset with rstN := true }).fircOn = false ∧ ClkSt.reset.firc = false ∧
    (0 < 4 ∧ 3 < 4 ∧ locking.clk.pll.length = 4 ∧ locking.boot.rstN = true ∧ pllState locking 0 = 1 ∧ pllRefRuns locking 0 = true) := by decide

/-- A store copy's first bytes: SEQ and LENGTH, and a wrong MAGIC. -/
def badCopy : Bytes := leBytes 64 (pack [(0x4B595A44, 4), (1, 4), (0, 4)])

theorem witness_StoreLoadChoosesACopy :
    copyState [] = 2 ∧ copyState badCopy = 1 ∧
    ({ unit with boot := { unit.boot with storeLoaded := false } }).boot.fircOn = true := by decide

/-- A store copy of no record whose digest matches (R46). -/
def goodCopy (seq : Nat) : Bytes :=
  leBytes 16 (pack [(0x4B595A43, 4), (seq, 4), (0, 4)]) ++ sha384 (leBytes 16 (pack [(0x4B595A43, 4), (seq, 4), (0, 4)]))

theorem witness_StoreLoadChoosesACopy_intact : copyState (goodCopy 1) = 0 ∧ copyState (goodCopy 2) = 0 ∧ copySeq (goodCopy 1) < copySeq (goodCopy 2) := by decide +kernel

theorem witness_BootSequencerSwitches :
    dueBootSwitch measuredBoot false 16800 = true ∧ dueBootSwitch measuredBoot true 3800 = true ∧ dueBootSwitch measuredBoot true 4201 = false ∧
    (waiting.boot.storeLoaded = true ∧ waiting.clk.xref1 = false ∧ waiting.boot.kclkDone = false ∧ waiting.boot.xref1Late = false
      ∧ waiting.boot.storeTick + 10000000 ≤ max waiting.clk.carillon (10000005 % 2 ^ 64) ∧ waiting.clk.xref0 = false ∧ waiting.boot.mclkRuns = false) := by decide

/-- The bundle passes every check of R374. -/
theorem bundle_verifies : verifyReason verified bundle true = 0 := by
  have hl : (sha384 (zeros 4096)).length = 48 := sha384_length _
  have hh : bunHead.length = 160 := length_leBytes _ _
  have hz : ∀ n, (zeros n).length = n := fun n => List.length_replicate
  have hzd : ∀ n k, (zeros n).drop k = zeros (n - k) := fun n k => List.drop_replicate
  have hzt : ∀ n k, k ≤ n → (zeros n).take k = zeros k := fun n k h => by unfold zeros; rw [List.take_replicate, Nat.min_eq_left h]
  have hzt_all : ∀ n k, n ≤ k → (zeros n).take k = zeros n := fun n k h => List.take_of_length_le (by rw [hz]; exact h)
  generalize hd : sha384 (zeros 4096) = d at hl
  have hb : bundle = bunHead ++ (d ++ zeros 3889) := by rw [bundle, hd]
  have f : ∀ o n, o + n ≤ 160 → bfld bundle o n = bfld bunHead o n := by
    intro o n h; rw [hb]; exact bfld_append (by omega)
  have h0 : bfld bundle 0 4 = 0x4C444E42 := by rw [f _ _ (by omega)]; decide +kernel
  have h12 : bfld bundle 12 4 = 4097 := by rw [f _ _ (by omega)]; decide +kernel
  have h16 : bfld bundle 16 4 = 1 := by rw [f _ _ (by omega)]; decide +kernel
  have h8 : bfld bundle 8 4 = 0 := by rw [f _ _ (by omega)]; decide +kernel
  have h20 : bfld bundle 20 1 = 0 := by rw [f _ _ (by omega)]; decide +kernel
  have hlen : bundle.length = 4097 := by rw [hb, List.length_append, List.length_append, hh, hl, hz]
  have h21 : (bundle.drop 21).take 43 = zeros 43 := by
    rw [hb, List.drop_append_of_le_length (by omega), List.take_append_of_le_length (by rw [List.length_drop, hh]; omega)]; decide +kernel
  have hbody : bunBody bundle = 4096 := by rw [bunBody, bunBlocks, h16]; decide
  have htail : bundle.drop 4096 = zeros 1 := by
    rw [hb, List.drop_append, List.drop_eq_nil_of_le (by omega), List.drop_append, List.drop_eq_nil_of_le (by omega), hzd, hh, hl]; rfl
  have hk : bfld bundle 4096 4 = 0 := by rw [bfld, htail]; decide
  have hs : sectionsOk bundle 0 256 = true := by
    unfold sectionsOk
    simp only [hbody, Nat.mul_zero, Nat.add_zero, hk, decide_true, Bool.true_or]
  have hf : bundleFormed bundle = true := by
    simp only [bundleFormed, h0, bunLength, h12, bunBlocks, h16, h21, hbody, hlen, hs]; decide
  have hblk : blockOk bundle 0 = true := by
    have : bunBlock bundle 0 = zeros 4096 := by
      rw [bunBlock, hbody, Nat.mul_zero, Nat.add_zero, htail, hzt_all 1 4096 (by omega), padTo, hzt_all 1 4096 (by omega), hz]; exact List.replicate_append_replicate
    rw [blockOk, this, hd, hb, List.drop_append, List.drop_eq_nil_of_le (by omega), hh, List.nil_append, Nat.mul_zero, Nat.add_zero, Nat.sub_self, List.drop_zero,
      List.take_append_of_le_length (by omega), List.take_of_length_le (by omega), beq_self_eq_true]
  have hbs : blocksOk bundle = true := by
    rw [blocksOk, bunBlocks, h16]; simp only [upFrom, List.all_cons, List.all_nil, hblk, Bool.and_self]
  simp only [verifyReason, hf, hbs, h8, h20]; decide

theorem verified_running : verified.sec.fw.running = bundle := rfl

theorem witness_BootEndsInRough :
    (bootVerified verified = true ∧ verifyReason verified verified.sec.fw.running true = 0 ∧ lowestFatal verified = none) ∧
    (bootVerified (withFatal verified) = true ∧ verifyReason (withFatal verified) (withFatal verified).sec.fw.running true = 0 ∧ lowestFatal (withFatal verified) = some 9) ∧
    (bootVerified unverified = true ∧ 1 ≠ 0 ∧ 1 = verifyReason unverified unverified.sec.fw.running true) :=
  ⟨⟨by decide, bundle_verifies, by decide⟩, ⟨by decide, bundle_verifies, by decide⟩, by decide⟩

theorem witness_ModeRequestLeavesFirstRough :
    (Serves (st first) .sideband (writeReq 1 0x1100 2 (leBytes 1 2)) ∧ first.mode = .rough ∧ first.rough.kind = 1 ∧ joinRequest first = false ∧ first.dbl.state ≠ 1 ∧ first.dbl.joinStep = 0) ∧
    (3 < 256 ∧ 3 ≠ 2 ∧ Serves (st first) .sideband (writeReq 1 0x1100 2 (leBytes 1 3))) ∧
    (Serves (st unit) fromA (writeReq 1 0x1100 2 (leBytes 1 2)) ∧ ¬ (unit.mode = .rough ∧ unit.rough.kind = 1)) ∧
    (Serves (st firstJoin) .sideband (writeReq 1 0x1100 2 (leBytes 1 2)) ∧ joinRequest firstJoin = true ∧ firstJoin.unit1 = false ∧ firstJoin.dbl.state ≠ 1 ∧ firstJoin.rough.kind = 1) := by decide

theorem witness_RoughSettlesAndExits :
    dueSettled { roughAfter with rough := { roughAfter.rough with settled := false } } = true ∧
    (Serves (st roughAfter) .sideband (writeReq 1 0x5100 2 (leBytes 1 1)) ∧ roughAfter.mode = .rough ∧ exitReason roughAfter = 0 ∧ roughAfter.dbl.wasJoined = false) ∧
    (Serves (st first) .sideband (writeReq 1 0x5100 2 (leBytes 1 1)) ∧ first.mode = .rough ∧ exitReason first ≠ 0) ∧
    exitReason { roughAfter with dbl := { DblSt.reset with wasJoined := true } } = 0 ∧ Serves (st { roughAfter with dbl := { DblSt.reset with wasJoined := true } }) .sideband (writeReq 1 0x5100 2 (leBytes 1 1)) := by decide
/-! Witnesses: the request rows. Each row's write is served in NORMAL, at the ends of its index range, and refused elsewhere. -/

/-- A write of an object, with as many zero bytes as the object has. -/
def wr (i s : Nat) : Req := writeReq 1 i s (zeros (((objRow i s).map fun r => r.size).getD 0))

/-- Does Port A's mailbox or the side-band serve the write in NORMAL, and is it refused in a unit without clocks or to the other master? -/
def rowOk (i s : Nat) : Bool :=
  (decide (Serves (st unit) fromA (wr i s)) || decide (Serves (st unit) .sideband (wr i s)))
    && ((presents { unit with clk := ClkSt.reset, mode := .boot } .sideband (wr i s) && check { unit with clk := ClkSt.reset, mode := .boot } .sideband (wr i s) != 0)
      || (presents unit fromA (wr i s) && check unit fromA (wr i s) != 0))

theorem witness_MemoryRequestRowsServe :
    [(0x3500, 0x12), (0x3500, 0x15), (0x3801, 2), (0x38FF, 2), (0x3800, 2), (0x3800, 5), (0x3000, 2), (0x33FF, 2), (0x3000, 0x10), (0x33FF, 0x1F), (0x3410, 1)].all
      (fun x => rowOk x.1 x.2) = true := by decide

theorem witness_WorkRequestRowsServe :
    [(0x2000, 2), (0x2FFF, 2), (0x4000, 2), (0x43FF, 2), (0x12F0, 1), (0x4840, 2), (0x487F, 2), (0x3600, 2), (0x363F, 2)].all (fun x => rowOk x.1 x.2) = true := by decide

theorem witness_ServiceRequestRowsServe :
    [(0x1100, 2), (0x1300, 6), (0x1300, 0xF), (0x1310, 2), (0x1313, 2), (0x1350, 1), (0x1100, 3), (0x1210, 8), (0x1211, 8), (0x5100, 2), (0x6000, 2),
     (0x6008, 2), (0x5000, 2), (0x50BF, 2), (0x5100, 4), (0x5000, 5), (0x50BF, 5), (0x6000, 5), (0x6020, 2)].all (fun x => rowOk x.1 x.2) = true
    ∧ Serves (st unit) .sideband (wr 0x10F0 7) ∧ check unit .sideband { wr 0x10F0 7 with len := 2 } ≠ 0 := by decide
/-! Witnesses: Spaces. -/

/-- Space `sp` in a state. -/
def spaceIn (sp x : Nat) : Chip := setSpace unit sp { Space.reset sp with state := x }

/-- The object value of a Fixed segment of class PORT at START 0, LENGTH 1 MiB. -/
def fixedBytes : Bytes := leBytes 64 (segVal { Seg.reset with kind := 1, cls := 2, len := 0x100000 })

/-- The object value of a Tiered segment over host memory, of grain 2^2 × 64 KiB. -/
def tieredSeg : Bytes := leBytes 64 (segVal { Seg.reset with kind := 3, cls := 2, len := 2 ^ 24 })

/-- Space 5 BUILDING, with a frame list of the segment's grain and a structure pool. -/
def tieredUnit : Chip := setObj (setObj (spaceIn 5 1) 0x3500 1 (2 ^ 40 + 2 ^ 64 * 16 + 2 ^ 96 * 2)) 0x3500 3 (2 ^ 36 + 2 ^ 64 * 2 ^ 30)

/-- Space 5 with a withdrawal that runs. -/
def withdrawn5 : Chip := setSpace unit 5 { Space.reset 5 with state := 2, wStat := 2 }

theorem witness_SpacesAreBuiltAndGoLive :
    (Serves (st unit) fromA (writeReq 1 0x3001 2 (leBytes 1 1)) ∧ Serves (st unit) fromA (writeReq 1 0x33FF 2 (leBytes 1 1)) ∧ (getSpace unit 1023).state = 0 ∧ unit.sec.ten.state = 2) ∧
    (Serves (st unit) fromA (writeReq 1 0x3000 2 (leBytes 1 1)) ∧ Serves (st (spaceIn 5 1)) fromA (writeReq 1 0x3005 2 (leBytes 1 1)) ∧ (getSpace (spaceIn 5 1) 5).state ≠ 0) ∧
    (Serves (st (spaceIn 5 1)) fromA (writeReq 1 0x3005 2 (leBytes 1 2)) ∧ (getSpace (spaceIn 5 1) 5).state = 1 ∧ ¬ ((spaceIn 5 1).geo.build.state = 1 ∧ (spaceIn 5 1).geo.build.space = 5)) ∧
    (Serves (st unit) fromA (writeReq 1 0x3005 2 (leBytes 1 2)) ∧ (getSpace unit 5).state ≠ 1) ∧
    (let c := { spaceIn 5 1 with geo := { GeodeSt.reset with build := { MapBuild.reset with state := 1, space := 5 } } }
     Serves (st c) fromA (writeReq 1 0x3005 2 (leBytes 1 2)) ∧ (getSpace c 5).state = 1 ∧ c.geo.build.state = 1 ∧ c.geo.build.space = 5) ∧
    ((segOf (leNat fixedBytes)).kind ≤ 1 ∧ Serves (st (spaceIn 5 1)) fromA (writeReq 1 0x3005 0x1F fixedBytes) ∧ segStatus (spaceIn 5 1) 5 15 (segOf (leNat fixedBytes)) = 0
      ∧ (getSeg (getSpace (spaceIn 5 1) 5) 15).kind ≤ 1) ∧
    (Serves (st unit) fromA (writeReq 1 0x3005 0x10 fixedBytes) ∧ segStatus unit 5 0 (segOf (leNat fixedBytes)) = 7) ∧
    ((segOf (leNat tieredSeg)).kind = 3 ∧ Serves (st tieredUnit) fromA (writeReq 1 0x3005 0x10 tieredSeg) ∧ segStatus tieredUnit 5 0 (segOf (leNat tieredSeg)) = 0
      ∧ (getSpace tieredUnit 5).state = 1
      ∧ ((spAlloc tieredUnit (roundUp (8 * grainCount (segOf (leNat tieredSeg))) 0x200000)).map fun r => (getSpace r.2 5).state) = some 1) := by decide +kernel

theorem witness_SegmentChecksGiveTheStatus :
    let s := segOf (leNat fixedBytes)
    let t := segOf (leNat tieredSeg)
    { s with start := 1 }.start % 4096 ≠ 0 ∧ 3 < { s with kind := 4 }.kind ∧
    (let c := setSpace unit 5 { Space.reset 5 with state := 2, segs := [(3, s)] }
     (3, s) ∈ (getSpace c 5).segs ∧ 3 ≠ 4 ∧ s.kind ≠ 0 ∧ s.start < s.start + s.len) ∧
    (s.kind = 1 ∧ { s with cls := 7 }.cls > 6 ∧ meetsGeode (setObj unit 0x3500 1 (2 ^ 64 * 16 + 2 ^ 96 * 2)) 0 4096 = true) ∧ ({ s with kind := 2, target := 4096 }.target ≠ 0) ∧
    ({ t with start := 4096 }.start % grainBytes t ≠ 0) ∧
    (segRangeBad (getSpace unit 5) 0 s = false ∧ kindRangeBad unit s = false ∧ (getSpace unit 5).state ≠ 1 ∧ (getSpace unit 5).state ≠ 2) ∧
    (segRangeBad (getSpace (spaceIn 5 2) 5) 0 s = false ∧ kindRangeBad (spaceIn 5 2) s = false ∧ poolMissing (spaceIn 5 2) s = false ∧ (getSpace (spaceIn 5 2) 5).state = 2) := by decide +kernel

/-- A bump of Space 5 in a phase. -/
def bumpIn (ph : BumpPhase) (by_ : BumpBy) (m : MapChange) : Bump := ⟨4, 5, true, [by_], m, ph, 0, 0, 0, false, [], []⟩

/-- Space 5 in a state with one bump. -/
def bumping (x : Nat) (b : Bump) : Chip := { spaceIn 5 x with sp := { (spaceIn 5 x).sp with bumps := [b], nextBump := 5 } }

/-- Unit 1 in DOUBLET. -/
def follower : Chip := { unit with unit1 := true, mode := .doublet, dbl := { DblSt.reset with state := 2, bridge := 2, wasJoined := true } }

theorem witness_BumpsRaiseTheGeneration :
    (shareBump (spaceIn 5 2) 5 true .software = none ∧ followsLead (spaceIn 5 2) = false ∧ bumpBlocked (spaceIn 5 2) 5 (freshBump (spaceIn 5 2)) = false) ∧
    (let c := bumping 2 (bumpIn .waiting .software .none)
     shareBump c 5 true .tenant = none ∧ followsLead c = false ∧ bumpBlocked c 5 (freshBump c) = true) ∧
    (shareBump follower 5 true (.ats .a 3) = none ∧ followsLead follower = true) ∧ 6 ≠ 5 := by decide +kernel

theorem witness_WithdrawalsAreHardBumps :
    (Serves (st (spaceIn 5 2)) fromA (writeReq 1 0x3005 2 (leBytes 1 3)) ∧ (getSpace (spaceIn 5 2) 5).state = 2 ∧ withdrawing (spaceIn 5 2) 5 = false) ∧
    (Serves (st unit) fromA (writeReq 1 0x3005 2 (leBytes 1 3)) ∧ (getSpace unit 5).state ≠ 2) ∧
    (Serves (st withdrawn5) fromA (writeReq 1 0x3005 2 (leBytes 1 3)) ∧ (getSpace withdrawn5 5).state = 2 ∧ withdrawing withdrawn5 5 = true) ∧
    (Serves (st (spaceIn 1023 2)) fromA (writeReq 1 0x33FF 2 (leBytes 1 4)) ∧ (getSpace (spaceIn 1023 2) 1023).state = 2 ∧ spaceBound (spaceIn 1023 2) 1023 = false
      ∧ withdrawing (spaceIn 1023 2) 1023 = false) ∧
    (Serves (st unit) fromA (writeReq 1 0x3000 2 (leBytes 1 4)) ∧ Serves (st (spaceIn 5 1)) fromA (writeReq 1 0x3005 2 (leBytes 1 4)) ∧ (getSpace (spaceIn 5 1) 5).state ≠ 2) ∧
    (Serves (st (spaceIn 5 2)) fromA (writeReq 1 0x3005 0x10 fixedBytes) ∧ segStatus (spaceIn 5 2) 5 0 (segOf (leNat fixedBytes)) = 0) := by decide +kernel

theorem witness_BumpsGoThroughTheirSteps :
    (let b := bumpIn .waiting .tenant .none
     getBump (bumping 2 b) b.id = some b ∧ b.phase = .waiting ∧ followsLead (bumping 2 b) = false ∧ bumpBlocked (bumping 2 b) b.space b.id = false ∧ b.alerted = false
      ∧ b.since + obj (bumping 2 b) 0x3400 2 ≤ max (bumping 2 b).clk.carillon (2 ^ 40 % 2 ^ 64)) ∧
    (let b := bumpIn .draining .software .none
     getBump (bumping 2 b) b.id = some b ∧ drained (bumping 2 b) b = true ∧ portsWrote (getSpace (bumping 2 b) b.space) b.gen = 0) ∧
    (let b := bumpIn .flushing .software .none
     getBump (bumping 2 b) b.id = some b ∧ b.oldRuns = [] ∧ b.oldFrames = [] ∧ b.bys = [.software] ∧ b.change = .none) ∧
    (let b := bumpIn .flushing .software .clear
     getBump (bumping 3 b) b.id = some b ∧ b.change = .clear ∧ (getSpace (bumping 3 b) b.space).state = 3 ∧ leadsMirror (bumping 3 b) = false) := by decide +kernel

theorem witness_InvalidationsBumpTheirSpaces :
    (linkIsUp unit .b = true ∧ 31 < 32 ∧ two unit.sp.invQueued .b < 32 ∧ atsTargets unit .b none = [] ∧ atsTargets unit .a (some 3) = []) ∧
    atsTargets unit .a none = [0] ∧ 0 ∈ atsTargets unit .a none ∧
    atsTargets (setObj (spaceIn 5 2) 0x3005 7 (2 ^ 20 + 77)) .a (some 77) = [5] := by decide +kernel

/-- A facet load request: Space 5, segment 1, BUILD (0) or FILL (1), two facets. -/
def loadReq (fill : Nat) : Bytes := leBytes 32 (pack [(5, 2), (1, 1), (fill, 1), (0, 4), (2, 4), (0, 4), (0x10000, 8)])

/-- An ABSENT facet at a granule. -/
def absent (g : Nat) : Facet := ⟨false, 0, 0, false, g⟩

/-- Space 5 with a Faceted segment of two ABSENT facets, and its structure pool. -/
def faceted : Chip := setSpace unitPool 5 { Space.reset 5 with
  state := 2, segs := [(1, { Seg.reset with kind := 2, len := 0x10000, facetCount := 2 })], tabs := [(1, ⟨0, 0x200000, [absent 0, absent 4]⟩)] }

/-- A BUILD that reads its list. -/
def loading : Chip := { faceted with sp := { faceted.sp with load := { FacetLoad.reset with state := 1, space := 5, seg := 1, count := 2 } } }

/-- The two absent facets as they lie in host memory. -/
def facetList (second : Nat) : Bytes := leBytes 32 (facetVal (absent 0) + 2 ^ 128 * facetVal (absent second))

theorem witness_FacetLoadsComplete :
    (loadRangeBad (leNat (loadReq 0)) = false ∧ fld (leNat (loadReq 0)) 3 1 = 0 ∧ Serves (st faceted) fromA (writeReq 1 0x3410 1 (loadReq 0)) ∧ faceted.sp.load.state ≠ 1
      ∧ faceted.sp.load.ready = none) ∧
    (loadRangeBad (leNat (loadReq 1)) = false ∧ fld (leNat (loadReq 1)) 3 1 = 1 ∧ Serves (st faceted) fromA (writeReq 1 0x3410 1 (loadReq 1))
      ∧ (installedTab faceted 5 1).isSome = true ∧ fillPastEnd faceted (leNat (loadReq 1)) = false) ∧
    (loading.sp.load.state = 1 ∧ loading.sp.load.fill = false ∧ (facetList 4).length = 16 * loading.sp.load.count
      ∧ buildBad (logRead loading .a (.data (facetList 4))) 0 none (facetsOf (facetList 4) 2) = none
      ∧ (spAlloc (logRead loading .a (.data (facetList 4))) (16 * (facetsOf (facetList 4) 2).length)).isSome = true) ∧
    (buildBad (logRead loading .a (.data (facetList 0))) 0 none (facetsOf (facetList 0) 2)).isSome = true ∧ (absent 4).start ≠ 0 ∧ (absent 0).start ≤ 0 := by decide +kernel
/-! Witnesses: translation. -/

/-- A TRANSFER of one stroke, from DVA 0 to DVA 0x100000 (R108, R109). -/
def moveBody : Nat := contigBody 0 0 0x100000 65536

/-- A TRANSFER of two strokes. -/
def moveBody2 : Nat := contigBody 0 0 0x100000 131072

/-- A ready move node. -/
def mv (b : Nat) : NodeRt := { nodeFresh 2 b with st := .ready }

/-- A resident launch of queue 5 in Space 7 with one node. -/
def launch (x : NodeRt) : Launch := { (default : Launch) with q := 5, space := 7, ctx := .resident, final := 0xFF, nodes := [(0, x)] }

/-- Space 7 LIVE with one segment, and a launch in it. -/
def running (s : Seg) (x : NodeRt) : Chip :=
  setLaunch { setSpace unit 7 { Space.reset 7 with state := 2, segs := [(0, s)] } with bel := { BelfrySt.reset with queues := [(5, { Queue.reset with state := 1, space := 7 })] } } (launch x)

/-- A segment of 1 GiB at START 0 of a KIND and CLASS. -/
def segK (kind cls : Nat) : Seg := { Seg.reset with kind := kind, cls := cls, len := 2 ^ 30 }

/-- A cut context in Space 7. -/
def ctx7 : CutCtx := ⟨7, false, false, false, [], none, false, [], []⟩

/-- Space 7 with a Faceted segment whose facet is ABSENT. -/
def facet7 : Chip := setSpace unit 7 { Space.reset 7 with state := 2, segs := [(0, segK 2 0)], tabs := [(0, ⟨0, 0x200000, [⟨false, 0, 0, false, 0⟩]⟩)] }

/-- A unit whose bridge is UP. -/
def linked : Chip := { running (segK 1 1) (mv moveBody) with dbl := { DblSt.reset with bridge := 2 } }

theorem witness_TranslationFollowsTheSegment :
    (ctx7.direct = false ∧ 2 ^ 56 ≥ 2 ^ 56 ∧ findSeg unit ctx7.sp 0 = none) ∧
    (findSeg { facet7 with mode := .rough } ctx7.sp 0 = some (0, segK 2 0) ∧ lostTable { facet7 with mode := .rough } (segK 2 0) = false ∧ (segK 2 0).kind ≠ 1) ∧
    (findSeg (running (segK 1 1) (mv moveBody)) ctx7.sp (2 ^ 30 - 1) = some (0, segK 1 1) ∧ (segK 1 1).kind = 1 ∧ bits ((segK 1 1).target + 0) 39 1 = unitNo unit) ∧
    (let s := { segK 1 1 with target := 2 ^ 39 }
     findSeg (running s (mv moveBody)) 7 0 = some (0, s) ∧ bits (s.target + 0) 39 1 ≠ unitNo unit ∧ bridgeUp (running s (mv moveBody)) = false
       ∧ bridgeUp { running s (mv moveBody) with dbl := { DblSt.reset with bridge := 2 } } = true) ∧
    (findSeg (running (segK 1 2) (mv moveBody)) 7 0 = some (0, segK 1 2) ∧ findSeg (running (segK 1 4) (mv moveBody)) 7 0 = some (0, segK 1 4)
      ∧ findSeg (running (segK 1 5) (mv moveBody)) 7 0 = some (0, segK 1 5) ∧ findSeg (running (segK 1 6) (mv moveBody)) 7 0 = some (0, segK 1 6)) ∧
    (findSeg (running (segK 1 3) (mv moveBody)) 7 0 = some (0, segK 1 3) ∧ svaEn (running (segK 1 3) (mv moveBody)) 7 = false) ∧
    (findSeg facet7 7 0 = some (0, segK 2 0) ∧ lostTable facet7 (segK 2 0) = false ∧ facet7.mode ≠ .rough ∧ (segK 2 0).kind = 2
      ∧ tget (getSpace facet7 7).tabs 0 = some ⟨0, 0x200000, [⟨false, 0, 0, false, 0⟩]⟩ ∧ findFacet ⟨0, 0x200000, [⟨false, 0, 0, false, 0⟩]⟩ (2 ^ 30) 0 = some (0, ⟨false, 0, 0, false, 0⟩, 2 ^ 18)) := by
  decide +kernel

/-- A launch whose move node waits for its first cut. -/
def uncut : Chip := running (segK 1 1) (mv moveBody)

/-- A GATHER whose index list of one entry lies at DVA 2^40, outside every segment. -/
def gatherBody : Nat := 2 + 2 ^ 104 + 2 ^ 40 * 2 ^ 128 + 4096 * 2 ^ 352 + 4096 * 2 ^ 400 + 4096 * 2 ^ 736

/-- A Cutter's job for the side of node 0 of the launch. -/
def job (side : Side) (ph : CutPhase) : CutJob := ⟨5, 0, 0, side, 0, false, 0, 0, 0, [], [], [], [], none, [], false, [], ph, 0, 0, true⟩

/-- Cutter 3 with a job, a line on its way to it and one to a Cutter that has none. -/
def cutting (j : CutJob) : Chip := { uncut with sp := { uncut.sp with cutters := [(3, j)], atsOut := 1, missing := [(3, 9), (4, 9)] } }

theorem witness_CuttersCutSides :
    (getLaunch uncut 5 0 = some (launch (mv moveBody)) ∧ getNode (launch (mv moveBody)) 0 = some (mv moveBody)
      ∧ nextKey uncut.sp.jobPtr (waitingJobs uncut) = some (jobKey 5 0 0 .src) ∧ rotate (uncut.sp.cutPtr % 16) 16 (cutterIdle uncut) = some 0
      ∧ indexedSide (mv moveBody).body .src = false) ∧
    (let c := running (segK 1 1) (mv gatherBody)
     dueGrant 0 5 0 0 .src [0] c = true ∧ getLaunch c 5 0 = some (launch (mv gatherBody)) ∧ indexedSide gatherBody .src = true
       ∧ idxHome (passSwitch { c with sp := { c.sp with cutPtr := 1, jobPtr := jobKey 5 0 0 .src + 1 } } 5 0) 7 gatherBody = false) ∧
    ((cutting (job .dst .miss)).sp.missing.contains (3, 9) = true ∧ tget (cutting (job .dst .miss)).sp.cutters 3 = some (job .dst .miss) ∧ (job .dst .miss).phase = .miss) ∧
    ((cutting (job .dst .miss)).sp.missing.contains (4, 9) = true ∧ tget (cutting (job .dst .miss)).sp.cutters 4 = none) := by decide +kernel

/-- Six entries, one more than a set descriptor holds in RUN form. -/
def six : List Entry := [0, 1, 2, 3, 4, 5].map fun i => ⟨0, false, 8192 * i, 4096, 4096 * i, []⟩

theorem witness_CuttersCutSides_ends :
    (let j := { job .src .done with waits := [.absent 0 0], waited := true }
     tget (cutting j).sp.cutters 3 = some j ∧ j.phase = .done ∧ j.waited = true) ∧
    (let j := job .dst .done
     tget (cutting j).sp.cutters 3 = some j ∧ j.waited = false ∧ getLaunch (cutting j) 5 0 = some (launch (mv moveBody))
       ∧ (j.entries.reverse.take 65536).length ≤ inlineCap (sideForm moveBody .dst)) ∧
    (let j := { job .src .done with entries := six }
     let c := { cutting j with objs := (setObj (cutting j) 0x3500 2 (2 ^ 36 + 2 ^ 64 * 16384)).objs }
     tget c.sp.cutters 3 = some j ∧ inlineCap (sideForm moveBody .src) < (j.entries.reverse.take 65536).length ∧ (wpAlloc c ((j.entries.reverse.take 65536).length * 16)).isSome = true) ∧
    (let j := { job .src .list with entries := six }
     tget (cutting j).sp.cutters 3 = some j ∧ j.waited = false ∧ getLaunch (cutting j) 5 0 = some (launch (mv moveBody)) ∧ inlineCap (sideForm moveBody .src) < (j.entries.reverse.take 65536).length
       ∧ wpAlloc (cutting j) ((j.entries.reverse.take 65536).length * 16) = none ∧ sideForm moveBody .src ≠ 1) := by decide +kernel

/-- A switched-out node that waits for a page of Port A. -/
def outNode (w : Wait) : NodeRt := { mv moveBody with out := true, waits := [w], timeout := 500, waitDva := 4096 }

/-- Its launch, with one page request outstanding. -/
def waitingPage : Chip := let c := running (segK 1 3) (outNode (.page .a 4096 false true)); { c with sp := { c.sp with priOut := ⟨1, 1⟩ } }

theorem witness_FaultsAndAnswersOfTranslation :
    (let j := job .src .ats
     tget (cutting j).sp.cutters 3 = some j ∧ j.phase = .ats ∧ j.sent = true ∧ getLaunch (cutting j) 5 0 = some (launch (mv moveBody)) ∧ getNode (launch (mv moveBody)) 0 = some (mv moveBody)
       ∧ (if j.side = .dst then false else true) = true) ∧
    (two waitingPage.sp.priOut .b ≠ 0 ∧ nodesWaiting waitingPage (isPageWait .b 4096) = []) ∧
    (two waitingPage.sp.priOut .a ≠ 0 ∧ nodesWaiting waitingPage (isPageWait .a 4096) = [(5, 0, 0)]) ∧
    (let c := running (segK 1 3) (outNode (.absent 0 0))
     getLaunch c 5 0 = some (launch (outNode (.absent 0 0))) ∧ (launch (outNode (.absent 0 0))).final = 0xFF ∧ (outNode (.absent 0 0)).out = true
       ∧ ∀ w, w ∈ (outNode (.absent 0 0)).waits → waitOver c 7 w = true) ∧
    (getLaunch waitingPage 5 0 = some (launch (outNode (.page .a 4096 false true))) ∧ (outNode (.page .a 4096 false true)).timeout ≤ max waitingPage.clk.carillon (0 % 2 ^ 64)
      ∧ Wait.page .a 4096 false true ∈ (outNode (.page .a 4096 false true)).waits ∧ waitOver waitingPage 7 (.page .a 4096 false true) = false) := by decide +kernel
/-! Witnesses: the Geode. -/

/-- A Tiered segment over host memory, of 2^24 bytes in grains of 64 KiB. -/
def tiered : Seg := { Seg.reset with kind := 3, cls := 2, len := 2 ^ 24 }

/-- Space 5 LIVE with the Tiered segment, one frame list of sixteen frames, and grain 3 at an entry. -/
def geo (v : Nat) : Chip :=
  let c := setSpace tieredUnit 5 { Space.reset 5 with state := 2, segs := [(0, tiered)] }
  { c with geo := { GeodeSt.reset with maps := [(mapKey 5 0, ⟨2 ^ 36, 0x200000, [(3, v)]⟩)], tokens := tokenUnit } }

/-- An entry: TALLY, MIGRATING, RESIDENT, flags DIRTY and PRIOR. -/
def ent (tally : Nat) (migr res dirty prior : Bool) : Nat := setBit (setBit (setState (setTally 0 tally) migr res) 34 dirty) 37 prior

/-- A table that serves two epochs. -/
def withTable (c : Chip) : Chip := { c with lap := { c.lap with tables := [(0, { Table.reset with state := 2, epoch := 5, newest := 5, older := 1, pins1 := 1 })] } }

theorem witness_ResolvesFollowTheGrainState :
    (isFar (entryOf (countAccess (geo (ent 0 false false false false)) 5 0 3) 5 0 3) = true
      ∧ eTally (entryOf (countAccess (geo (ent 0 false false false false)) 5 0 3) 5 0 3) < obj unit 0x3500 6) ∧
    (let c := geo (ent 255 false false false false)
     isFar (entryOf (countAccess c 5 0 3) 5 0 3) = true ∧ promotes c = true ∧ manages c 3 = true ∧ c.geo.queue.length < 4096 ∧ eFresh (entryOf (countAccess c 5 0 3) 5 0 3) = false
      ∧ obj c 0x3500 6 ≤ eTally (entryOf (countAccess c 5 0 3) 5 0 3)) ∧
    isPromoting (entryOf (countAccess (geo (ent 0 true false false false)) 5 0 3) 5 0 3) = true ∧
    (let c := geo (ent 9 false true false false)
     eRes (entryOf (countAccess c 5 0 3) 5 0 3) = true ∧ ePrior (entryOf (countAccess c 5 0 3) 5 0 3) = false) ∧
    (let c := withTable (geo (ent 9 false true false true))
     eRes (entryOf (countAccess c 5 0 3) 5 0 3) = true ∧ ePrior (entryOf (countAccess c 5 0 3) 5 0 3) = true ∧ readsPrior c 0 (some 4) = true) := by decide +kernel

/-- A promotion of grain 3 at the head of the queue. -/
def queued : Chip := let c := geo (ent 5 true false false false); { c with geo := { c.geo with queue := [(5, 0, 3)] } }

/-- The frame list of grain size 2 has no frame left. -/
def noFrames : Chip := setObj queued 0x3500 1 0

/-- A unit whose copy of grain 3 has failed. -/
def failed (v : Nat) : Chip := let c := geo v; { c with geo := { c.geo with copies := [(5, 0, 3)] } }

theorem witness_PromotionsRunTheirCourse :
    (let c := { geo 0 with geo := { (geo 0).geo with tokens := 0 } }
     c.geo.tokenAt < c.clk.carillon ∧ c.geo.tokens < tokenCap c) ∧
    (mayCopy queued = true ∧ queued.geo.queue = [(5, 0, 3)] ∧ tokenUnit ≤ (accrue queued).geo.tokens
      ∧ (takeFrame (accrue queued) (getSeg (getSpace queued 5) 0).grain 1 (.grain 5 0 3)).1 = some 0) ∧
    (mayCopy noFrames = true ∧ (takeFrame (accrue noFrames) (getSeg (getSpace noFrames 5) 0).grain 1 (.grain 5 0 3)).1 = none ∧ tokenUnit ≤ (accrue noFrames).geo.tokens) ∧
    (let c := geo (ent 5 true false false false)
     copying c 5 0 3 = true ∧ copyOk c (.promote 5 0 3) 5 0 3 = true ∧ c.mode ≠ .doublet ∧ c.mode ≠ .rough) ∧
    (copying (failed (ent 5 true false false false)) 5 0 3 = true ∧ copyBad (failed (ent 5 true false false false)) (.promote 5 0 3) 5 0 3 = true) := by decide +kernel

/-- A sweep of list 0 whose hand stands at frame 0, held by grain 3 at an entry. -/
def sweeping (v : Nat) (u : Option FrameUse) : Chip :=
  let c := geo v
  { c with geo := { c.geo with sweeps := [(0, ⟨true, 0, 0, false⟩)], frames := (u.map fun x => [(0, x)]).getD [] } }

theorem witness_SweepsEvictAndWriteBack :
    (tget (sweeping 0 none).geo.sweeps 0 = some ⟨true, 0, 0, false⟩ ∧ serving (sweeping 0 none) = true ∧ tget (sweeping 0 none).geo.frames (0 * 2 ^ 28 + 0) = none) ∧
    (let c := sweeping (ent 200 false true false false) (some (.grain 5 0 3))
     tget c.geo.frames (0 * 2 ^ 28 + 0) = some (.grain 5 0 3) ∧ isResident (entryOf c 5 0 3) = true ∧ manages c 3 = true ∧ obj c 0x3500 7 ≤ eTally (entryOf c 5 0 3)) ∧
    (let c := setObj (sweeping (ent 0 false true false false) (some (.grain 5 0 3))) 0x3500 7 1
     isResident (entryOf c 5 0 3) = true ∧ eTally (entryOf c 5 0 3) < obj c 0x3500 7 ∧ ePrior (entryOf c 5 0 3) = false ∧ eFresh (entryOf c 5 0 3) = false ∧ openHeld c 5 0 3 = false
      ∧ isClean (getSeg (getSpace c 5) 0) (entryOf c 5 0 3) = true) ∧
    (let c := setObj (sweeping (ent 0 false true true false) (some (.grain 5 0 3))) 0x3500 7 1
     eTally (entryOf c 5 0 3) < obj c 0x3500 7 ∧ isClean (getSeg (getSpace c 5) 0) (entryOf c 5 0 3) = false) ∧
    (let c := geo (ent 0 true true true false)
     isEvicting (entryOf c 5 0 3) = true ∧ copyOk c (.writeBack 5 0 3) 5 0 3 = true ∧ c.geo.flushing.contains (5, 0, 3) = false
      ∧ { c with geo := { c.geo with flushing := [(5, 0, 3)] } }.geo.flushing.contains (5, 0, 3) = true ∧ c.mode ≠ .doublet ∧ (tget c.geo.maps (mapKey 5 0)).isSome = true) ∧
    copyBad (failed (ent 0 true true true false)) (.writeBack 5 0 3) 5 0 3 = true ∧ isEvicting (entryOf (failed (ent 0 true true true false)) 5 0 3) = true := by decide +kernel

/-- A write-back request of Space 5, segment 0. -/
def wbReq (sp seg : Nat) : Bytes := leBytes 8 (pack [(sp, 2), (seg, 1)])

/-- A grain probe of Space 5, segment 0. -/
def probeReq (seg g : Nat) : Bytes := leBytes 16 (pack [(5, 2), (seg, 1), (0, 5), (g, 8)])

theorem witness_FlushesAndProbesAreServed :
    (let c := geo (ent 0 false true false false)
     fld (leNat (wbReq 5 0)) 0 2 ≤ 1023 ∧ fld (leNat (wbReq 5 0)) 2 1 ≤ 15 ∧ Serves (st c) fromA (writeReq 1 0x3500 0x12 (wbReq 5 0)) ∧ (getSeg (getSpace c 5) 0).kind = 3 ∧ c.geo.flush.state ≠ 1
      ∧ flushGrains c 5 0 = [] ∧ flushGrains (geo (ent 0 false true true false)) 5 0 = [3]) ∧
    (Serves (st unit) fromA (writeReq 1 0x3500 0x12 (wbReq 1024 0)) ∧ 1023 < fld (leNat (wbReq 1024 0)) 0 2 ∧ Serves (st unit) fromA (writeReq 1 0x3500 0x12 (wbReq 5 16))
      ∧ (getSeg (getSpace unit 5) 0).kind ≠ 3) ∧
    (let c := { geo 0 with geo := { (geo 0).geo with flush := { Flush.reset with state := 1 } } }
     Serves (st c) fromA (writeReq 1 0x3500 0x12 (wbReq 5 0)) ∧ (getSeg (getSpace c 5) 0).kind = 3 ∧ c.geo.flush.state = 1) ∧
    (Serves (st (geo 0)) fromA (writeReq 1 0x3500 0x15 (probeReq 0 255)) ∧ fld (leNat (probeReq 0 255)) 8 8 < grainCount tiered ∧ grainCount tiered ≤ fld (leNat (probeReq 0 256)) 8 8
      ∧ Serves (st (geo 0)) fromA (writeReq 1 0x3500 0x15 (probeReq 0 256))) := by decide +kernel

theorem witness_GeodeUpkeepRuns :
    ({ geo 0 with geo := { (geo 0).geo with build := { MapBuild.reset with state := 1, space := 5, desc := tiered } } }).geo.build.state = 1 ∧
    (let c := { geo 0 with geo := { (geo 0).geo with batches := [⟨0, [7], [5], 0, false⟩] } }
     c.geo.batches = [⟨0, [7], [5], 0, false⟩] ∧ 0 + obj c 0x3500 0xF ≤ max c.clk.carillon (2 ^ 62 % 2 ^ 64)) ∧
    (let c := { geo 0 with geo := { (geo 0).geo with acks := [(5, 0, 3)], frames := [(9, .returning 5 0 3)] } }
     c.geo.acks = [(5, 0, 3)] ∧ (c.geo.frames.filter fun x => x.2 == .returning 5 0 3) = [(9, .returning 5 0 3)]) ∧
    (let c := setObj (geo 0) 0x3500 0xD 1000
     dueDecay c = true ∧ grainAt (tieredSegs c) c.geo.decayGrain = some (5, 0, 0) ∧ isFar (entryOf c 5 0 0) = true ∧ manages c 0 = true
      ∧ c.geo.decayGrain + 1 < (tieredSegs c).foldl (fun m x => m + x.2.2) 0) ∧
    (let c := { lead with geo := { GeodeSt.reset with tallies := [(5, 0, 3)] } }
     c.mode = .doublet ∧ c.geo.tallies ≠ []) := by decide +kernel

/-- A working pool of 16 KiB. -/
def poolUnit : Chip := setObj unitPool 0x3500 2 (2 ^ 36 + 2 ^ 64 * 16384)

theorem witness_PoolsGiveDisjointRuns :
    ((spAlloc unitPool 1).map fun r => r.1) = some 0 ∧ ((wpAlloc poolUnit 4097).map fun r => (r.1, r.2.1)) = some (2 ^ 36, 8192) := by decide +kernel
/-! Witnesses: the Transfer Engine. -/

/-- The set descriptor of node 0 of the launch: strokes 0 up to `hi`, from HBM address 0. -/
def sd0 (b next hi live : Nat) : SetDesc :=
  ⟨0, .node 5 0 0, 7, 0, b, 0, next, hi, live, ⟨2, 0, [⟨0, false, 0, 65536 * hi, 0, []⟩], none⟩, ⟨2, 0, [⟨0, false, 0x100000, 65536 * hi, 0, []⟩], none⟩⟩

/-- The launch with its node translated, bound to channel 20 or to none, strokes on the channel, and requests outstanding. -/
def moving (x : NodeRt) (sd : SetDesc) (bound : List Owner) (state : Nat) (ss : List Stroke) (rs : List XReq) : Chip :=
  { running (segK 1 1) x with
    xf := { XferSt.reset with sds := [(0, sd)], nextSd := 1, chans := [(20, ⟨state, bound, ss, 0⟩)], reqs := rs.map fun r => (r.id, r), nextReq := 9 } }

/-- A node whose translation is ready. -/
def cutNode (b : Nat) : NodeRt := { mv b with sds := [0] }

/-- Node 0 of the launch, bound to no channel. -/
def unbound : Chip := moving (cutNode moveBody2) (sd0 moveBody2 0 2 0) [] 0 [] []

/-- Every channel fenced but channel 20, which has eight owners. -/
def full : Chip := { moving (cutNode moveBody2) (sd0 moveBody2 0 2 0) (List.replicate 8 (.save 9 9)) 1 [] [] with toc := { TocSt.reset with channels := 2 ^ 20 } }

/-- A node bound to channel 20. -/
def boundNode (b : Nat) : NodeRt := { cutNode b with st := .bound }

/-- Node 0 bound to channel 20. -/
def onChannel : Chip := moving (boundNode moveBody2) (sd0 moveBody2 0 2 0) [.node 5 0 0] 1 [] []

theorem witness_NodesBindToTheLeastLoadedChannel :
    (0 ≠ 8192 ∧ bindable unbound 5 0 0 = true ∧ (bestChan unbound (canBind unbound)).isSome = true) ∧
    (bindable full 5 0 0 = true ∧ bestChan full (canBind full) = none ∧ hasWaited full 5 0 0 = false) ∧
    canBind unbound 20 = true ∧ canBind full 20 = false ∧ canBind unbound 55 = true ∧ canBind unbound 56 = false := by decide +kernel

/-- A request of stroke 0 of the set descriptor: a read or a write of 64 bytes on a route. -/
def rq0 (w : Bool) (route : Nat) : XReq := ⟨3, 20, 0, 0, w, route, 0, 64, 0, 64, 0, [], false, false, false, false, 0, 50⟩

/-- An issued stroke in a phase, with requests outstanding and an error CLASS seen. -/
def stroke (ph : StrokePhase) (out err : Nat) (ab : Bool) : Stroke := ⟨0, 0, 0, ph, [], 0, [], out, [], [], [], err, 0, 0, ab, 0, false, 0, 0, 0, 0, 0, 0⟩

/-- Channel 20 with the stroke issued. -/
def issued (ph : StrokePhase) (out err : Nat) (ab : Bool) (state : Nat) (rs : List XReq) : Chip :=
  moving (boundNode moveBody2) (sd0 moveBody2 1 2 1) [.node 5 0 0] state [stroke ph out err ab] rs

theorem witness_StrokesIssueAndAreAnswered :
    (20 < 64 ∧ (getChan onChannel 20).state = 1 ∧ bit onChannel.toc.channels 20 = true ∧ nextIssue onChannel 20 = some (sd0 moveBody2 0 2 0)
      ∧ issueOk onChannel 20 (sd0 moveBody2 0 2 0) = true) ∧
    (tget (issued .reading 1 0 false 1 [rq0 false 3]).xf.reqs 3 = some (rq0 false 3) ∧ (zeros 64).length = (rq0 false 3).len ∧ routePort (rq0 false 3).route = some .a) ∧
    (tget (issued .reading 1 0 false 1 [rq0 false 0]).xf.reqs 3 = some (rq0 false 0) ∧ routePort (rq0 false 0).route = none) ∧
    (tget (issued .writing 1 0 false 1 [rq0 true 0]).xf.reqs 3 = some (rq0 true 0) ∧ (rq0 true 0).write = true ∧ clsPossible (rq0 true 0) 1 = true) := by decide +kernel

theorem witness_StrokesComplete :
    (let c := issued .writing 0 0 false 1 []
     getStroke c 20 0 0 = some (stroke .writing 0 0 false) ∧ getSd c 0 = some (sd0 moveBody2 1 2 1)) ∧
    (let c := issued .reading 0 0 true 1 []
     getStroke c 20 0 0 = some (stroke .reading 0 0 true) ∧ getSd c 0 = some (sd0 moveBody2 1 2 1)) ∧
    dConverts (2 ^ 36) = true ∧ dConverts moveBody = false := by decide +kernel

theorem witness_StrokeErrorsRetryHaltOrEnd :
    (let c := issued .reading 0 1 false 1 []
     getStroke c 20 0 0 = some (stroke .reading 0 1 false) ∧ getSd c 0 = some (sd0 moveBody2 1 2 1) ∧ ownerGone c (.node 5 0 0) = false ∧ (getChan c 20).state ≠ 4
       ∧ (getChan c 20).state ≠ 5 ∧ (sFixed0 moveBody2 .dst && contigLen moveBody2 == 0) = false ∧ 0 < obj c 0x3614 3 ∧ obj (setObj c 0x3614 3 0) 0x3614 3 ≤ 0) ∧
    (let c := issued .retry 0 1 false 3 []
     (getChan c 20).state = 3 ∧ retryStroke c 20 = some (stroke .retry 0 1 false)) ∧
    (let c := issued .reading 0 7 false 1 []
     getStroke c 20 0 0 = some (stroke .reading 0 7 false) ∧ ownerGone c (.node 5 0 0) = false) ∧
    (tget (issued .reading 1 0 false 1 [rq0 false 7]).xf.reqs 3 = some (rq0 false 7) ∧ (rq0 false 7).limit ≤ max unit.clk.carillon (0 % 2 ^ 64)) ∧
    (Serves (st (issued .reading 0 1 false 4 [])) fromA (writeReq 1 0x3614 2 (leBytes 1 1)) ∧ (getChan (issued .reading 0 1 false 4 []) 20).state = 4) ∧
    (Serves (st unit) fromA (writeReq 1 0x363F 2 (leBytes 1 1)) ∧ (getChan unit 63).state ≠ 4) ∧ Serves (st unit) fromA (writeReq 1 0x3600 2 (leBytes 1 2)) := by decide +kernel

/-- A node with a pace and marks. -/
def paced (k : Nat) : NodeRt := { cutNode (moveBody + k * 2 ^ 48 + 20 * 2 ^ 52 + 500 * 2 ^ 192) with paceBase := 1 }

/-- The launch with a mark of its node whose flush reads have come back. -/
def marking (half : Bool) : Chip := setLaunch uncut { launch (mv moveBody) with marks := [⟨0, half, 20, [], [7], false⟩] }

theorem witness_PacesMarksAndScales :
    (paceWaits (running (segK 1 1) (paced 1)) 5 0 0 1 = some (paced 1) ∧ dPaceTick (paced 1).body ≤ max unit.clk.carillon (500 % 2 ^ 64)) ∧
    (let c := moving (boundNode moveBody2) (sd0 moveBody2 0 2 0) [.node 5 0 0] 2 [] []
     (getChan c 20).state = 2 ∧ nextIssue c 20 = some (sd0 moveBody2 0 2 0) ∧ periodTick c (sd0 moveBody2 0 2 0) ≤ max c.clk.carillon (0 % 2 ^ 64)) ∧
    (let c := setObj (running (segK 1 1) (paced 3)) 0x3614 4 7
     paceWaits c 5 0 0 3 = some (paced 3) ∧ (paced 3).paceBase ≠ 0 ∧ obj c (0x3600 + dPaceCh (paced 3).body) 4 ≠ (paced 3).paceBase - 1) ∧
    (getLaunch (marking true) 5 0).bind (fun l => firstMark l 0) = some ⟨0, true, 20, [], [7], false⟩ ∧ tget (marking true).xf.reqs 7 = none
      ∧ (getLaunch (marking true) 5 0).map (waitsLink (marking true)) = some false ∧ dueMark 5 0 0 true (marking true) = true ∧ dueMark 5 0 0 false (marking false) = true ∧
    (hostPosts unit .b = true ∧ hostDecodes unit .b = true ∧ bankAllowed unit 0x40000 4 = true ∧ bankAllowed unit 0x7FFFC 4 = true ∧ bankAllowed unit 0x7FFF8 8 = true) := by decide +kernel

/-! Witnesses: the data path. -/

/-- 256 bytes that begin with the codes of the spec's example of PLANES (R116): code i has the value (i + 1) mod 16. -/
def codes512 : Bytes := (List.range 256).map fun k => BitVec.ofNat 8 ((2 * k + 1) % 16 + 16 * ((2 * k + 2) % 16))

theorem witness_InterleaveWritesLanesAlternately :
    (1 ≤ 4 ∧ 1 ≤ 2 ∧ (zeros 32).length % (4 * 2) = 0 ∧ 3 < 4 ∧ 3 < (zeros 32).length / 4 / 2 ∧ 1 < 2) := by decide

theorem witness_PlanesTransposeTheBitsOfCodes :
    (1 ≤ 4 ∧ codes512.length % (64 * 4) = 0 ∧ 0 < codes512.length / (64 * 4) ∧ 3 < 4 ∧ 511 < 512) ∧ (zeros 64).length % 64 = 0 ∧
    (codes512.length = 256 ∧ codes512.take 4 = [0x21, 0x43, 0x65, 0x87]) := by decide +kernel

theorem witness_FiniteCodesConvertToThemselves : (1 < 8 ∧ 0x3F80 < 2 ^ fmtBits 1 ∧ ∃ num den, decodeNum 1 0x3F80 = .fin false num den) ∧
    (7 < 8 ∧ 15 < 2 ^ fmtBits 7 ∧ ∃ num den, decodeNum 7 15 = .fin true num den) := ⟨⟨by decide, by decide, _, _, rfl⟩, ⟨by decide, by decide, _, _, rfl⟩⟩

theorem witness_ConversionsSaturateAndCount :
    (3 < 8 ∧ fmtInt 3 = false ∧ fmtMax 3 < roundFloat 3 500 1) ∧ (3 < 8 ∧ 1 ≠ 0 ∧ (encodeNum 3 false (.fin false 1 (2 ^ 20))).2.unf = 1) ∧
    (5 < 8 ∧ 1 ≠ 0 ∧ (encodeNum 5 true (.fin true 1 4)).2.unf = 1 ∧ fmtInt 5 = true) ∧ (0 < (convertRun 0 3 false [(0x43FA0000, 0x3F800000)]).2.sat) := by decide +kernel

/-- PLANES for b = 4: the four first bytes of the planes that R116 gives. -/
theorem test_planes_example : (planes 4 codes512).take 1 = [0x55] ∧ (planes 4 codes512)[64]? = some 0x66 ∧ (planes 4 codes512)[128]? = some 0x78 ∧
    (planes 4 codes512)[192]? = some 0x80 := by decide +kernel
/-! Witnesses: Lapidary. -/

/-- The definition of a table: Space 5, row segment 0, 16 values in rows of 32 bytes; escape segment and slots as named. -/
def tabRec (esc slots : Nat) : Nat := pack [(5, 2), (0, 1), (esc, 1), (3, 1), (0, 1), (16, 2), (32, 4), (0x3F800000, 4), (0, 2), (0, 2), (slots, 4)]

/-- Table 9 in a state, over grain 3 of Space 5 at an entry. -/
def tab (state v : Nat) : Chip :=
  let c := geo v
  let c := setSpace c 5 { getSpace c 5 with segs := [(0, { tiered with tableId := 9 })] }
  setObj { c with lap := { LapSt.reset with tables := [(9, { Table.reset with state := state })] } } 0x3809 1 (tabRec 0xFF 0)

/-- The highest table, undefined, with a sound definition and no escape segment, or with one. -/
def newTab (esc slots : Nat) : Chip := setObj (setSpace unitPool 5 { Space.reset 5 with state := 1 }) 0x38FF 1 (tabRec esc slots)

/-- The post of a manifest of one extent. -/
def post9 : Post := ⟨9, 1, 0x4000, 160⟩

theorem witness_TablesAreDefinedAndServe :
    (Serves (st (newTab 0xFF 0)) fromA (writeReq 1 0x38FF 2 (leBytes 1 1)) ∧ tableDefBad (newTab 0xFF 0) 255 = false ∧ (getTable (newTab 0xFF 0) 255).state = 0
      ∧ (getSpace (newTab 0xFF 0) (tabSpace (newTab 0xFF 0) 255)).state = 1 ∧ unitPool.sec.ten.state = 2 ∧ tabEscSlots (newTab 0xFF 0) 255 = 0) ∧
    (Serves (st (newTab 1 8)) fromA (writeReq 1 0x38FF 2 (leBytes 1 1)) ∧ tableDefBad (newTab 1 8) 255 = false ∧ tabEscSlots (newTab 1 8) 255 ≠ 0
      ∧ (spAlloc (newTab 1 8) (roundUp ((tabEscSlots (newTab 1 8) 255 + 7) / 8) 0x200000)).isSome = true) ∧
    (Serves (st unit) fromA (writeReq 1 0x3801 2 (leBytes 1 1)) ∧ tableDefBad unit 1 = true) ∧
    (Serves (st (tab 1 0)) fromA (writeReq 1 0x3809 2 (leBytes 1 1)) ∧ tableDefBad (tab 1 0) 9 = false ∧ (getTable (tab 1 0) 9).state ≠ 0) ∧
    (let c := setSpace (tab 1 0) 5 { Space.reset 5 with state := 2 }
     Serves (st c) fromA (writeReq 1 0x3809 2 (leBytes 1 2)) ∧ (getTable c 9).state ≠ 0 ∧ tableCarried c 9 = false ∧ (∀ p, p ∈ c.lap.posts → p.table ≠ 9) ∧ (getTable c 9).bitmap = none) ∧
    (Serves (st unit) fromA (writeReq 1 0x38FF 2 (leBytes 1 2)) ∧ (getTable unit 255).state = 0 ∧ tableCarried (tab 1 0) 9 = true
      ∧ (let c := { tab 2 0 with lap := { (tab 2 0).lap with posts := [post9] } }; ∃ p, p ∈ c.lap.posts ∧ p.table = 9)) ∧
    (9 ≠ 0 ∧ (getTable (tab 1 0) 9).state = 1 ∧ carriesTable (tab 1 0) 9 (tabRowSeg (tab 1 0) 9) = true ∧ tabEscSeg (tab 1 0) 9 = 0xFF) := by decide +kernel

/-- The object value of a post record. -/
def postRec (t len : Nat) : Bytes := leBytes 32 (pack [(t, 4), (1, 4), (0x4000, 8), (len, 4)])

/-- The manifest of post 9 being applied: its Apply status, extents reached, open grains and grains to open. -/
def applying (state ext : Nat) (es : List Extent) (op : List OpenGrain) (opening : List (Nat × Nat × Nat)) (v : Nat) : Chip :=
  let c := tab 2 v
  { c with lap := { c.lap with
      job := some { newJob post9 with run := (2 ^ 36, 0x200000), extents := es, ext := ext, opened := op, opening := opening }
      stat := { ApplyStat.reset with state := state, table := 9, mseq := 1 } } }

/-- The header and the one extent of the manifest; `magic` is its first word. -/
def header (magic : Nat) : Bytes := leBytes 160 (pack [(magic, 4), (9, 1), (0, 1), (0, 2), (1, 4), (1, 4)])

/-- A structure pool and a working pool. -/
def withPools (c : Chip) : Chip := setObj (setObj c 0x3500 3 (2 ^ 36 + 2 ^ 64 * 2 ^ 30)) 0x3500 2 (2 ^ 37 + 2 ^ 64 * 2 ^ 24)

theorem witness_ManifestsArePostedAndTaken :
    (postBad (postOf (leNat (postRec 9 160))) = false ∧ Serves (st (tab 2 0)) fromA (writeReq 1 0x3800 2 (postRec 9 160)) ∧ (getTable (tab 2 0) 9).state = 2 ∧ (tab 2 0).lap.posts.length < 16) ∧
    (postBad (postOf (leNat (postRec 9 159))) = true ∧ Serves (st (tab 2 0)) fromA (writeReq 1 0x3800 2 (postRec 9 159))) ∧
    (getTable (tab 1 0) (postOf (leNat (postRec 9 160))).table).state ≠ 2 ∧
    (let c := { tab 2 0 with lap := { (tab 2 0).lap with posts := List.replicate 16 post9 } }
     Serves (st c) fromA (writeReq 1 0x3800 2 (postRec 9 160)) ∧ (getTable c 9).state = 2 ∧ 16 ≤ c.lap.posts.length) ∧
    (let c := withPools { tab 2 0 with lap := { (tab 2 0).lap with posts := [post9] } }
     serving c = true ∧ enabled c 6 = true ∧ followsLead c = false ∧ lapRuns c = true ∧ c.lap.job = none ∧ c.lap.posts = [post9] ∧ isFrozen c .table 9 = false
       ∧ manifestHeld c post9 = false ∧ (getTable c 9).state = 2) ∧
    ((applying 1 0 [] [] [] 0).lap.stat.state = 1 ∧ (header 0).length = post9.len ∧ headerReason (applying 1 0 [] [] [] 0) post9 (header 0) ≠ 0
      ∧ headerReason (applying 1 0 [] [] [] 0) post9 (header 0x4D50414C) = 0
      ∧ (takeLapMem (withPools (applying 1 0 [] [] [] 0)) 1).isSome = true ∧ (takeLapMem (applying 1 0 [] [] [] 0) 1).isNone = true) ∧
    (let c := applying 3 0 [] [] [] 0
     Serves (st c) fromA (writeReq 1 0x3800 5 (leBytes 1 9)) ∧ (∃ j, c.lap.job = some j ∧ j.post.table = 9) ∧ 1 ≤ c.lap.stat.state ∧ c.lap.stat.state ≤ 3) ∧
    (Serves (st unit) fromA (writeReq 1 0x3800 5 (leBytes 1 255)) ∧ unit.lap.job = none ∧ (applying 4 0 [] [] [] 0).lap.stat.state > 3) := by
  refine ⟨by decide +kernel, by decide +kernel, by decide +kernel, by decide +kernel, by decide +kernel, by decide +kernel,
    ⟨by decide +kernel, ⟨_, rfl, rfl⟩, by decide +kernel, by decide +kernel⟩, by decide +kernel⟩

/-- Grain 3 of the row segment, open in frame 1. -/
def open3 : OpenGrain := ⟨0, 3, 1, 0, true⟩

/-- Row 6,144 lies in grain 3. -/
def ext1 : Extent := ⟨6144, 1, 0x8000, 32⟩

/-- Change the running manifest's job. -/
def withJob (c : Chip) (f : LapJob → LapJob) : Chip := { c with lap := { c.lap with job := c.lap.job.map f } }

/-- The applied manifest, with one row quantised and a digest wanted. -/
def pulled (want : Bytes) : Chip := withJob (applying 2 1 [ext1] [open3] [] 0) fun j => { j with pulled := [(6144, [1])], wantDigest := want }

/-- Row 6,144 in its place of the staging area, its pull over; an item of the fill of grain 3 and one of the row. -/
def rowStaged : Chip :=
  let c := withJob (applying 2 1 [ext1] [open3] [] 0) fun j => { j with staged := [(6144, 2 ^ 37)], got := [(24576, zeros 64)] }
  { c with lap := { c.lap with items := [(1, ⟨none, 0, 3, 1, 0, 0⟩), (2, ⟨some 6144, 0, 3, 1, 0, 0⟩)] } }

/-- The pull of row 6,144, ended in a fault with its strokes over. -/
def failedPull : Launch := { (default : Launch) with q := lapQ, e := 4, final := 7 }

theorem witness_ManifestsAreApplied :
    (let c := setObj (applying 2 0 [] [] [(0, 3, 0)] 0) 0x3500 1 0
     ∃ j, c.lap.job = some j ∧ (0, 3, 0) ∈ j.opening ∧ eMigr (entryOf c (tabSpace c j.post.table) 0 3) = false ∧ sdRoom c = true ∧ openRoom j = true
       ∧ (takeFrame c (getSeg (getSpace c (tabSpace c j.post.table)) 0).grain 0 (.fresh j.post.table)).1 = none) ∧
    (let c := applying 2 0 [] [] [(0, 3, 0)] 0
     ∃ j, c.lap.job = some j ∧ (0, 3, 0) ∈ j.opening ∧ eMigr (entryOf c (tabSpace c j.post.table) 0 3) = false ∧ openRoom j = true
       ∧ (takeFrame c (getSeg (getSpace c (tabSpace c j.post.table)) 0).grain 0 (.fresh j.post.table)).1 = some 0
       ∧ (tget c.geo.maps (mapKey (tabSpace c j.post.table) 0)).isSome = true) ∧
    (∃ j, (withJob (applying 2 0 [] [] [] 0) fun j => { j with run := (0, 0) }).lap.job = some j ∧ openRoom j = false) ∧
    (∃ j x, rowStaged.lap.job = some j ∧ tget rowStaged.lap.items 1 = some x ∧ x.row = none) ∧
    (∃ j, rowStaged.lap.job = some j ∧ rowStaged.lap.stat.state = 2 ∧ rowReady rowStaged j 6144 = some (open3, 2 ^ 37) ∧ sdRoom rowStaged = true ∧ pullData j 6144 = zeros 64) ∧
    (∃ j x, rowStaged.lap.job = some j ∧ tget rowStaged.lap.items 2 = some x ∧ x.row = some 6144) ∧
    (let c := withJob (applying 2 1 [ext1] [open3] [] 0) fun j => { j with pulls := [(4, 6144)] }
     ∃ j, c.lap.job = some j ∧ tget j.pulls failedPull.e = some 6144 ∧ failedPull.final ≠ 0 ∧ failedPull.final ≠ noFinal ∧ stopped c lapQ failedPull.e = true) ∧
    ({ rowStaged with lap := { rowStaged.lap with failed := true } }).lap.failed = true ∧
    (let c := pulled (zeros 48)
     ∃ j, c.lap.job = some j ∧ c.lap.stat.state = 2 ∧ allApplied c j = true ∧ c.lap.failed = false ∧ j.wantDigest = zeros 48) ∧
    (let c := pulled [7]
     ∃ j, c.lap.job = some j ∧ allApplied c j = true ∧ j.wantDigest ≠ zeros 48 ∧ contentDigest j ≠ j.wantDigest) ∧
    (largestMag 0 []).1 = 0 := by
  refine ⟨⟨_, rfl, ?_⟩, ⟨_, rfl, ?_⟩, ⟨_, rfl, ?_⟩, ⟨_, _, rfl, rfl, rfl⟩, ⟨_, rfl, ?_⟩, ⟨_, _, rfl, rfl, rfl⟩, ⟨_, rfl, ?_⟩, ?_, ⟨_, rfl, ?_⟩,
    ⟨_, rfl, by decide +kernel, by decide +kernel, fun h => ?_⟩, by decide +kernel⟩
  · decide +kernel
  · decide +kernel
  · decide +kernel
  · decide +kernel
  · decide +kernel
  · decide +kernel
  · decide +kernel
  · have := congrArg List.length h
    rw [contentDigest, sha384_length] at this
    exact absurd this (by decide)

/-- The commit sweep with grains left. -/
def sweepingLeft (l : List OpenGrain) : Chip :=
  let c := applying 4 1 [] [open3] [] (setBit 0 36 true)
  { c with lap := { c.lap with job := c.lap.job.map fun j => { j with left := l } } }

theorem witness_CommitsPublishTheNextEpoch :
    (let c := applying 3 0 [] [open3] [] 0
     ∃ j, c.lap.job = some j ∧ c.lap.stat.state = 3 ∧ isFrozen c .table j.post.table = false ∧ j.commitTick ≤ max c.clk.carillon (0 % 2 ^ 64) ∧ (getTable c j.post.table).older = 0) ∧
    (∃ j, (sweepingLeft [open3, open3]).lap.job = some j ∧ (sweepingLeft [open3, open3]).lap.stat.state = 4 ∧ j.left = [open3, open3]
      ∧ eMigr (entryOf (sweepingLeft [open3, open3]) 5 0 3) = false ∧ [open3] ≠ []) ∧
    (∃ j, (sweepingLeft [open3]).lap.job = some j ∧ j.left = [open3] ∧ (sweepingLeft [open3]).mode ≠ .doublet ∧ (tget (sweepingLeft [open3]).geo.maps (mapKey (tabSpace (sweepingLeft [open3]) 9) 0)).isSome = true) ∧
    ({ tab 2 0 with lap := { (tab 2 0).lap with holding := true } }).lap.holding = true := by
  refine ⟨⟨_, rfl, ?_⟩, ⟨_, rfl, ?_⟩, ⟨_, rfl, ?_⟩, ?_⟩ <;> decide +kernel

/-- Table 9 with its older epoch being released. -/
def releasing (l : List OpenGrain) : Chip :=
  let c := tab 2 0
  { c with lap := { c.lap with tables := [(9, { Table.reset with state := 2, older := 3, relLeft := l, prior := l })] } }

theorem witness_OlderEpochsAreReleased :
    ((getTable (releasing [open3]) 9).older = 3 ∧ (getTable (releasing [open3]) 9).relLeft = [open3] ∧ (tget (releasing [open3]).geo.maps (mapKey (tabSpace (releasing [open3]) 9) 0)).isSome = true) ∧
    ((getTable (releasing [open3, open3]) 9).relLeft = [open3, open3] ∧ [open3] ≠ []) ∧
    (epochStalled (releasing [open3]) 9 (max (releasing [open3]).clk.carillon (2 ^ 62 % 2 ^ 64)) = true
      ∧ jobStalled (releasing [open3]) 9 (max (releasing [open3]).clk.carillon (2 ^ 62 % 2 ^ 64)) = false) := by decide +kernel
/-! Witnesses: Belfry, Patterns and contexts. -/

/-- The configuration of a queue of Space 5: ring, records, token, RING_LOG2 6, Port B when named, IN_FLIGHT_LIMIT 64 (R199). -/
def qRec (space kind port : Nat) : Nat :=
  pack [(0x10000, 8), (0x20000, 8), (0, 8), (0, 8), (0x30000, 8), (space, 2), (6, 1), (kind, 1), (port, 1), (64, 1)]

/-- Queue `q` with its configuration and its state. -/
def queued5 (q : Nat) (x : Queue) : Chip :=
  let c := setObj (spaceIn 5 2) (0x2000 + q) 3 (if q = 0 then qRec 0 1 0 else qRec 5 0 0)
  { c with bel := { BelfrySt.reset with queues := [(q, x)] } }

/-- A queue in a state, P ahead of F by three. -/
def qIn (s : Nat) : Queue := { Queue.reset with state := s, space := 5, p := 3 }

/-- The queue with a value in its lane. -/
def inLane (c : Chip) (q d : Nat) : Chip := setLane c (q % 4) [(q, d, true)]

theorem witness_DoorbellsReachTheirQueue :
    (let c := queued5 5 (qIn 1)
     hostPosts c .a = true ∧ hostDecodes c .a = true ∧ 5 < 4096 ∧ (laneOf c (5 % 4)).length < 256 ∧ enabled c 0 = true ∧ homePort c 5 = .a ∧ (getQueue c 5).state ≠ 0 ∧ c.mode ≠ .rough) ∧
    (let c := { queued5 4095 (qIn 1) with mode := .rough }
     hostPosts c .a = true ∧ (laneOf c (4095 % 4)).length < 256 ∧ homePort c 4095 = .a ∧ (getQueue c 4095).state ≠ 0 ∧ c.mode = .rough ∧ 4095 ≠ 0) ∧
    (homePort (queued5 5 (qIn 1)) 5 ≠ .b ∧ (getQueue unit 5).state = 0) ∧
    (let c := inLane (queued5 7 (qIn 4)) 7 9
     3 < 4 ∧ laneOf c 3 = [(7, 9, true)] ∧ 3 < (getQueue c 7).state) ∧
    (let c := inLane (queued5 7 (qIn 1)) 7 3
     laneOf c 3 = [(7, 3, true)] ∧ (getQueue c 7).state ≠ 0 ∧ (getQueue c 7).state ≤ 3 ∧ (3 + 2 ^ 32 - (getQueue c 7).p) % 2 ^ 32 = 0) ∧
    (let c := inLane (queued5 7 (qIn 1)) 7 64
     laneOf c 3 = [(7, 64, true)] ∧ 0 < (64 + 2 ^ 32 - (getQueue c 7).p) % 2 ^ 32 ∧ (64 + 2 ^ 32 - (getQueue c 7).p) % 2 ^ 32 < 2 ^ 31
       ∧ (64 + 2 ^ 32 - (getQueue c 7).shown % 2 ^ 32) % 2 ^ 32 ≤ qSize c 7) := by decide +kernel

/-- An entry: OP, index, and a RECORD bit or a reserved bit. -/
def entryV (op e record res : Nat) : Nat := op + res * 2 ^ 2 + record * 2 ^ 4 + e * 2 ^ 32

/-- A queue with a ring read of one entry in flight. -/
def reading1 : Chip := queued5 5 { qIn 2 with f := 1, reading := 1 }

theorem witness_RingsAreFetchedAndJudged :
    fetchNext (queued5 5 (qIn 2)) = some 5 ∧
    ((getQueue reading1 5).reading ≠ 0 ∧ (zeros 64).length = 64 * (getQueue reading1 5).reading ∧ ringAgrees reading1 5 (.data (zeros 64)) = true ∧ (getQueue reading1 5).state ≠ 5) ∧
    entryCause reading1 5 0 (entryV 3 0 0 0) ≠ 0 ∧
    ((bits (entryV 3 0 0 0) 0 2 = 3 ∧ bits (entryV 1 0 0 0) 0 2 = 1 ∧ bits (entryV 2 0 0 0) 0 2 = 2) ∧ (bits (entryV 0 1 0 0) 0 2 = 0 ∧ bits (entryV 0 1 0 0) 32 32 ≠ 0)
      ∧ (bits (entryV 0 0 0 1) 32 32 = 0 ∧ bits (entryV 0 0 0 1) 2 2 ≠ 0)
      ∧ (bits (entryV 0 0 1 0) 0 2 = 0 ∧ bits (entryV 0 0 1 0) 32 32 = 0 ∧ entryFieldBad unit 5 (entryV 0 0 1 0) = false ∧ bit (entryV 0 0 1 0) 4 = true ∧ qRecord unit 5 = 0)) := by decide +kernel

/-- A queue that lost its host in an earlier epoch, its port attached again. -/
def lost5 : Chip := let c := queued5 5 { qIn 4 with heldEpoch := 1 }; { c with port := ⟨{ portOn with attached := true, epoch := 2 }, portOn⟩ }

theorem witness_QueuesAreControlled :
    (let c := queued5 4095 Queue.reset
     Serves (st c) fromA (writeReq 1 0x2FFF 2 (leBytes 1 1)) ∧ queueConfBad c 4095 = false ∧ (getQueue c 4095).state = 0 ∧ ¬ (homePort c 4095 = .b ∧ (getPort c .b).pool = true) ∧ c.sec.ten.state = 2
       ∧ isSilent c 4095 = false) ∧
    (Serves (st unit) fromA (writeReq 1 0x2001 2 (leBytes 1 1)) ∧ queueConfBad unit 1 = true) ∧
    (Serves (st (queued5 5 (qIn 1))) fromA (writeReq 1 0x2005 2 (leBytes 1 1)) ∧ queueConfBad (queued5 5 (qIn 1)) 5 = false ∧ (getQueue (queued5 5 (qIn 1)) 5).state ≠ 0
      ∧ (getQueue (queued5 5 (qIn 1)) 5).state ≠ 6) ∧
    (Serves (st (queued5 5 (qIn 3))) fromA (writeReq 1 0x2005 2 (leBytes 1 2)) ∧ (getQueue (queued5 5 (qIn 3)) 5).state = 3 ∧ (getQueue (queued5 5 (qIn 3)) 5).overrun = false) ∧
    (Serves (st unit) fromA (writeReq 1 0x2000 2 (leBytes 1 2)) ∧ (getQueue unit 0).state ≠ 3) ∧
    (Serves (st (queued5 5 (qIn 4))) fromA (writeReq 1 0x2005 2 (leBytes 1 3)) ∧ 1 ≤ (getQueue (queued5 5 (qIn 4)) 5).state ∧ (getQueue (queued5 5 (qIn 4)) 5).state ≤ 4) ∧
    (Serves (st unit) fromA (writeReq 1 0x2000 2 (leBytes 1 3)) ∧ 4 < (getQueue (queued5 5 (qIn 5)) 5).state) ∧
    (Serves (st lost5) fromA (writeReq 1 0x2005 2 (leBytes 1 4)) ∧ (getQueue lost5 5).state = 4 ∧ (getPort lost5 (homePort lost5 5)).attached = true
      ∧ (getQueue lost5 5).heldEpoch < (getPort lost5 (homePort lost5 5)).epoch) ∧
    (Serves (st unit) fromA (writeReq 1 0x2FFF 2 (leBytes 1 4)) ∧ (getPort (queued5 5 (qIn 4)) (homePort (queued5 5 (qIn 4)) 5)).attached = false) := by decide +kernel

/-- A record of an entry. -/
def rec0 (e : Nat) : Record := ⟨e, 0, 0xFFFF, 0, 0, false, false, false⟩

/-- A launch with no node, in a context state and with a final status. -/
def bare (q : Nat) (ctx : CtxSt) (final : Nat) : Launch := { (default : Launch) with q := q, space := 5, ctx := ctx, final := final, expiry := 50 }

/-- The launch in its queue. -/
def launched (q : Nat) (ctx : CtxSt) (final : Nat) : Chip := setLaunch (queued5 q (qIn 2)) (bare q ctx final)

/-- A launch of queue 5 that has ended and joined its flush reads, and one that shares the next flush read of Port A. -/
def flushed (fl : FlushRead) : Chip :=
  let c := setLaunch (launched 5 .ended 0) { bare 5 .ended 0 with asked := true }
  { c with bel := { c.bel with flush := ⟨fl, ⟨[], []⟩⟩ } }

theorem witness_CompletionsShareFlushReads :
    (getLaunch (flushed ⟨[], []⟩) 5 0 = some { bare 5 .ended 0 with asked := true } ∧ mayFinish (flushed ⟨[], []⟩) { bare 5 .ended 0 with asked := true } = true
      ∧ inFlush (flushed ⟨[(5, 0)], []⟩) 5 0 .a = true ∧ (nextFlush (flushed ⟨[], []⟩) 5 0 .a || nextFlush (flushed ⟨[], []⟩) 5 0 .b) = false) ∧
    ([HPort.a, .b].all fun p => !inFlush (flushed ⟨[], []⟩) 5 0 p && !nextFlush (flushed ⟨[], []⟩) 5 0 p) = true ∧
    (canIssue (flushed ⟨[], [(5, 0)]⟩) .a = true ∧ ((two (flushed ⟨[], [(5, 0)]⟩).bel.flush .a).next.all fun x => (getLaunch (flushed ⟨[], [(5, 0)]⟩) x.1 x.2).isSome) = true) := by decide +kernel

theorem witness_EntriesCompleteInPrefixOrder :
    ((getQueue (queued5 5 (qIn 2)) 5).doneSet = [] ∧ (getQueue (queued5 5 (qIn 2)) 5).state ≠ 4 ∧ (getQueue (queued5 5 (qIn 2)) 5).state ≠ 5
      ∧ (rec0 0).entry = (getQueue (queued5 5 (qIn 2)) 5).completed % 2 ^ 32 ∧ (rec0 1).entry ≠ (getQueue (queued5 5 (qIn 2)) 5).completed % 2 ^ 32) ∧
    (getQueue (queued5 5 (qIn 4)) 5).state = 4 ∧
    (getLaunch (launched 0 .none 0xFF) 0 0 = some (bare 0 .none 0xFF) ∧ (bare 0 .none 0xFF).expiry ≠ 0 ∧ (bare 0 .none 0xFF).expiry ≤ max (launched 0 .none 0xFF).clk.carillon (50 % 2 ^ 64)) ∧
    (5 ≠ 0 ∧ getLaunch (launched 5 .resident 0xFF) 5 0 = some (bare 5 .resident 0xFF)) := by decide +kernel

/-- An image of one Checkpoint node (R201 to R205); `magic` is its first word. -/
def image1 (magic : Nat) : Bytes := leBytes 64 (pack [(magic, 4), (1, 2)]) ++ leBytes 16 8 ++ zeros 32

/-- A Pattern in a state with an image. -/
def patIn (p s n : Nat) (img : Bytes) : Chip := setPat unit p { Pattern.reset with state := s, image := img, running := n }

theorem witness_PatternsAreRegisteredAndRetired :
    (Serves (st unit) fromA (writeReq 1 0x43FF 2 (leBytes 1 1)) ∧ (getPat unit 1023).state = 0 ∧ unit.sec.ten.state = 2) ∧
    (Serves (st (patIn 0 2 0 [])) fromA (writeReq 1 0x4000 2 (leBytes 1 1)) ∧ (getPat (patIn 0 2 0 []) 0).state ≠ 0) ∧
    ((getPat (patIn 7 1 0 (image1 0)) 7).state = 1 ∧ leadsMirror (patIn 7 1 0 (image1 0)) = false ∧ (checkImage (image1 0) (obj unit 0x44F0 1) (unit.mode == .doublet)).1 ≠ 0) ∧
    ((checkImage (image1 0x4E544150) (obj unit 0x44F0 1) (unit.mode == .doublet)).1 = 0
      ∧ firstFit 0 32768 (((image1 0x4E544150).length + 255) / 256) (storeUsed (patIn 7 1 0 (image1 0x4E544150))) = some 0) ∧
    (Serves (st (patIn 7 2 1 [])) fromA (writeReq 1 0x4007 2 (leBytes 1 2)) ∧ (getPat (patIn 7 2 1 []) 7).state = 2 ∧ (getPat (patIn 7 2 1 []) 7).running ≠ 0
      ∧ Serves (st (patIn 7 2 0 [])) fromA (writeReq 1 0x4007 2 (leBytes 1 2)) ∧ (getPat (patIn 7 2 0 []) 7).running = 0) ∧
    (Serves (st unit) fromA (writeReq 1 0x4000 2 (leBytes 1 2)) ∧ (getPat unit 0).state ≠ 2) ∧
    (Serves (st (patIn 7 3 0 [])) fromA (writeReq 1 0x4007 2 (leBytes 1 3)) ∧ (getPat (patIn 7 3 0 []) 7).state = 3 ∧ (getPat (patIn 7 3 0 []) 7).run = none) ∧
    (Serves (st unit) fromA (writeReq 1 0x43FF 2 (leBytes 1 3)) ∧ (getPat unit 1023).state ≠ 3) := by decide +kernel

/-- An entry of a LAUNCH of Pattern 0 with a patch block, handles, NO_LIGHT and a deadline. -/
def lentry (patch handles noLight deadline : Nat) : Nat := 1 + noLight * 2 ^ 5 + patch * 2 ^ 96 + handles * 2 ^ 80 + deadline * 2 ^ 384

/-- A launch of queue 5 whose reads are in flight. -/
def admitting (v : Nat) : Chip :=
  let c := setLaunch (queued5 5 (qIn 2)) { bare 5 .none 0xFF with entry := v }
  { c with pat := { c.pat with reads := [(5, 0)] } }

theorem witness_LaunchesAreAdmittedOrRejected :
    (let c := queued5 5 { qIn 2 with await := [(0, lentry 0 0 0 0)] }
     1 < 2 ∧ pipeNext c 1 = some (5, 0, lentry 0 0 0 0) ∧ enPatch (lentry 0 0 0 0) = 0 ∧ enHandles (lentry 0 0 0 0) = 0) ∧
    (let v := lentry 8 1 0 0
     ((admitting v).pat.reads.find? fun x => x.1 == 5) = some (5, 0) ∧ getLaunch (admitting v) 5 0 = some { bare 5 .none 0xFF with entry := v } ∧ (getSpace (admitting v) 5).state ≠ 4
       ∧ (zeros 8).length = enPatch v ∧ (zeros 8).length = 8 * enHandles v ∧ enPatch v ≠ 0 ∧ enHandles v ≠ 0) ∧
    (({ unit with mode := .rough }).mode = .rough ∧ unit.mode ≠ .rough ∧ (getPat unit 0).state ≠ 2 ∧ (getPat (patIn 0 2 0 []) 0).state = 2
      ∧ enHandles (lentry 0 0 0 0) < imgMinHandles (leBytes 64 (pack [(0, 32), (1, 2)]))) ∧
    (rejectCause (admitting 1) { bare 5 .none 0xFF with entry := 1 }).1 ≠ 0 ∧ enDeadline (lentry 0 0 0 (2 ^ 64 - 1)) = 2 ^ 64 - 1 ∧
    (enDeadline (lentry 0 0 1 0) ≠ 2 ^ 64 - 1 ∧ enDeadline (lentry 0 0 1 0) < unit.clk.carillon + estimate unit 0 + margin unit ∧ enNoLight (lentry 0 0 1 0) = true) := by decide +kernel

/-- Slot 0 with the launch in a context state, its place, its join list, its timer. -/
def inSlot (ctx : CtxSt) (joins : List (Nat × Nat)) : Chip :=
  setSlot { launched 5 ctx 0xFF with objs := (setObj (setObj (launched 5 ctx 0xFF) 0x3500 2 (2 ^ 37 + 2 ^ 64 * 2 ^ 24)) 0x4440 3 4).objs } 0
    { Slot.reset with joins := joins, places := [(0, (5, 0))], timerOn := true, timer := 9 }

theorem witness_ContextsJoinAndSwitch :
    (let c := setSlot (inSlot .joining [(5, 0)]) 0 { Slot.reset with joins := [(5, 0)] }
     (getSlot c 0).joins = [(5, 0)] ∧ ctxIn c 0 .outReady = [] ∧ getLaunch c 5 0 = some (bare 5 .joining 0xFF) ∧ (tryJoin c (bare 5 .joining 0xFF)).isSome = true ∧
       (let l := { bare 5 .joining 0xFF with early := true, admitted := 10 ^ 9 }
        getLaunch (setLaunch c l) 5 0 = some l ∧ l.early = true ∧ (setLaunch c l).clk.carillon ≤ l.admitted + 1 ∧ (tryJoin (setLaunch c l) l).isSome = true)) ∧
    dueStepBoundary 0 (10 ^ 12) (inSlot .resident []) = true ∧
    ((getSlot (inSlot .resident []) 0).timerOn = true ∧ (getSlot (inSlot .resident []) 0).timer ≤ max unit.clk.carillon (0 % 2 ^ 64) ∧ freesNow 0 0 (inSlot .resident []) = false
      ∧ (dlSort (ctxIn (inSlot .resident []) 0 .resident)).getLast? = some (bare 5 .resident 0xFF)) ∧
    (getLaunch (inSlot .saving []) 5 0 = some (bare 5 .saving 0xFF) ∧ sdsOf (inSlot .saving []) (.save 5 0) = []) ∧
    (getLaunch (inSlot .restoring []) 5 0 = some (bare 5 .restoring 0xFF) ∧ sdsOf (inSlot .restoring []) (.restore 5 0) = []) ∧
    (takeJoin (inSlot .joining [(5, 0)]) 5 0 0 4096 2).isSome = true := by decide +kernel
/-! Witnesses: Run nodes, the Bootstrap queue, the Peer Gateway and coherent windows. -/

/-- A node of a kind in a state. -/
def nodeK (kind body : Nat) (s : NodeSt) : NodeRt := { nodeFresh kind body with st := s }

/-- A launch of queue `q` with one node. -/
def oneNode (q : Nat) (x : NodeRt) : Launch := { bare q (if q = 0 then .none else .resident) 0xFF with nodes := [(0, x)] }

/-- The launch in its queue, with a cluster's state. -/
def clustered (q k : Nat) (x : NodeRt) (y : Cluster) : Chip := setClu (setLaunch (queued5 q (qIn 2)) (oneNode q x)) k y

/-- A Run node on cluster 7 that runs on core 15. -/
def coreRuns (aborted : Bool) : Chip := clustered 5 7 (nodeK 1 0 .running) { Cluster.reset with cores := [(15, ⟨5, 0, 0, aborted, 5⟩)] }

/-- A Run node of cluster 0 that waits to be dispatched again. -/
def again (cores : Nat) : Chip :=
  let c := clustered 5 0 (nodeK 1 0 .ready) { Cluster.reset with staged := [⟨5, 0, 0, true, 5⟩] }
  { c with toc := { c.toc with cores := cores } }

theorem witness_RunNodesAreDispatchedAndAnswered :
    (0 < 16 ∧ (runDispatch (again (2 ^ 128 - 1)) 0).isSome = true) ∧
    ((bootRun (again (2 ^ 128 - 1)) 0).isNone = true ∧ pickCore (again (2 ^ 128 - 1)) 0 = some 0 ∧ redispatch (again (2 ^ 128 - 1)) 0 = some ⟨5, 0, 0, true, 5⟩) ∧
    (tget (getClu (coreRuns false) 7).cores 15 = some ⟨5, 0, 0, false, 5⟩ ∧ getLaunch (coreRuns false) 5 0 = some (oneNode 5 (nodeK 1 0 .running)) ∧ (oneNode 5 (nodeK 1 0 .running)).final = 0xFF
      ∧ bits 0x10000 0 8 = 0 ∧ bits 0xFF 0 8 ≠ 0) ∧
    redispatchLate (again (2 ^ 128 - 2 ^ 16)) 5 0 0 0 = true ∧
    (tget (getClu (coreRuns true) 7).cores 15 = some ⟨5, 0, 0, true, 5⟩ ∧ 5 ≤ max (coreRuns true).clk.carillon (0 % 2 ^ 64)) ∧
    (cadence [] 0 32 [(3, 1)]).1 = some 3 ∧ (getLaunch (launched 5 .ended 0) 5 0 = some (bare 5 .ended 0) ∧ (bare 5 .ended 0).final ≠ 0xFF) := by decide +kernel

/-- A launch with one Wait-until-tick or Fence node that is ready. -/
def waitNode (kind body : Nat) : Chip := setLaunch (queued5 5 (qIn 2)) (oneNode 5 (nodeK kind body .ready))

/-- A Fence node whose move nodes have completed and whose flush reads are out. -/
def fenceReady : NodeRt := { nodeK 8 0 .ready with covers := some [], asked := true }

/-- A launch with that Fence node. -/
def fencing : Chip := setLaunch (queued5 5 (qIn 2)) (oneNode 5 fenceReady)

theorem witness_WaitAndFenceNodesComplete :
    (readyNode (waitNode 7 5000) 5 0 0 7 = some (oneNode 5 (nodeK 7 5000 .ready), nodeK 7 5000 .ready)
      ∧ waitTarget (oneNode 5 (nodeK 7 5000 .ready)) (nodeK 7 5000 .ready) ≤ max (waitNode 7 5000).clk.carillon (5000 % 2 ^ 64)) ∧
    (readyNode fencing 5 0 0 8 = some (oneNode 5 fenceReady, fenceReady) ∧ fenceReady.covers = some [] ∧ fenceReady.asked = true
      ∧ waitsLink fencing (oneNode 5 fenceReady) = false) ∧
    (canIssue fencing .b = true ∧ HPort.b ≠ homePort fencing 5 ∧ 2 / portBit .b % 2 = 1 ∧ fenceReady.ports = 0 ∧ bit (fld fenceReady.body 0 1) 0 = false) ∧
    (getLaunch (waitNode 8 0) 5 0 = some (oneNode 5 (nodeK 8 0 .ready)) ∧ getNode (oneNode 5 (nodeK 8 0 .ready)) 0 = some (nodeK 8 0 .ready)) := by decide +kernel

/-- A Bootstrap entry: CMD, its flag, and the operands A to D (R232). -/
def bootV (cmd fl a b c d : Nat) : Nat := 2 + pack [(0, 8), (cmd, 1), (fl, 1), (0, 6), (a, 8), (b, 8), (c, 8), (d, 8)]

/-- Queue 0 with a Bootstrap entry at its head; Space 0 holds its first GiB in HBM. -/
def bootQ (v : Nat) : Chip :=
  let c := setSpace (queued5 0 { qIn 2 with space := 0, await := [(0, v)] }) 0 { Space.reset 0 with segs := [(0, segK 1 1)] }
  c

theorem witness_BootstrapCommandsStart :
    bootNext (bootQ (bootV 1 0 0 4096 64 0)) 1 = some (0, bootV 1 0 0 4096 64 0) ∧
    (bootNext (bootQ (bootV 2 1 0 0 64 0)) 2 = some (0, bootV 2 1 0 0 64 0) ∧ bit (fld (bootV 2 1 0 0 64 0) 9 1) 0 = true) ∧
    (bootNext (bootQ (bootV 2 0 0 0 64 7)) 2 = some (0, bootV 2 0 0 0 64 7) ∧ bit (fld (bootV 2 0 0 0 64 7) 9 1) 0 = false) ∧
    bootNext (bootQ (bootV 3 0 64 0 0 0)) 3 = some (0, bootV 3 0 64 0 0 0) ∧
    (let v := bootV 4 0 64 0 0 0
     bootNext (bootQ v) 4 = some (0, v) ∧ bootNext { bootQ v with mode := .rough } 4 = some (0, v) ∧ (bootQ v).mode ≠ .rough
       ∧ (progWord (bootStart (bootQ v) 0 v []) 0 (bA v)).isSome = true ∧ coreUp (bootStart (bootQ v) 0 v []) (fld v 32 1) (fld v 33 1) = true) ∧
    bootNext (bootQ (bootV 5 0 900 0 0 0)) 5 = some (0, bootV 5 0 900 0 0 0) ∧
    bootNext (bootQ (bootV 6 0 0 64 4096 0)) 6 = some (0, bootV 6 0 0 64 4096 0) := by decide +kernel

/-- A running Bootstrap command that waits for a read. -/
def bootRuns (k v : Nat) : Chip := let c := bootStart (bootQ v) 0 v []; { c with pat := { c.pat with boot := some k } }

/-- A good descriptor: a TRANSFER of 64 bytes. -/
def goodDesc : Bytes := leBytes 128 (1 + 64 * 2 ^ 352 + 64 * 2 ^ 736)

theorem witness_BootstrapReadsComplete :
    ((digestReady (bootRuns 6 (bootV 6 0 0 64 2 0))).isSome = true ∧ canIssue (bootRuns 6 (bootV 6 0 0 64 2 0)) .a = true
      ∧ (let c := modPort (bootRuns 6 (bootV 6 0 0 64 2 0)) .a fun x => { x with link := 0 }; (digestReady c).isSome = true ∧ canIssue c .a = false)) ∧
    ((bootWaits (bootRuns 3 (bootV 3 0 64 0 0 0)) 3).isSome = true ∧ (zeros 128).length = 128 ∧ dOp (leNat (zeros 128)) = 0) ∧
    (goodDesc.length = 128 ∧ dOp (leNat goodDesc) ≠ 0 ∧ descOk (leNat goodDesc) = true) ∧
    ((bootWaits (bootRuns 4 (bootV 4 0 64 0 0 0)) 4).isSome = true ∧ (zeros 192).length = 192) := by decide +kernel

/-- A record of a peer window: KIND, FBASE, one page, Space 7, any source. -/
def winRec (kind base : Nat) : Nat := base + 4096 * 2 ^ 64 + (if kind = 1 then 7 else 0) * 2 ^ 192 + kind * 2 ^ 208 + (if kind = 2 then 9 else 0) * 2 ^ 216 + 0xFFFF * 2 ^ 224

/-- A window with a shadow and an active record, over Space 7. -/
def window (shadow active : Nat) : Chip := { running (segK 1 1) (mv moveBody) with peer := { PeerSt.reset with wins := [(1, ⟨shadow, active, 0, 0⟩)] } }

theorem witness_PeerWindowsCommitTogether :
    (let c := window (winRec 1 0) 0
     Serves (st c) fromA (writeReq 1 0x12F0 1 (leBytes 1 1)) ∧ c.sec.ten.state = 2 ∧ c.peer.status ≠ 1 ∧ (∀ w, w ∈ c.peer.wins → commitReason c w.1 = 0) ∧ c.peer.packets = []) ∧
    (let c := { unit with peer := { PeerSt.reset with status := 1 } }
     Serves (st c) fromA (writeReq 1 0x12F0 1 (leBytes 1 1)) ∧ c.sec.ten.state = 2 ∧ c.peer.status = 1) ∧
    (257 % 256 = 1 ∧ 0 % 256 ≠ 1 ∧ Serves (st unit) fromA (writeReq 1 0x12F0 1 (leBytes 1 0))) ∧
    (let c := window (winRec 2 0) 0
     Serves (st c) fromA (writeReq 1 0x12F0 1 (leBytes 1 1)) ∧ c.peer.wins = [(1, ⟨winRec 2 0, 0, 0, 0⟩)] ∧ commitReason c 1 ≠ 0) ∧
    shadowBad (winRec 1 0) = false ∧ (wKind (winRec 1 1) = 1 ∧ wBase (winRec 1 1) % 4096 ≠ 0) := by decide +kernel

/-- A unit with a packet outstanding. -/
def packet (write : Bool) : Inbound := ⟨4, 1, 0, 77, write, 7, 0, true, 0, 64⟩

/-- The gateway with the packet. -/
def tracked (write : Bool) : Chip := { window 0 (winRec 1 0) with peer := { PeerSt.reset with packets := [packet write], nextPkt := 5 } }

theorem witness_InboundPacketsAreServedOrRefused :
    (let c := { unit with clk := { unit.clk with enables := 0 } }
     c.peer.packets.length < 1024 ∧ enabled c 7 = false) ∧
    (unit.peer.packets.length < 1024 ∧ serving unit = true ∧ enabled unit 7 = true ∧ 2048 < 2049 ∧ 4096 < 4095 % 4096 + 2 ∧ winMatch unit 77 4095 2 = none) ∧
    (1 ≤ 2048 ∧ 2048 ≤ 2048 ∧ 2048 % 4096 + 2048 ≤ 4096 ∧ winMatch unit 77 2048 2048 = none) ∧
    (let c := window 0 (winRec 1 0)
     winMatch c 77 4095 1 = some (1, winRec 1 0) ∧ wKind (winRec 1 0) = 1 ∧ fixedSeg c (wSpace (winRec 1 0)) (wDva (winRec 1 0) + (4095 - wBase (winRec 1 0))) 1 = some (segK 1 1)
       ∧ c.peer.packets.length < 1024 ∧ serving c = true ∧ enabled c 7 = true) ∧
    (getPacket (tracked false) (packet false).id = some (packet false) ∧ (zeros 64).length = (packet false).len) ∧
    getPacket (tracked true) (packet true).id = some (packet true) ∧ (0 ≠ 0x40 ∧ 0 ≠ 0x60) := by decide +kernel

/-- A POST window 1 that is active, and a record of 32 bytes that begins with its table. -/
def posting : Chip := window 0 (winRec 2 0)

theorem witness_PostsAreMatchedAndAnswered :
    (winMatch posting 77 0 32 = some (1, winRec 2 0) ∧ wKind (winRec 2 0) ≠ 1 ∧ wBase (winRec 2 0) ≤ 64 ∧ winMatch posting 77 64 32 = some (1, winRec 2 0) ∧ 64 ≠ wBase (winRec 2 0)) ∧
    (0 = wBase (winRec 2 0) ∧ bfld (9 :: zeros 31) 0 1 = wTable (winRec 2 0) ∧ bfld (zeros 32) 0 1 ≠ wTable (winRec 2 0) ∧ (zeros 32).length = 32) ∧
    (let c := window 0 (winRec 1 0); winMatch c 77 4095 1 = some (1, winRec 1 0) ∧ fixedSeg (window 0 (winRec 1 0)) 7 (2 ^ 50) 1 = none) ∧
    (let c := { tracked true with peer := { (tracked true).peer with posts := [(4, 7, [])] } }; c.peer.posts = (4, 7, []) :: [] ∧ getPacket c 4 = some (packet true)) ∧
    (packet true).counted = true := by decide +kernel

/-- A unit whose Port A runs CXL.cache, with coherent window `w` of 4 KiB in a state. -/
def coherent (w s : Nat) : Chip :=
  setObj { unit with port := ⟨{ portOn with proto := 1, cfg := { portOn.cfg with cacheEn := true } }, portOn⟩, coh := { CohSt.reset with wins := if s = 0 then [] else [(w, s)] } }
    (0x4840 + w) 1 (pack [(0, 8), (4096, 4)])

/-- The unit with a line. -/
def withLine (l : Line) : Chip := { coherent 0 1 with coh := { (coherent 0 1).coh with lines := [(lineKey .a 64, l)] } }

theorem witness_CoherentWindowsKeepTheirLines :
    (let c := coherent 63 0
     Serves (st c) fromA (writeReq 1 0x487F 2 (leBytes 1 1)) ∧ cohBad c 63 = false ∧ (getPort c (cohPort c 63)).proto = 1 ∧ ¬ (cohPort c 63 = .b ∧ (getPort c .b).pool = true)
       ∧ tgetD c.coh.wins 63 0 = 0 ∧ c.sec.ten.state = 2 ∧ cacheUp c (cohPort c 63) = true) ∧
    (let c := setObj (coherent 0 0) 0x4840 1 1
     Serves (st c) fromA (writeReq 1 0x4840 2 (leBytes 1 1)) ∧ cohBad c 0 = true) ∧
    (Serves (st (coherent 0 1)) fromA (writeReq 1 0x4840 2 (leBytes 1 1)) ∧ cohBad (coherent 0 1) 0 = false ∧ tgetD (coherent 0 1).coh.wins 0 0 ≠ 0) ∧
    Serves (st (coherent 0 1)) fromA (writeReq 1 0x4840 2 (leBytes 1 2)) ∧
    (cacheUp (coherent 0 1) .a = true ∧ 2 ^ 64 - 1 < 2 ^ 64 ∧ tget (coherent 0 1).coh.lines (lineKey .a (2 ^ 64 - 1)) = none) ∧
    (let l := { Line.reset with reading := true }
     cacheUp (withLine l) .a = true ∧ tget (withLine l).coh.lines (lineKey .a 64) = some l ∧ (tgetD (withLine l).coh.lines (lineKey .a 64) Line.reset).again = false
       ∧ valueQueues (withLine l) (lineKey .a 64) = []) ∧
    (let l := { Line.reset with shared := true }
     tget (withLine l).coh.lines (lineKey .a 64) = some l ∧ l.reading = false ∧ l.watched = false ∧ l.pinned = false) ∧
    (cacheUp (coherent 0 2) .a = true ∧ serving (coherent 0 2) = true ∧ (0, 2) ∈ portWindows (coherent 0 2) .a) := by decide +kernel

theorem witness_CoherentWindowsKeepTheirLines_more :
    (let c := modPort (coherent 0 0) .a fun x => { x with cfg := { x.cfg with cacheEn := false } }
     Serves (st c) fromA (writeReq 1 0x4840 2 (leBytes 1 1)) ∧ cohBad c 0 = false ∧ (getPort c (cohPort c 0)).proto = 1 ∧ ¬ (cohPort c 0 = .b ∧ (getPort c .b).pool = true)
       ∧ tgetD c.coh.wins 0 0 = 0 ∧ c.sec.ten.state = 2 ∧ cacheUp c (cohPort c 0) = false) ∧
    (let l := { Line.reset with shared := true, watched := true }; tget (withLine l).coh.lines (lineKey .a 64) = some l ∧ l.reading = false ∧ l.watched = true) ∧
    (let c := withLine { Line.reset with reading := true }
     (tgetD c.coh.lines (lineKey .a 64) Line.reset).reading = true ∧ (zeros 64).length = 64 ∧ lanesTake c (valueQueues c (lineKey .a 64)) = true ∧ (∀ x, x ∈ c.coh.late → x.1 ≠ lineKey .a 64)) ∧
    (tgetD (withLine { Line.reset with reading := true, again := true }).coh.lines (lineKey .a 64) Line.reset).again = true ∧
    (tgetD (withLine { Line.reset with shared := true }).coh.lines (lineKey .a 64) Line.reset).shared = true := by decide +kernel

/-! Witnesses: the host ports. -/

/-- The unit with Port A changed. -/
def pa (f : Port → Port) : Chip := modPort unit .a f

/-- Port A down, its configuration space as it was. -/
def downA : Chip := pa fun x => { x with link := 0, ready := false }

/-- Port A with its ROM window enabled over a running bundle without body blocks. -/
def romOn (b : Bytes) : Chip := { (pa fun x => { x with cfg := { x.cfg with rom := 1 } }) with sec := { unit.sec with fw := { FwSt.reset with running := b } } }

/-- A bundle that says it has one block, which fails its digest. -/
def badBundle : Bytes := leBytes 160 (pack [(0x4C444E42, 4), (7, 4), (0, 4), (4097, 4), (1, 4)]) ++ zeros 3937

theorem witness_PortsResetAndTrain :
    (getPort unit .a).perst = false ∧ (getPort Chip.reset .a).perst = true ∧ linkIsUp unit .a = true ∧ 40000 ≤ max unit.clk.carillon (40000 % 2 ^ 64) ∧
    ((getPort downA .a).perst = false ∧ (getPort downA .a).link ≤ 1 ∧ downA.boot.mclkRuns = true ∧ pllState downA 1 = 2 ∧ bit downA.clk.stopped (2 + portNo .a) = false ∧
      widthOk 16 = true ∧ 128 = 128 ∧ (getPort downA .a).proto = 0) := by decide

theorem witness_PortsAreClocked :
    (domainRuns unit 9 = true ∧ domainRuns unit 10 = true ∧ domainRuns downA 3 = true ∧ domainRuns downA 9 = true ∧ hostPosts unit .a = true ∧ hostDecodes unit .a = true) ∧
    (let c := pa fun x => { x with cfg := { x.cfg with mse := false } }; hostPosts c .a = true ∧ hostDecodes c .a = false) ∧
    (sizeOk 0 4 = true ∧ pageAllowed (queued5 5 (qIn 2)) .a 5 0 4 = true) := by decide +kernel

theorem witness_ConfigurationWritesTakeEffect :
    (linkIsUp unit .a = true ∧ cfgAnswers unit .a = true ∧ (getPort unit .a).cfg.bme = true ∧ (getPort unit .a).shut = 0 ∧ (getPort unit .a).cfg.d3 = false) ∧
    (let c := pa fun x => { x with cfg := { x.cfg with bme := false } }; linkIsUp c .a = true ∧ cfgAnswers c .a = true ∧ (getPort c .a).cfg.bme = false) ∧
    (let c := pa fun x => { x with shut := 1 }; linkIsUp c .a = true ∧ cfgAnswers c .a = false) ∧
    (let c := pa fun x => { x with shut := 2, cfg := { x.cfg with bme := false } }; linkIsUp c .a = true ∧ heldOff c .a .command 6 = true) ∧
    heldOff unit .a .command 6 = false ∧ bit 6 2 = true := by decide

theorem witness_PortsAttachAndDetach :
    (Serves (st unit) (.mbox .a) (writeReq 1 0x1210 8 (leBytes 1 1)) ∧ (getPort unit .a).cfg.mse = true ∧ (getPort unit .a).cfg.bme = true ∧ (getPort unit .a).cfg.d3 = false
      ∧ (getPort unit .a).shut = 0 ∧ (getPort unit .a).pool = false ∧ (getPort unit .a).attached = false ∧ ideShut unit .a = false) ∧
    (Serves (st unit) (.mbox .b) (writeReq 1 0x1210 8 (leBytes 1 1)) ∧ Src.mbox .b ≠ Src.mbox .a) ∧ Serves (st unit) (.mbox .a) (writeReq 1 0x1211 8 (leBytes 1 2)) := by decide

/-- A host read of 64 bytes from Port A, outstanding until tick 50. -/
def hostRd : XReq := ⟨3, 20, 0, 0, false, 3, 0, 64, 0, 64, 0, [], false, false, false, false, 0, 50⟩

/-- The unit with that read outstanding. -/
def readA : Chip := { unit with xf := { XferSt.reset with reqs := [(3, hostRd)] } }

theorem witness_PortErrorsAreLogged :
    (tget readA.xf.reqs 3 = some hostRd ∧ routePort hostRd.route = some .a ∧ hostRd.write = false
      ∧ hostRd.limit ≤ max unit.clk.carillon (0 % 2 ^ 64)) ∧
    linkIsUp unit .a = true ∧ (getPort unit .a).shut = 0 ∧ (getPort (pa fun x => { x with shut := 2 }) .a).shut ≠ 0 ∧ linkIsUp (pa fun x => { x with shut := 2 }) .a = true ∧
    (unit.boot.mclkRuns = true ∧ (getPort unit .a).oeNext ≤ max unit.clk.carillon (0 % 2 ^ 64)) ∧ (downA.boot.mclkRuns = true ∧ linkIsUp downA .a = false) := by decide

theorem witness_LinkPowerStates :
    (let c := pa fun x => { x with cfg := { x.cfg with aspm := 3 } }
     (getPort c .a).link = 2 ∧ bit (getPort c .a).cfg.aspm 0 = true ∧ 4 < (getPort c .a).width ∧ obj c 0x1210 5 ≤ max c.clk.carillon (2 ^ 40 % 2 ^ 64) ∧
      bit (getPort c .a).cfg.aspm 1 = true ∧ obj c 0x1210 6 ≤ max c.clk.carillon (2 ^ 40 % 2 ^ 64) ∧ readsOn c .a = 0 ∧ activeQueue c .a = false ∧
      ptmDue c .a (max c.clk.carillon (2 ^ 40 % 2 ^ 64)) = false) ∧
    (getPort (pa fun x => { x with link := 3 }) .a).link = 3 ∧ (getPort (pa fun x => { x with link := 4 }) .a).link = 4 ∧
    readsOn readA .a ≠ 0 := by decide

theorem witness_HostAccessesReachRegisters :
    (hostReach unit .a = true ∧ hostDecodes unit .a = true ∧ bar0Allowed unit 0x1054 4 = true ∧ bar0Allowed unit 0x1055 4 = false) ∧
    (let c := romOn []
     bit (getPort c .a).cfg.rom 0 = true ∧ (∀ k, k ∈ romBlocks c 0x200000 4 → blockOk c.sec.fw.running k = true) ∧ 0x200000 % 4 = 0) ∧
    (let c := pa fun x => { x with cfg := { x.cfg with mse := false } }; hostReach c .a = true ∧ hostDecodes c .a = false) ∧ hostReach unit .a = true := by decide

theorem witness_HostAccessesReachRegisters_poisoned :
    (romBlocks (romOn badBundle) 0x201000 4).filter (fun k => !blockOk badBundle k) = [0] := by decide +kernel

/-- Queue 5 of Port A is live with COUNT 7; queue 6 is FREE. -/
theorem witness_HostReadsFindTheirRegisters :
    (let c := queued5 5 { getQueue unit 5 with state := 2, shown := 7, f := 9 }
     hostDecodes c .a = true ∧ enabled c 0 = true ∧ pageLive c .a 5 = true ∧ pageOpen c 5 = true ∧ pageLive c .a 6 = false ∧ sizeOk 0x40 8 = true
      ∧ (hostReads c .a .bar2 0x5040 8 false).out = [.completion .a 0 [7, 0, 0, 0, 0, 0, 0, 0]]
      ∧ (hostReads c .a .bar0 0x1000 4 false).out = [.completion .a 0 [2, 0, 0, 0]]) ∧
    hostDecodes (pa fun x => { x with cfg := { x.cfg with d3 := true } }) .a = false := by decide +kernel

/-! Witnesses: Carillon, the clocks and the meter. -/

/-- The unit with its discipline changed and a time source selected. -/
def timed (source : Nat) (f : Disc → Disc) : Chip := setObj (modDisc unit f) 0x1300 2 source

/-- Port A may run a PTM dialogue. -/
def ptmOn (c : Chip) : Chip := modPort c .a fun x => { x with cfg := { x.cfg with ptmEn := true } }

/-- KCLK on FIRC. -/
def onFirc (c : Chip) : Chip := { c with clk := { c.clk with sel := 2 ^ 21 } }

theorem witness_TimeSamplesAreTaken :
    (let c := ptmOn (timed 1 id)
     timeSource c = portNo .a + 1 ∧ (getPort c .a).link = 2 ∧ (getPort c .a).cfg.ptmEn = true ∧ c.boot.mclkRuns = true ∧ kclkFirc c = false ∧ followsPartner c = false
      ∧ c.clk.disc.ptmNext ≤ max c.clk.carillon (0 % 2 ^ 64)) ∧
    (let c := timed 1 id
     timeSource c = portNo .a + 1 ∧ (getPort c .a).link ≠ 4 ∧ ptmUsable c .a = false ∧ c.boot.mclkRuns = true ∧ kclkFirc c = false ∧ followsPartner c = false
      ∧ c.clk.disc.ptmNext ≤ max c.clk.carillon (0 % 2 ^ 64)) ∧
    (let c := ptmOn (timed 1 fun d => { d with ptmOut := true, ptmSent := 900 })
     c.clk.disc.ptmOut = true ∧ max c.clk.carillon (100900 % 2 ^ 64) ≤ c.clk.disc.ptmSent + 100000 ∧ timeSource c = portNo .a + 1 ∧ ptmUsable c .a = true ∧ kclkFirc c = false ∧
      c.clk.disc.ptmSent + 100000 < max c.clk.carillon (100901 % 2 ^ 64)) ∧
    (unit.boot.fircOn = true ∧ timeSource unit ≠ 3) ∧
    (let c := timed 3 id; c.boot.fircOn = true ∧ timeSource c = 3 ∧ kclkFirc c = false ∧ followsPartner c = false ∧ c.clk.disc.ppsSet = false) ∧
    (let c := timed 3 fun d => { d with ppsSet := true, ppsOpen := true, ppsLast := 500 }
     c.boot.fircOn = true ∧ timeSource c = 3 ∧ kclkFirc c = false ∧ followsPartner c = false ∧ c.clk.disc.ppsSet = true ∧ c.clk.disc.ppsOpen = true ∧
      max c.clk.carillon (0 % 2 ^ 64) < c.clk.disc.ppsLast + 900000000 ∧ c.clk.disc.ppsLast + 1100000000 < max c.clk.carillon (1100000501 % 2 ^ 64) ∧
      c.clk.disc.ppsLast + 900000000 ≤ max c.clk.carillon (900000500 % 2 ^ 64) ∧ max c.clk.carillon (1100000500 % 2 ^ 64) ≤ c.clk.disc.ppsLast + 1100000000) ∧
    (let c := timed 3 fun d => { d with ppsSet := true }; c.clk.disc.ppsSet = true ∧ c.clk.disc.ppsOpen = false) ∧
    (let c := timed 1 fun d => { d with state := 1 }; c.clk.disc.since + obj c 0x1300 9 ≤ max c.clk.carillon (2 ^ 60 % 2 ^ 64) ∧ c.clk.disc.state = 1) ∧
    (let c := timed 1 fun d => { d with state := 2 }; c.clk.disc.since + obj c 0x1300 9 ≤ max c.clk.carillon (2 ^ 60 % 2 ^ 64) ∧ c.clk.disc.state = 2) := by decide

theorem witness_SamplesSteerTheDiscipline :
    (let c := timed 1 fun d => { d with state := 1, good := 6 }; c.clk.disc.state = 1 ∧ c.clk.disc.good < 7 ∧ (0 : Int).natAbs ≤ obj c 0x1300 8) ∧
    (let c := timed 1 fun d => { d with state := 1, good := 7 }; c.clk.disc.state = 1 ∧ c.clk.disc.good = 7 ∧ (0 : Int).natAbs ≤ obj c 0x1300 8) ∧
    (let c := timed 1 fun d => { d with state := 1 }; c.clk.disc.state = 1 ∧ obj c 0x1300 8 < (-(2 ^ 40) : Int).natAbs) ∧
    (timed 1 fun d => { d with state := 2 }).clk.disc.state = 2 ∧ (timed 1 fun d => { d with state := 3 }).clk.disc.state = 3 ∧ (timed 1 id).clk.disc.align = false ∧
    (timed 1 fun d => { d with align := true }).clk.disc.align = true := by decide

theorem witness_CarillonStepsOnlyInFirstRough :
    (Serves (st first) .sideband (writeReq 1 0x1300 6 (leBytes 8 7)) ∧ first.mode = .rough ∧ first.rough.kind = 1 ∧ Serves (st first) .sideband (writeReq 1 0x1300 0xF (leBytes 1 1))) ∧
    (Serves (st unit) .sideband (writeReq 1 0x1300 6 (leBytes 8 7)) ∧ ¬ (unit.mode = .rough ∧ unit.rough.kind = 1) ∧ Serves (st unit) .sideband (writeReq 1 0x1300 0xF (leBytes 1 1)) ∧
      ¬ (unit.mode = .rough ∧ unit.rough.kind = 1)) ∧ (0 % 256 ≠ 1 ∧ Serves (st unit) .sideband (writeReq 1 0x1300 0xF (leBytes 1 0))) := by decide

/-- The unit with the PLLs in given states, no domain on PLL-D. -/
def plls (l : List Nat) : Chip := { unit with clk := { unit.clk with pll := l } }

theorem witness_PllsStartStopAndAreMonitored :
    (Serves (st (plls [2, 2, 0, 2])) .sideband (writeReq 1 0x1312 2 (leBytes 1 1)) ∧ pllState (plls [2, 2, 0, 2]) 2 = 0 ∧ pllState unit 2 ≠ 0 ∧
      Serves (st unit) .sideband (writeReq 1 0x1312 2 (leBytes 1 1))) ∧
    (let c := { unit with clk := { unit.clk with sel := 2 ^ 10 } }
     Serves (st c) .sideband (writeReq 1 0x1312 2 (leBytes 1 2)) ∧ pllInUse c 2 = false ∧ pllInUse unit 0 = true ∧ Serves (st unit) .sideband (writeReq 1 0x1310 2 (leBytes 1 2))) ∧
    (let c := plls [2, 2, 1, 2]; pllState c 2 = 1 ∧ c.clk.pllAt.getD 2 0 + 1000000 ≤ max c.clk.carillon (1000000 % 2 ^ 64)) ∧
    (bit unit.clk.armed 0 = true ∧ unit.clk.firc = true ∧ monitorBad unit 0 3799 = true ∧ monitorBad unit 0 3800 = false) ∧ bit unit.clk.monFail 3 = false ∧
    bit { unit with clk := { unit.clk with monFail := 8 } }.clk.monFail 3 = true := by decide

theorem witness_KclkOnFircHoldsTime :
    (bit unit.clk.armed 2 = true ∧ unit.clk.firc = true ∧ bit unit.clk.monFail 2 = false ∧ monitorBad unit 2 0 = true ∧ monitorBad unit 6 0 = true) ∧ kclkFirc unit = false ∧
    ((onFirc unit).boot.fircOn = true ∧ bit (onFirc unit).clk.stopped 21 = false ∧ kclkFirc (onFirc unit) = true ∧ (onFirc unit).clk.half = false) ∧
    (let c := onFirc { unit with clk := { unit.clk with half := true } }
     c.boot.fircOn = true ∧ bit c.clk.stopped 21 = false ∧ kclkFirc c = true ∧ c.clk.half = true) ∧
    (let c := onFirc (timed 1 fun d => { d with ptmOut := true, ptmSent := 900 })
     kclkFirc c = true ∧ (ptmPort c).isSome = true ∧ c.clk.disc.ptmOut = true ∧ max c.clk.carillon (0 % 2 ^ 64) ≤ c.clk.disc.ptmSent + 100000) ∧
    (let c := { (onFirc unit) with clk := { (onFirc unit).clk with mux := unit.clk.mux.set 21 1 } }
     muxOf c 22 = 1 ∧ normalReady c 22 = true ∧ fallbackRuns c 22 = true ∧ c.clk.want.getD 21 0 = 0) := by decide

theorem witness_KclkOnFircHoldsTime_runs : domainRuns (onFirc unit) 22 = true ∧ domainRuns (onFirc { unit with clk := { unit.clk with half := true } }) 22 = true ∧ tocsinRuns unit = true := by
  decide

theorem witness_DomainsSwitchTheirSource :
    (Passes (st unit) .sideband (writeReq 1 0x1321 1 (leBytes 1 0)) ∧ domainSourceStatus 1 0 unit = 0 ∧ onFallback unit 1 = (0 == 1)) ∧
    (Passes (st unit) .sideband (writeReq 1 0x1321 1 (leBytes 1 1)) ∧ domainSourceStatus 1 1 unit = 0 ∧ onFallback unit 1 ≠ (1 == 1)) ∧
    (Passes (st unit) .sideband (writeReq 1 0x1334 1 (leBytes 1 1)) ∧ domainSourceStatus 20 1 unit = 0 ∧ onFallback unit 20 ≠ (1 == 1)) ∧
    (Passes (st unit) .sideband (writeReq 1 0x1325 1 (leBytes 1 1)) ∧ domainSourceStatus 5 1 unit ≠ 0) ∧ hasMux 5 = false ∧
    (hasMux 1 = true ∧ normalReady (plls [1, 2, 2, 2]) 1 = false) ∧
    (let c := { unit with clk := { unit.clk with mux := unit.clk.mux.set 0 1, want := unit.clk.want.set 0 1, held := [(1, .sideband, writeReq 1 0x1321 1 (leBytes 1 1))] } }
     muxOf c 1 = 1 ∧ normalReady c 1 = true ∧ fallbackRuns c 1 = true ∧ (1 ≠ 22 ∨ c.clk.want.getD 0 0 ≠ 0) ∧ c.clk.held = (1, .sideband, writeReq 1 0x1321 1 (leBytes 1 1)) :: []) := by decide

/-- A meter request: FIRC measured against XREF0 over 4,096 cycles. -/
def meterReq (w : Nat) : Bytes := leBytes 8 (pack [(0, 1), (1, 1), (0, 2), (w, 4)])

/-- The meter running or done. -/
def metering : Chip := { unit with clk := { unit.clk with meter := 1, meterW := 4096, meterM := 0, meterR := 1 } }

theorem witness_MeterAndGatesAnswer :
    (meterCode (fld (leNat (meterReq 4096)) 0 1) = true ∧ meterCode (fld (leNat (meterReq 4096)) 1 1) = true ∧ 1 ≤ fld (leNat (meterReq 4096)) 4 4
      ∧ fld (leNat (meterReq 4096)) 4 4 ≤ 2 ^ 24 ∧ Serves (st unit) .sideband (writeReq 1 0x1350 1 (meterReq 4096)) ∧ unit.clk.meter ≠ 1
      ∧ Serves (st metering) .sideband (writeReq 1 0x1350 1 (meterReq 4096)) ∧ metering.clk.meter = 1) ∧
    (2 ^ 24 < fld (leNat (meterReq (2 ^ 24 + 1))) 4 4 ∧ Serves (st unit) .sideband (writeReq 1 0x1350 1 (meterReq (2 ^ 24 + 1)))) ∧
    (metering.clk.meter = 1 ∧ meterRuns metering metering.clk.meterR = true) ∧
    (let v := 2 ^ 20 - 1; v < 2 ^ 20 ∧ Serves (st unit) .sideband (writeReq 1 0x1100 3 (leBytes 4 v)) ∧ ∀ b, b < 20 → bit unit.clk.enables b = true → bit v b = true) ∧
    (let v := 2 ^ 20 - 2; Serves (st unit) .sideband (writeReq 1 0x1100 3 (leBytes 4 v)) ∧
      (∀ b, b < 20 → bit unit.clk.enables b = true → bit v b = false → blockBusy unit b = false) ∧ (bit unit.clk.enables 18 = true → bit v 18 = true)) ∧
    (let v := 2 ^ 20 - 1 - 2 ^ 18; Serves (st unit) .sideband (writeReq 1 0x1100 3 (leBytes 4 v)) ∧
      (∀ b, b < 20 → bit unit.clk.enables b = true → bit v b = false → blockBusy unit b = false) ∧ bit unit.clk.enables 18 = true ∧ bit v 18 = false) ∧
    (let c := { unit with bel := { BelfrySt.reset with queues := [(5, { Queue.reset with state := 2 })] } }
     Serves (st c) .sideband (writeReq 1 0x1100 3 (leBytes 4 (2 ^ 20 - 2))) ∧
      ∃ b, b < 20 ∧ bit c.clk.enables b = true ∧ bit (2 ^ 20 - 2) b = false ∧ blockBusy c b = true) :=
  ⟨by decide, by decide, by decide, by decide, by decide, by decide, by decide, 0, by decide⟩

/-! Witnesses: Tocsin. -/

/-- The unit with source `n` in a state. -/
def src (n : Nat) (x : SrcSt) : Chip := setSrc unit n x

/-- The unit with an event raised. -/
def raisedOne (e : TocEvent) : Chip := { unit with toc := { unit.toc with raised := [e] } }

theorem witness_TocsinTakesEvents :
    (firstRaised (raisedOne ⟨8, 0, 2, 0⟩) 8 = some ⟨8, 0, 2, 0⟩ ∧ policyRuns (raisedOne ⟨8, 0, 2, 0⟩) = true ∧ (raisedOne ⟨8, 0, 2, 0⟩).boot.pwrgood = true) ∧
    (firstRaised unit 8 ≠ some ⟨8, 0, 2, 0⟩ ∧ outsideEvent 8 0 2 0 = false) ∧ (2 < 4 ∧ 8 < 32 ∧ obj unit 0x5100 8 = 0) ∧ (isMasked unit 8 = false ∧ isMasked (setObj unit 0x5008 5 1) 8 = true) ∧
    (let x := { SrcSt.reset with winOpen := true, winClose := 2000, winN := 3, count := 2 }
     isMasked unit 8 = false ∧ 2 < 3 ∧ x.level < 3 ∧ x.winOpen = true ∧ unit.clk.carillon < x.winClose ∧ x.winN ≤ x.count + 1) := by decide

theorem witness_TocsinTimersAndControls :
    (let c := src 9 { SrcSt.reset with level := 2, timerOn := true, timer := 1500 }
     (getSrc c 9).timerOn = true ∧ (getSrc c 9).timer ≤ max c.clk.carillon (1500 % 2 ^ 64) ∧ policyRuns c = true ∧ (getSrc c 9).level = 2) ∧
    (getSrc (src 9 { SrcSt.reset with level := 3 }) 9).level = 3 ∧ (getSrc (src 111 { SrcSt.reset with level := 3 }) 111).level = 3 ∧
    (let c := src 9 { SrcSt.reset with winOpen := true, winClose := 1500 }; (getSrc c 9).winOpen = true ∧ (getSrc c 9).winClose ≤ max c.clk.carillon (1500 % 2 ^ 64)) ∧
    (let c := src 9 { SrcSt.reset with level := 3 }
     Serves (st c) .sideband (writeReq 1 0x5009 2 (leBytes 1 1)) ∧ (getSrc c 9).level ≠ 4 ∧ Serves (st c) .sideband (writeReq 1 0x5009 2 (leBytes 1 2)) ∧
      Serves (st c) .sideband (writeReq 1 0x5009 5 (leBytes 1 0)) ∧ Serves (st c) .sideband (writeReq 1 0x5009 5 (leBytes 1 1)) ∧ 7 < 9 ∧ (getSrc c 9).level = 3) ∧
    (Serves (st unit) .sideband (writeReq 1 0x50BF 5 (leBytes 1 1)) ∧ (getSrc unit 191).level ≠ 2 ∧ (getSrc unit 191).level ≠ 3) ∧
    (let c := src 9 { SrcSt.reset with level := 4 }; Serves (st c) .sideband (writeReq 1 0x5009 2 (leBytes 1 1)) ∧ (getSrc c 9).level = 4) ∧
    (Serves (st unit) .sideband (writeReq 1 0x5007 5 (leBytes 1 1)) ∧ 7 ≤ 7) ∧ Serves (st unit) .sideband (writeReq 1 0x5100 4 (leBytes 1 1)) ∧
    (Serves (st unit) .sideband (writeReq 1 0x5100 4 (leBytes 1 2)) ∧ 2 % 256 ≠ 1) ∧ (policyRuns unit = true ∧ unit.toc.sampleNext ≤ max unit.clk.carillon (0 % 2 ^ 64)) := by decide

theorem witness_AckCompletesBelowFatalAndLeavesFences :
    (Serves (st unit) .sideband (writeReq 1 0x5000 2 (leBytes 1 1)) ∧ (getSrc unit 0).level ≠ 4) ∧
    (let c := src 0 { SrcSt.reset with level := 4 }; Serves (st c) .sideband (writeReq 1 0x5000 2 (leBytes 1 1)) ∧ (getSrc c 0).level = 4) := by decide

/-! Witnesses: the root of trust, firmware and measurement. -/

/-- A verification's signature request outstanding. -/
def asking : Chip := { unit with sec := { unit.sec with rot := some ⟨7, .verifySig, 1000⟩ } }

theorem witness_RootOfTrustAnswersInOrder :
    (asking.boot.mclkRuns = true ∧ 0 < 4 ∧ (zeros 1).length ≤ 4096 ∧ asking.sec.rot = some ⟨7, .verifySig, 1000⟩ ∧ (⟨7, .verifySig, 1000⟩ : RotReq).tag ≠ 6) ∧
    (1000 + 100000000 ≤ max asking.clk.carillon (100001000 % 2 ^ 64)) ∧ unit.sec.rot = none := by decide

/-- A stage request of a length. -/
def stageReq (len : Nat) : Bytes := leBytes 16 (pack [(4096, 8), (len, 4), (0, 4)])

/-- The unit with its firmware changed. -/
def fwIn (f : FwSt → FwSt) : Chip := modFw unit f

theorem witness_FirmwareIsStagedAndVerified :
    (fld (leNat (stageReq 6291456)) 0 8 % 4096 = 0 ∧ 1 ≤ fld (leNat (stageReq 6291456)) 8 4 ∧ fld (leNat (stageReq 6291456)) 8 4 ≤ 6291456 ∧ fld (leNat (stageReq 6291456)) 12 1 ≤ 1 ∧
      Serves (st unit) fromA (writeReq 1 0x6000 2 (stageReq 6291456)) ∧ tenantEnding unit = false ∧ unit.sec.fw.state ≠ 1 ∧ unit.sec.fw.state ≠ 2 ∧ unit.sec.fw.state ≠ 3 ∧
      unit.sec.fw.state ≠ 5 ∧ canIssue unit (portOf (fld (leNat (stageReq 6291456)) 12 1 == 1)) = true) ∧
    (let c := modTen unit fun t => { t with state := 3 }; Serves (st c) fromA (writeReq 1 0x6000 2 (stageReq 1)) ∧ tenantEnding c = true) ∧
    (let c := fwIn fun f => { f with state := 5 }; Serves (st c) fromA (writeReq 1 0x6000 2 (stageReq 1)) ∧ tenantEnding c = false ∧ c.sec.fw.state = 5) ∧
    (6291456 < fld (leNat (stageReq 6291457)) 8 4 ∧ Serves (st unit) fromA (writeReq 1 0x6000 2 (stageReq 6291457))) ∧
    (let c := fwIn fun f => { f with state := 1, stageLen := 4 }; c.sec.fw.state = 1 ∧ c.sec.fw.stageLen ≠ 0 ∧ (zeros 4).length = c.sec.fw.stageLen) ∧
    (Serves (st unit) .sideband (writeReq 1 0x6000 5 (leBytes 1 1)) ∧ unit.sec.fw.state = 0) ∧
    (let c := fwIn fun f => { f with state := 2 }; Serves (st c) .sideband (writeReq 1 0x6000 5 (leBytes 1 1)) ∧ c.sec.fw.state = 2 ∧ verifyPending c = false) ∧
    (let c := fwIn fun f => { f with state := 4 }; Serves (st c) .sideband (writeReq 1 0x6000 5 (leBytes 1 3)) ∧ c.sec.fw.state = 4) ∧
    (let c := fwIn fun f => { f with state := 3 }; Serves (st c) .sideband (writeReq 1 0x6000 5 (leBytes 1 3)) ∧ c.sec.fw.state = 3) ∧
    (Serves (st unit) .sideband (writeReq 1 0x6000 5 (leBytes 1 3)) ∧ unit.sec.fw.state ≠ 3 ∧ unit.sec.fw.state ≠ 4) := by decide +kernel

theorem witness_FirmwareIsStagedAndVerified_formed : bundleFormed [] = false ∧ bundleFormed bundle = true := by
  refine ⟨by decide, ?_⟩
  have h := bundle_verifies
  unfold verifyReason at h
  cases hb : bundleFormed bundle
  · rw [hb] at h; exact absurd h (by decide)
  · rfl

theorem witness_FirmwareIsStagedAndVerified_counter : bfld bundle 8 4 < (fwIn fun f => { f with counter := 1, sigOk := 1 }).sec.fw.counter := by decide +kernel

theorem witness_FirmwareIsActivated :
    (let c := fwIn fun f => { f with state := 3 }; Serves (st c) .sideband (writeReq 1 0x6000 5 (leBytes 1 2)) ∧ c.sec.fw.state = 3 ∧ c.mode ≠ .boot ∧ c.mode ≠ .doublet ∧ tenantEnding c = false) ∧
    (Serves (st unit) .sideband (writeReq 1 0x6000 5 (leBytes 1 2)) ∧ unit.sec.fw.state ≠ 3) ∧
    (let c := fwIn fun f => { f with state := 5 }; c.sec.fw.state = 5 ∧ c.sec.fw.window = false) ∧ (fwIn fun f => { f with window := true }).sec.fw.window = true ∧
    (let c := fwIn fun f => { f with raise := true, raiseAt := 1200 }
     c.sec.fw.raise = true ∧ c.sec.fw.raiseAt ≤ max c.clk.carillon (1200 % 2 ^ 64) ∧ rotPending c (fun b => b == .counterRaise) = false) := by decide

/-- A model measurement runs, range 0 a KIND 1 range of 16 bytes at DVA 0 of a Space. -/
def measuring (sp : Nat) : Chip := setObj (modMeas (spaceIn 5 1) fun m => { m with state := 1 }) 0x6008 1 (pack [(sp, 2), (1, 1), (0, 13), (16, 8)])

theorem witness_ModelIsMeasuredAndLogged :
    (Serves (st unit) .sideband (writeReq 1 0x6008 2 (leBytes 1 1)) ∧ unit.sec.meas.state ≠ 1) ∧
    (let c := modMeas unit fun m => { m with state := 1 }
     Serves (st c) .sideband (writeReq 1 0x6008 2 (leBytes 1 1)) ∧ c.sec.meas.state = 1 ∧ badRange c = none ∧ ([] : Bytes).length = kindBytes c 1 ∧ ([] : Bytes).length = kindBytes c 2) ∧
    (2 % 256 ≠ 1 ∧ Serves (st unit) .sideband (writeReq 1 0x6008 2 (leBytes 1 2))) ∧
    ((measuring 9).sec.meas.state = 1 ∧ badRange (measuring 9) = some 0) := by decide +kernel

/-! Witnesses: tenancy, SPDM and IDE. -/

/-- The unit with its tenancy in a state. -/
def ten (k : Nat) : Chip := modTen unit fun t => { t with state := k }

/-- Unit 1 in DOUBLET. -/
def follows : Chip := { lead with unit1 := true }

theorem witness_GatesOfThePeerGateway :
    let v := 2 ^ 20 - 1 - 2 ^ 7
    Serves (st unit) .sideband (writeReq 1 0x1100 3 (leBytes 4 v)) ∧ (∀ b, b < 20 → bit unit.clk.enables b = true → bit v b = false → blockBusy unit b = false) ∧
      (bit unit.clk.enables 18 = true → bit v 18 = true) ∧ bit unit.clk.enables 7 = true ∧ bit v 7 = false ∧ (bit unit.clk.enables 7 = true → bit (2 ^ 20 - 2) 7 = true) := by decide

theorem witness_TenancyAttachesEndsAndScrubs_lead :
    tenantLead unit = true ∧ tenantLead (ten 1) = true ∧ tenantLead (ten 0) = true ∧ tenantLead follows = false ∧ (ten 4).sec.ten.scrubLeft = [] ∧
      (∀ x, x ∈ (ten 4).xf.sds → ∀ n, x.2.owner ≠ .scrub n) := by
  refine ⟨by decide, by decide, by decide, by decide, by decide, fun x hx => ?_⟩
  have h : (ten 4).xf.sds = [] := by decide
  rw [h] at hx; cases hx

theorem witness_TenancyAttachesEndsAndScrubs :
    (Serves (st (ten 1)) fromA (writeReq 1 0x6020 2 (leBytes 1 1)) ∧ (ten 1).sec.ten.state = 1 ∧ serving (ten 1) = true ∧ (ten 1).mode ≠ .doublet ∧ (ten 1).sec.ten.attaching = false) ∧
    (Serves (st unit) fromA (writeReq 1 0x6020 2 (leBytes 1 1)) ∧ unit.sec.ten.state ≠ 1) ∧
    (Serves (st unit) fromA (writeReq 1 0x6020 2 (leBytes 1 2)) ∧ unit.sec.ten.state = 2 ∧ unit.mode ≠ .doublet) ∧
    (Serves (st (ten 0)) fromA (writeReq 1 0x6020 2 (leBytes 1 2)) ∧ (ten 0).sec.ten.state ≠ 2) ∧
    (Serves (st (ten 0)) fromA (writeReq 1 0x6020 2 (leBytes 1 3)) ∧ (ten 0).sec.ten.state = 0 ∧ (ten 0).mode ≠ .doublet) ∧
    (Serves (st unit) fromA (writeReq 1 0x6020 2 (leBytes 1 3)) ∧ unit.sec.ten.state ≠ 0) ∧
    (let c := modTen unit fun t => { t with state := 3, step := 2, endTick := 900 }
     c.sec.ten.state = 3 ∧ c.sec.ten.step = 2 ∧ c.sec.ten.endTick + obj c 0x6020 5 ≤ max c.clk.carillon (2 ^ 60 % 2 ^ 64)) ∧
    ((ten 4).sec.ten.state = 4 ∧ ∀ x, x ∈ (ten 4).xf.chans → x.2.strokes = []) := by decide +kernel

/-- Sessions and handshakes on Port A's DOE. -/
def withSession (n h : Nat) : Chip := setSessions unit (.doe .a) n h

theorem witness_SpdmRequestsAreAnswered :
    (let c := { unit with mode := .boot }; spdmReach c .sideband = true ∧ c.mode = .boot) ∧
    (let c := fwIn fun f => { f with window := true }; spdmReach c (.doe .a) = true ∧ c.mode ≠ .boot ∧ c.sec.fw.window = true) ∧
    (spdmReach unit (.doe .a) = true ∧ unit.mode ≠ .boot ∧ unit.sec.fw.window = false ∧ sessionsOf unit (.doe .a) + handshakesOf unit (.doe .a) < 2 ∧ handshakesOf unit (.doe .a) = 0
      ∧ sessionsOf unit (.doe .a) = 0) ∧
    (let c := withSession 1 1; spdmReach c (.doe .a) = true ∧ 2 ≤ sessionsOf c (.doe .a) + handshakesOf c (.doe .a) ∧ handshakesOf c (.doe .a) ≠ 0 ∧ sessionsOf c (.doe .a) < 2 ∧
      sessionsOf c (.doe .a) ≠ 0) ∧
    (8 ≤ 8 ∧ 8 < 9 ∧ 9 ≠ 0xFF) ∧ (fwIn fun f => { f with loader := true }).sec.fw.loader = true := by decide

/-- Stream 4 of Port A SECURE with key set 0 in use. -/
def secured : Chip :=
  { (withSession 1 0) with sec := { (withSession 1 0).sec with spdm := { (withSession 1 0).sec.spdm with streams := 16, keys := [(ideKey .a 4 false, 11)] } } }

theorem witness_IdeStreamsFollowTheirKeys :
    (spdmReach secured (.doe .a) = true ∧ secured.mode ≠ .boot ∧ secured.sec.fw.window = false ∧ sessionsOf secured (.doe .a) ≠ 0 ∧ tenantEnding secured = false ∧ 4 < 5 ∧ 5 ≤ 5) ∧
    (tget secured.sec.spdm.keys (ideKey .a 4 false) = some 11 ∧ tgetD secured.sec.spdm.keys (ideKey .a 4 (!false)) 0 % 2 = 0) ∧ tget secured.sec.spdm.keys (ideKey .a 4 true) = none ∧
    (spdmReach unit (.doe .a) = true ∧ sessionsOf unit (.doe .a) = 0) ∧ bit secured.sec.spdm.streams (5 * portNo .a + 4) = true := by decide

/-! Witnesses: Doublet. -/

/-- A unit in its first ROUGH with Join requested, its join at a step. -/
def join (one : Bool) (state step bridge : Nat) : Chip :=
  { firstJoin with unit1 := one, dbl := { DblSt.reset with state := state, joinStep := step, bridge := bridge, joinTick := 900, joinStart := 900 } }

/-- A split unit. -/
def split (kind : Nat) : Chip := { lead with mode := .split, dbl := { lead.dbl with state := 4, kind := kind } }

theorem witness_UnitsJoinAtTheJoinTick :
    (unit.dbl.bridge ≠ 2 ∧ unit.mode ≠ .boot ∧ bit unit.clk.enables 18 = true ∧ unit.dbl.state ≠ 1) ∧
    (let c := join false 1 1 0; c.dbl.bridge ≠ 2 ∧ c.mode ≠ .boot ∧ bit c.clk.enables 18 = true ∧ c.dbl.state = 1 ∧ c.dbl.joinStep = 1) ∧
    (let c := join true 0 0 2
     c.unit1 = true ∧ c.dbl.bridge = 2 ∧ joining c = false ∧ c.mode = .rough ∧ c.dbl.wasJoined = false ∧ joinReason c (stepping c) c.sec.fw.runVersion = 0 ∧ joinReason c (stepping c + 1) 0 ≠ 0) ∧
    (let c := join false 1 2 2; c.unit1 = false ∧ c.dbl.bridge = 2 ∧ c.dbl.state = 1 ∧ c.dbl.joinStep = 2) ∧
    (let c := join true 0 4 2; c.unit1 = true ∧ c.dbl.bridge = 2 ∧ c.dbl.joinStep = 4) ∧
    (let c := join false 1 6 2; c.mode = .rough ∧ c.rough.kind = 1 ∧ c.dbl.joinStep = 6 ∧ c.dbl.bridge = 2 ∧ c.dbl.joinTick ≤ max c.clk.carillon (0 % 2 ^ 64)) ∧
    (let c := join false 1 2 2; c.dbl.state = 1 ∧ c.dbl.joinStart + obj c 0x4900 3 ≤ max c.clk.carillon (2 ^ 60 % 2 ^ 64) ∧ c.dbl.bridge = 2) ∧
    (let c := join false 1 1 0; c.dbl.state = 1 ∧ c.dbl.joinStart + obj c 0x4900 3 ≤ max c.clk.carillon (2 ^ 60 % 2 ^ 64) ∧ c.dbl.bridge ≠ 2) := by decide

theorem witness_PairsFlushAndSplit :
    (lead.dbl.bridge = 2 ∧ lead.dbl.wasJoined = true ∧ joining lead = false ∧ lead.mode = .doublet ∧ lead.dbl.kaNext ≤ max lead.clk.carillon (0 % 2 ^ 64)) ∧
    (let c := { lead with dbl := { lead.dbl with flushing := true } }; c.dbl.flushing = true ∧ c.dbl.bridge = 2) ∧
    (let c := join false 1 2 2; c.dbl.bridge = 2 ∧ joining c = true) ∧
    ((split 1).dbl.bridge = 2 ∧ joining (split 1) = false ∧ (split 1).mode = .split ∧ (split 1).dbl.kind = 1 ∧ (split 1).dbl.drained = false ∧ (split 1).dbl.wasJoined = true ∧
      (split 1).mode ≠ .doublet) ∧
    (let c := { unit with dbl := { DblSt.reset with bridge := 2 } }; c.dbl.bridge = 2 ∧ joining c = false ∧ c.mode = .normal) := by decide

/-- A change of Space 0 that waits for unit 1, with the write it completes. -/
def waitS : MirrorWait := ⟨.space, 5, 3, some (fromA, writeReq 1 0x3005 3 [1])⟩

/-- Unit 0 with that change waiting. -/
def mirrored : Chip := modDbl lead fun d => { d with waits := [waitS] }

/-- The audit digest of a Space's entry as the audit finds it. -/
def auditAt (c : Chip) (n seq : Nat) : Bytes := auditDigest (modDbl c fun d => { d with partner := tset d.partner (mirrorKey .space n) (seq % 2 ^ 32) }) .space n

theorem witness_MirroredEntriesStayEqual :
    (follows.unit1 = true ∧ follows.dbl.bridge = 2 ∧ follows.mode = .doublet ∧ 1 < 1024 ∧ zeros 10 ≠ [] ∧ 9 ≤ ((zeros 10).drop 1).length ∧ bfld ((zeros 10).drop 1) 0 1 ≤ 4
      ∧ (zeros 5).length = 5) ∧
    (seqAhead 2 (seqOf follows (mirrorKey .space 5)) = 1 ∧ follows.dbl.remirror = [] ∧ 1 < seqAhead 3 (seqOf follows (mirrorKey .space 5)) ∧
      seqAhead 3 (seqOf follows (mirrorKey .space 5)) < 2 ^ 31 ∧ seqAhead 1 (seqOf follows (mirrorKey .space 5)) = 0 ∧ 2 ^ 31 ≤ seqAhead 0 (seqOf follows (mirrorKey .space 5))) ∧
    (leadsMirror mirrored = true ∧ mirrored.dbl.bridge = 2 ∧ (firstWait mirrored .space 5).isSome = true ∧ firstWait mirrored .space 5 = some waitS ∧
      waitS.req = some (fromA, writeReq 1 0x3005 3 [1])) ∧
    (let c := setObj lead 0x4900 5 1
     leadsMirror c = true ∧ c.dbl.bridge = 2 ∧ mirrorNum .space 1023 = true ∧ obj c 0x4900 5 ≠ 0 ∧ firstWait c .space 1023 = none ∧ (zeros 48).length = 48) ∧
    (1 % 2 ^ 32 = seqOf lead (mirrorKey .space 0) ∧ (getSpace lead 0).state = 2) := by decide

theorem witness_MirroredEntriesStayEqual_equal : auditAt lead 0 1 = auditDigest (modDbl lead fun d => { d with partner := tset d.partner (mirrorKey .space 0) (1 % 2 ^ 32) }) .space 0 := rfl

theorem witness_MirroredEntriesStayEqual_differs :
    ([] : Bytes) ≠ auditDigest (modDbl lead fun d => { d with partner := tset d.partner (mirrorKey .space 0) (1 % 2 ^ 32) }) .space 0 := by
  intro h
  have h2 := congrArg List.length h
  rw [auditDigest, sha384_length] at h2
  exact absurd h2 (by decide)

/-! Witnesses: every command completes somewhere. Each list names commands of one family whose conditions of completion a small state meets; together they name every
constructor of Instr. -/

/-- Do the conditions of completion of every command of a list hold? -/
def ready (c : Chip) (is : List Instr) : Bool := is.all fun i => completes c i

/-- A unit in BOOT whose pads are released and whose references do not run yet. -/
def booting : Chip := { waiting with boot := { waiting.boot with storeLoaded := false }, clk := { waiting.clk with firc := false } }

theorem completes_power_and_boot :
    (ready Chip.reset [.unitPwrgoodAssert] && ready unit [.unitReset .rstN] && ready { unit with boot := { unit.boot with rstN := false } } [.resetRelease]
      && ready booting [.sourceReady .firc, .sourceReady .xref0] && ready { unit with boot := { unit.boot with storeLoaded := false } } [.storeLoad [] []]
      && ready measuredBoot [.bootClockSwitch false 16800, .bootClockSwitch true 3800] && ready waiting [.xrefReadyTimeout true 10000005, .xrefReadyTimeout false 10000005]
      && ready unverified [.firmwareVerifyFailAtReset 1]) = true := by decide +kernel

theorem completes_firmware_release : completes verified .firmwareRelease = true := by
  show (bootVerified verified && verifyReason verified verified.sec.fw.running true == 0) = true
  rw [verified_running, bundle_verifies]; decide

theorem completes_modes :
    (ready first [.modeRequest .sideband 1 2] && ready { roughAfter with rough := { roughAfter.rough with settled := false } } [.roughSettled]
      && ready roughAfter [.roughExit .sideband 1 1]) = true := by decide +kernel

theorem completes_dictionary :
    (ready (mboxIn .idle) [.mboxGo .a, .protoErrClear .a] && ready (mboxIn .done) [.mboxAck .a]
      && ready unit [.registerWrite .a .bar0 0x1054 4 1, .read .sideband 1 0x1000 5 0, .write .sideband 1 0x1300 8 (leBytes 8 20), .describe .sideband 1 0x1000 5 0,
        .readSeg fromA 1 0x4000 3 16 0, .setEndpointId 8, .getEndpointId, .getMctpVersionSupport, .getMessageTypeSupport, .getVendorDefinedMessageSupport,
        .configCommit .sideband 1 1]
      && ready unitImg [.writeSeg fromA 1 0x4001 3 0 0 [7]] && ready (staged1 .h) [.domainStageTimeout .h 0x4001 3 100001000, .readViewTimeout .h 0x4001 3 100001000]
      && ready committing [.configCommitComplete true]) = true := by decide +kernel

theorem completes_sideband : completes unit (.sidebandMessage sbRead) = true := by
  have h : completes unit (.sidebandMessage sbRead) = (true && (bfld sbRead 0 2 == Config.pciVendorId.toNat) && true) := by rfl
  rw [h, witness_SidebandPresents_vendor]; simp

theorem completes_spaces :
    (ready unit [.spaceCreate fromA 1 1023] && ready (spaceIn 5 1) [.spaceGoLive fromA 1 5, .segmentDescriptorWrite fromA 1 5 15 fixedBytes]
      && ready (spaceIn 5 2) [.spaceInvalidate fromA 1 5, .spaceRetire fromA 1 5] && ready unit [.atsInvalidateRequest .b 31 none]
      && ready (bumping 2 (bumpIn .waiting .software .none)) [.bumpCounterFree 4, .drainAlertExpiry 4 (2 ^ 40)]
      && ready (bumping 2 (bumpIn .draining .software .none)) [.bumpDrainComplete 4] && ready (bumping 2 (bumpIn .flushing .software .none)) [.bumpFlushReadComplete 4]
      && ready faceted [.facetLoadBuild fromA 1 (loadReq 0), .facetLoadFill fromA 1 (loadReq 1)] && ready loading [.facetLoadComplete (.data (facetList 4))]) = true := by
  decide +kernel

theorem completes_cutters :
    (ready uncut [.cutJobGrant 0 5 0 0 .src []] && ready (cutting (job .dst .miss)) [.facetCacheMissReturn 3 9] && ready (cutting (job .src .list)) [.cutListRetry 3]
      && ready (cutting (job .src .ats)) [.atsTranslationCompletion 3 .failed] && ready waitingPage [.priPageResponse .a 4096 .success, .faultTimeoutExpiry 5 0 0 500]
      && ready (cutting (job .dst .done)) [.sideCutComplete 3] && ready (running (segK 1 3) (outNode (.absent 0 0))) [.nodeRecut 5 0 0]) = true := by decide +kernel

theorem completes_geode :
    (ready { geo 0 with geo := { (geo 0).geo with build := { MapBuild.reset with state := 1, space := 5, desc := tiered } } } [.mapBuildFillDone]
      && ready { geo 0 with geo := { (geo 0).geo with tokens := 0 } } [.promotionTokenAccrue] && ready queued [.promotionStart none]
      && ready (geo (ent 5 true false false false)) [.promotionCopyComplete 5 0 3] && ready (failed (ent 5 true false false false)) [.promotionCopyFail 5 0 3]
      && ready (sweeping 0 none) [.sweepVisit 0] && ready (geo (ent 0 true true true false)) [.writeBackComplete 5 0 3]
      && ready (failed (ent 0 true true true false)) [.writeBackFail 5 0 3]
      && ready (geo (ent 0 false true false false)) [.writeBackRequest fromA 1 (wbReq 5 0), .grainProbeRequest fromA 1 (probeReq 0 255)]
      && ready { geo 0 with geo := { (geo 0).geo with batches := [⟨0, [7], [5], 0, false⟩] } } [.quarantineTimeExpiry (2 ^ 62)]
      && ready (setObj (geo 0) 0x3500 0xD 1000) [.farDecayVisit] && ready { lead with geo := { GeodeSt.reset with tallies := [(5, 0, 3)] } } [.tallyForward none]
      && ready { geo 0 with geo := { (geo 0).geo with acks := [(5, 0, 3)] } } [.geodeStateAck 5 0 3 none]) = true := by decide +kernel

theorem completes_transfer :
    (ready unbound [.nodeBind 5 0 0] && ready onChannel [.strokeIssue 20] && ready (issued .reading 1 0 false 1 [rq0 false 3]) [.requestResponse 3 (.data (zeros 64))]
      && ready (issued .writing 0 0 false 1 []) [.strokeComplete 20 0 0] && ready (issued .reading 0 1 false 1 []) [.strokeErrorRetryable 20 0 0 1]
      && ready (issued .retry 0 1 false 3 []) [.strokeRetryReissue 20] && ready (issued .reading 0 7 false 1 []) [.strokeErrorFatal 20 0 0 7]
      && ready (issued .reading 0 1 false 4 []) [.channelResume fromA 1 20 1] && ready (running (segK 1 1) (paced 1)) [.paceAtTickMet 5 0 0 500]
      && ready (moving (boundNode moveBody2) (sd0 moveBody2 0 2 0) [.node 5 0 0] 2 [] []) [.pacePeriodDue 20 0]
      && ready (setObj (running (segK 1 1) (paced 3)) 0x3614 4 7) [.paceAfterChannelMet 5 0 0] && ready (marking true) [.markFire 5 0 0 true]
      && ready unit [.scaleBankWrite .b 0x40000 4 0] && ready (issued .reading 1 0 false 1 [rq0 false 7]) [.peerRequestTimeout 3 0]
      && ready readA [.completionTimeout 3 0]) = true := by decide +kernel

theorem completes_lapidary :
    (ready (newTab 0xFF 0) [.tableDefine fromA 1 255] && ready (setSpace (tab 1 0) 5 { Space.reset 5 with state := 2 }) [.tableUndefine fromA 1 9]
      && ready (tab 2 0) [.manifestPost fromA 1 (postRec 9 160)] && ready (withPools { tab 2 0 with lap := { (tab 2 0).lap with posts := [post9] } }) [.manifestApplyStart]
      && ready (withPools (applying 1 0 [] [] [] 0)) [.manifestHeaderArrive (.data (header 0x4D50414C))] && ready (applying 2 0 [] [] [(0, 3, 0)] 0) [.grainOpen 0 3]
      && ready rowStaged [.rowPullComplete 6144 (.data (zeros 64)) 0] && ready (pulled (zeros 48)) [.manifestApplied] && ready (applying 3 0 [] [open3] [] 0) [.commitStart 0]
      && ready (sweepingLeft [open3]) [.commitSweepStep] && ready { tab 2 0 with lap := { (tab 2 0).lap with holding := true } } [.publishAck]
      && ready (releasing [open3]) [.releaseSweepStep 9, .refreshStallAlert 9 (2 ^ 62)] && ready (applying 3 0 [] [] [] 0) [.lapidaryAbortRequest fromA 1 9]) = true := by
  decide +kernel

theorem completes_queues :
    (ready (queued5 5 (qIn 1)) [.doorbellWrite .a 5 4 9, .queueDestroy fromA 1 5] && ready (inLane (queued5 7 (qIn 1)) 7 64) [.producerValueTake 3]
      && ready (queued5 5 (qIn 2)) [.ringFetchIssue] && ready reading1 [.ringReadComplete 5 (.data (zeros 64))] && ready (flushed ⟨[(5, 0)], []⟩) [.completionFlushReadComplete 5 0]
      && ready (queued5 4095 Queue.reset) [.queueCreate fromA 1 4095] && ready (queued5 5 (qIn 3)) [.queueResume fromA 1 5] && ready lost5 [.queueReattach fromA 1 5]
      && ready (launched 0 .none 0xFF) [.watchdogExpiry 0 0 50]) = true := by decide +kernel

theorem completes_patterns :
    (ready unit [.patternRegister fromA 1 1023] && ready (patIn 7 1 0 (image1 0)) [.patternCheckComplete 7] && ready (patIn 7 2 1 []) [.patternRetire fromA 1 7]
      && ready (patIn 7 3 0 []) [.patternClear fromA 1 7] && ready (queued5 5 { qIn 2 with await := [(0, lentry 0 0 0 0)] }) [.admissionStart 1]
      && ready (admitting (lentry 8 1 0 0)) [.admissionReadsArrive 5 0 (.data (zeros 8)) (.data (zeros 8))]
      && ready (let c := setSlot (inSlot .joining [(5, 0)]) 0 { Slot.reset with joins := [(5, 0)] }
          setLaunch c { bare 5 .joining 0xFF with early := true, admitted := 10 ^ 9 }) [.joinBetweenBoundaries 0]
      && ready (inSlot .resident []) [.stepBoundary 0 (10 ^ 12), .switchPointBoundExpiry 0 0] && ready (inSlot .saving []) [.saveComplete 5 0]
      && ready (inSlot .restoring []) [.restoreComplete 5 0]) = true := by decide +kernel

theorem completes_runs_and_bootstrap :
    (ready (waitNode 7 5000) [.waitTickReached 5 0 0 5000] && ready fencing [.fenceNodeComplete 5 0 0] && ready (again (2 ^ 128 - 1)) [.runDispatch 0]
      && ready (coreRuns false) [.runResult 7 15 0x10000] && ready (again (2 ^ 128 - 2 ^ 16)) [.redispatchWaitExpiry 5 0 0 0] && ready (coreRuns true) [.abortWaitExpiry 7 15 5]
      && ready (bootQ (bootV 1 0 0 4096 64 0)) [.bootstrapCopy] && ready (bootQ (bootV 2 1 0 0 64 0)) [.bootstrapFill] && ready (bootQ (bootV 3 0 64 0 0 0)) [.bootstrapDescriptor]
      && ready (bootQ (bootV 4 0 64 0 0 0)) [.bootstrapRun] && ready (bootQ (bootV 5 0 900 0 0 0)) [.bootstrapWait] && ready (bootQ (bootV 6 0 0 64 4096 0)) [.bootstrapDigest]
      && ready (bootRuns 6 (bootV 6 0 0 64 2 0)) [.bootstrapDigestComplete] && ready (bootRuns 3 (bootV 3 0 64 0 0 0)) [.bootstrapReadComplete (.data (zeros 128))]) = true := by
  decide +kernel

theorem completes_peers_and_windows :
    (ready (window 0 (winRec 1 0)) [.inboundPacket 77 4095 1 .read []] && ready (tracked true) [.inboundResponse 4 .ack] && ready (window (winRec 1 0) 0) [.peerWindowCommit fromA 1 1]
      && ready (coherent 63 0) [.windowEnable fromA 1 63] && ready (coherent 0 1) [.windowDisable fromA 1 0, .snoop .a (2 ^ 64 - 1) true]
      && ready (withLine { Line.reset with reading := true }) [.lineReadComplete .a 64 (zeros 64)] && ready (coherent 0 2) [.windowResume .a]) = true := by decide +kernel

theorem completes_doublet :
    (ready unit [.bridgeUp] && ready (join true 0 0 2) [.joinMessage 0x11 0] && ready (join false 1 2 2) [.joinReady 0 0, .joinTimeout (2 ^ 60)] && ready (join false 1 6 2) [.joinTick 0]
      && ready lead [.bridgeFlush, .keepalive 0, .bridgeLossTimeout 0, .partnerFatal] && ready { lead with dbl := { lead.dbl with flushing := true } } [.flushDone]
      && ready (split 1) [.partnerDrained] && ready lead [.forwardedWrite none 1 0x3001 2 (leBytes 1 1)] && ready follows [.mirrorUpdate .package 0 1 (zeros 5)]
      && ready mirrored [.mirrorAck .space 5] && ready (setObj lead 0x4900 5 1) [.mirrorAudit .space 1023 1 (zeros 48)]) = true := by decide +kernel

theorem completes_ports :
    (ready unit [.perstAssert .a, .hotReset .a, .linkDown .a, .lossOfLightTimeout .a 40000, .linkRecovery .a, .initiateFlr .a, .bmeClear .a, .d3hotEntry .a,
        .configWrite .a .command 6, .portAttach (.mbox .a) 1 .a, .portDetach fromA 1 .b, .opticalPoll .a 0 0 0 0 1000000, .opticalEngineFault .a 1 0, .carillonNowLowRead .a,
        .carillonNowHighRead .a, .intxMgmtClear .a, .linkError .a .correctable]
      && ready Chip.reset [.perstDeassert .a] && ready downA [.linkUp .a 128 16] && ready (romOn []) [.romRead .a 0x200000 4]
      && ready (pa fun x => { x with cfg := { x.cfg with aspm := 3 } }) [.l0pEntry .a (2 ^ 40), .l1Entry .a (2 ^ 40)]
      && ready (pa fun x => { x with link := 4 }) [.linkPowerExit .a]) = true := by decide +kernel

theorem completes_clocks :
    (ready (ptmOn (timed 1 id)) [.ptmRequest 0] && ready (ptmOn (timed 1 fun d => { d with ptmOut := true, ptmSent := 900 })) [.ptmResponse 0 100900, .ptmResponseTimeout 100901]
      && ready (timed 3 id) [.ppsEdge 0] && ready first [.timeStep .sideband 1 7, .align .sideband 1 1] && ready (timed 1 fun d => { d with state := 1 }) [.holdoverEntryExpiry (2 ^ 60)]
      && ready unit [.monitorWindowEnd 0 3799, .domainSourceWrite .sideband 1 1 1, .meterRequest .sideband 1 (meterReq 4096), .clockEnableSet .sideband 1 (2 ^ 20 - 1),
        .clockEnableClear .sideband 1 (2 ^ 20 - 2)]
      && ready (plls [2, 2, 0, 2]) [.pllStart .sideband 1 2] && ready { unit with clk := { unit.clk with sel := 2 ^ 10 } } [.pllStop .sideband 1 2]
      && ready (plls [2, 2, 1, 2]) [.pllLockTimeout 2 1000000] && ready { unit with clk := { unit.clk with mux := unit.clk.mux.set 0 1 } } [.muxSwitchDone 1]
      && ready metering [.meterWindowEnd 4096, .meterStall]) = true := by decide +kernel

theorem completes_tocsin :
    (ready (raisedOne ⟨8, 0, 2, 0⟩) [.tocsinEvent 8 0 2 0] && ready (src 9 { SrcSt.reset with level := 2, timerOn := true, timer := 1500 }) [.graceTimerExpiry 9 1500]
      && ready (src 9 { SrcSt.reset with winOpen := true, winClose := 1500 }) [.tocsinWindowClose 9 1500]
      && ready unit [.sourceAck .sideband 1 191, .clearSticky .sideband 1 191, .clearAllSticky .sideband 1 1, .maskWrite .sideband 1 191 1, .telemetrySample (-5) 70 0]) = true := by
  decide +kernel

theorem completes_security :
    (ready asking [.rotResponse 7 0 [], .rotTimeout 100001000] && ready unit [.stageRequest fromA 1 (stageReq 6291456), .firmwareVerify .sideband 1, .modelMeasureRequest .sideband 1 1]
      && ready (fwIn fun f => { f with state := 1, stageLen := 4 }) [.stageWriteComplete (.data (zeros 4))] && ready (fwIn fun f => { f with state := 2 }) [.verifyComplete true]
      && ready (fwIn fun f => { f with state := 3 }) [.firmwareActivate .sideband 1, .firmwareDiscard .sideband 1] && ready (fwIn fun f => { f with state := 5 }) [.activationLoadChecked true]
      && ready (fwIn fun f => { f with window := true }) [.activationWindowClose] && ready (fwIn fun f => { f with raise := true, raiseAt := 1200 }) [.counterRaiseRetry 1200]
      && ready (measuring 9) [.modelMeasureComplete (.badRange 0)] && ready (ten 1) [.tenancyAttach fromA 1] && ready unit [.tenancyEnd fromA 1] && ready (ten 0) [.tenancyScrub fromA 1]
      && ready (modTen unit fun t => { t with state := 3, step := 2, endTick := 900 }) [.drainLimitExpiry (2 ^ 60)] && ready (ten 4) [.scrubComplete]) = true := by decide +kernel

theorem completes_spdm :
    (ready unit [.getVersion .sideband, .getCapabilities .sideband, .negotiateAlgorithms .sideband, .getDigests .sideband, .getCertificate .sideband 0 0 16, .challenge .sideband 0,
        .getMeasurements .sideband 8, .keyExchange .sideband]
      && ready (withSession 1 1) [.finish (.doe .a), .endSession (.doe .a), .spdmHeartbeat (.doe .a), .keyUpdate (.doe .a)]
      && ready secured [.ideQuery .a, .keyProg .a 4 true 7, .kSetGo .a 4 false, .kSetStop .a 4 false, .ideCheckFailure .a 4]) = true := by decide +kernel

end Sys2Proof.Tests
end

section
/-! What a host read finds (R17, R121, R181, R307, R319). -/

namespace Sys2Proof.Machine

/-! Packed records as bytes. -/

/-- The bytes of a record: those of its first field, then those of the rest. -/
theorem leBytes_cons_field (a b v w : Nat) : leBytes (a + b) (v % 256 ^ a + 256 ^ a * w) = leBytes a v ++ leBytes b w := by
  induction a generalizing v with
  | zero => simp [leBytes, Nat.mod_one]
  | succ a ih =>
    have hlow : (v % 256 ^ (a + 1) + 256 ^ (a + 1) * w) % 256 = v % 256 := by
      rw [Nat.pow_succ, Nat.mul_comm (256 ^ a), Nat.mod_mul, Nat.mul_assoc]
      omega
    have hhigh : (v % 256 ^ (a + 1) + 256 ^ (a + 1) * w) / 256 = v / 256 % 256 ^ a + 256 ^ a * w := by
      rw [Nat.pow_succ, Nat.mul_comm (256 ^ a), Nat.mod_mul, Nat.mul_assoc]
      omega
    have hbyte : BitVec.ofNat 8 (v % 256 ^ (a + 1) + 256 ^ (a + 1) * w) = BitVec.ofNat 8 v := BitVec.eq_of_toNat_eq (by simpa using hlow)
    rw [Nat.add_right_comm, leBytes, leBytes, hbyte, hhigh, ih, List.cons_append]

/-- The bytes of a packed record are its fields' bytes, one field after another. -/
theorem leBytes_pack (fs : List (Nat × Nat)) : leBytes (fs.map (·.2)).sum (pack fs) = fs.flatMap fun f => leBytes f.2 f.1 := by
  induction fs with
  | nil => rfl
  | cons f fs ih => simp only [List.map_cons, List.sum_cons, pack, leBytes_cons_field, ih, List.flatMap_cons]

/-- A read of a whole value gives all its bytes. -/
@[simp] theorem readPart_zero (v n : Nat) : readPart v 0 n = leBytes n v := by simp [readPart]

/-! The fields of UNIT_STATUS (R17). -/

theorem b2n_le_one (b : Bool) : b2n b ≤ 1 := by cases b <;> decide

theorem bit_eq_of_b2n {v i : Nat} {b : Bool} (h : v / 2 ^ i % 2 = b2n b) : bit v i = b := by
  cases b <;> simp [bit, h, b2n]

theorem modeCode_le_four (m : Mode) : modeCode m ≤ 4 := by cases m <;> decide

/-- UNIT_STATUS as the sum of its fields. -/
theorem unitStatus_eq (c : Chip) : unitStatus c = modeCode c.mode + 16 * b2n c.unit1 + 256 * b2n (getPort c .a).attached + 512 * b2n (getPort c .b).attached
    + 1024 * b2n (tocsinPending c) + 2048 * b2n (c.clk.disc.state == 3) := by
  have hm := modeCode_le_four c.mode
  have hu := b2n_le_one c.unit1
  have ha := b2n_le_one (getPort c .a).attached
  have hb := b2n_le_one (getPort c .b).attached
  have ht := b2n_le_one (tocsinPending c)
  have hd := b2n_le_one (c.clk.disc.state == 3)
  simp only [unitStatus, packBits, unitNo, getPort, two] at *
  omega

theorem unitStatus_fields (c : Chip) : unitStatus c % 8 = modeCode c.mode ∧ unitStatus c / 8 % 2 = 0 ∧ bit (unitStatus c) 4 = c.unit1
    ∧ unitStatus c / 32 % 8 = 0 ∧ bit (unitStatus c) 8 = (getPort c .a).attached ∧ bit (unitStatus c) 9 = (getPort c .b).attached
    ∧ bit (unitStatus c) 10 = tocsinPending c ∧ bit (unitStatus c) 11 = (c.clk.disc.state == 3) ∧ unitStatus c < 4096 := by
  have he := unitStatus_eq c
  have hm := modeCode_le_four c.mode
  have hu := b2n_le_one c.unit1
  have ha := b2n_le_one (getPort c .a).attached
  have hb := b2n_le_one (getPort c .b).attached
  have ht := b2n_le_one (tocsinPending c)
  have hd := b2n_le_one (c.clk.disc.state == 3)
  refine ⟨?_, ?_, bit_eq_of_b2n ?_, ?_, bit_eq_of_b2n ?_, bit_eq_of_b2n ?_, bit_eq_of_b2n ?_, bit_eq_of_b2n ?_, ?_⟩ <;> omega

/-! Reads of a port that decodes requests. -/

/-- A read that the port does not decode is UR (R307, R319). -/
theorem hostReads_undecoded {c : Chip} {p : HPort} (h : hostDecodes c p = false) (b : Bar) (off size : Nat) (bad : Bool) :
    hostReads c p b off size bad = urRead c p := by simp [hostReads, h]

/-- A read that finds data is answered with it. -/
theorem hostReads_ok {c : Chip} {p : HPort} {b : Bar} {off size : Nat} {bad : Bool} {bs : Bytes} (h : hostDecodes c p = true)
    (hr : regRead c p b off size bad = .ok bs) : hostReads c p b off size bad = complete c p 0 bs := by simp [hostReads, h, hr]

/-- A read that no register takes is UR. -/
theorem hostReads_ur {c : Chip} {p : HPort} {b : Bar} {off size : Nat} {bad : Bool} (h : hostDecodes c p = true)
    (hr : regRead c p b off size bad = .ur) : hostReads c p b off size bad = urRead c p := by simp [hostReads, h, hr]

theorem bar0Read_unitStatus (c : Chip) (p : HPort) (bad : Bool) : bar0Read c p 0x1000 4 bad = .ok (leBytes 4 (unitStatus c)) := by
  simp [bar0Read, sizeOk]

/-! The queue pages of BAR2 (R181). -/

/-- An offset of BAR2 lies in the page of its queue. -/
theorem regRead_bar2 (c : Chip) (p : HPort) {q o : Nat} (size : Nat) (bad : Bool) (ho : o < 4096) :
    regRead c p .bar2 (q * 4096 + o) size bad = pageRead c p q o size := by
  have hq : (q * 4096 + o) / 4096 = q := by omega
  have hr : (q * 4096 + o) % 4096 = o := by omega
  simp [regRead, hq, hr]

/-- The first offset of a page is DOORBELL's. -/
theorem regRead_bar2_doorbell (c : Chip) (p : HPort) (q size : Nat) (bad : Bool) : regRead c p .bar2 (q * 4096) size bad = pageRead c p q 0 size := by
  simpa using regRead_bar2 c p (q := q) size bad (o := 0) (by decide)

/-- QSTATUS, byte by byte (R181). -/
theorem leBytes_qStatus (x : Queue) :
    leBytes 8 (qStatus x) = leBytes 1 x.state ++ leBytes 1 x.cause ++ leBytes 1 (inFlight x) ++ zeros 1 ++ leBytes 4 x.f := by
  rw [show zeros 1 = leBytes 1 0 from rfl]
  simpa [qStatus] using leBytes_pack [(x.state, 1), (x.cause, 1), (inFlight x, 1), (0, 1), (x.f, 4)]

/-- MARKS, byte by byte (R121). -/
theorem leBytes_qMarks (x : Queue) : leBytes 4 (qMarks x) = leBytes 2 x.half ++ leBytes 2 x.full := by
  simpa [qMarks] using leBytes_pack [(x.half, 2), (x.full, 2)]

/-- A page that is not live reads as zero (R181). -/
theorem pageRead_dead {c : Chip} {p : HPort} {q o size : Nat} (he : enabled c 0 = true) (hs : sizeOk o size = true) (hl : pageLive c p q = false) :
    pageRead c p q o size = .ok (zeros size) := by simp [pageRead, he, hs, hl]

section LivePage
variable {c : Chip} {p : HPort} {q : Nat} (he : enabled c 0 = true) (hl : pageLive c p q = true) (ho : pageOpen c q = true)
include he hl ho

theorem pageRead_completed : pageRead c p q 0x40 8 = .ok (leBytes 8 (getQueue c q).shown) := by simp [pageRead, sizeOk, he, hl, ho]

theorem pageRead_qStatus : pageRead c p q 0x48 8 = .ok (leBytes 1 (getQueue c q).state ++ leBytes 1 (getQueue c q).cause
    ++ leBytes 1 (inFlight (getQueue c q)) ++ zeros 1 ++ leBytes 4 (getQueue c q).f) := by
  rw [← leBytes_qStatus]
  simp [pageRead, sizeOk, he, hl, ho]

theorem pageRead_marks : pageRead c p q 0x50 4 = .ok (leBytes 2 (getQueue c q).half ++ leBytes 2 (getQueue c q).full) := by
  rw [← leBytes_qMarks]
  simp [pageRead, sizeOk, he, hl, ho]

theorem pageRead_doorbell : pageRead c p q 0 4 = .ok (zeros 4) := by simp [pageRead, sizeOk, he, hl, ho]

theorem pageRead_doorbell_wide : pageRead c p q 0 8 = .ur := by simp [pageRead, sizeOk, he, hl, ho]

end LivePage

/-- Settles O59: the two windows' reads, register by register. -/
theorem hostReadsFindTheirRegisters : Obligations.HostReadsFindTheirRegisters := by
  unfold Obligations.HostReadsFindTheirRegisters
  refine ⟨fun c p bad hd => hostReads_ok hd (bar0Read_unitStatus c p bad), fun c p b off size bad hd => hostReads_undecoded hd b off size bad,
    unitStatus_fields, fun c p q o size bad hd he ho hs hl => ?_, fun c p q bad hd he hl ho => ⟨?_, ?_, ?_, ?_, ?_⟩⟩
  · exact hostReads_ok hd ((regRead_bar2 c p size bad ho).trans (pageRead_dead he hs hl))
  · exact hostReads_ok hd ((regRead_bar2 c p 8 bad (by decide)).trans (pageRead_completed he hl ho))
  · exact hostReads_ok hd ((regRead_bar2 c p 8 bad (by decide)).trans (pageRead_qStatus he hl ho))
  · exact hostReads_ok hd ((regRead_bar2 c p 4 bad (by decide)).trans (pageRead_marks he hl ho))
  · exact hostReads_ok hd ((regRead_bar2_doorbell c p q 4 bad).trans (pageRead_doorbell he hl ho))
  · exact hostReads_ur hd ((regRead_bar2_doorbell c p q 8 bad).trans (pageRead_doorbell_wide he hl ho))

end Sys2Proof.Machine
end

section
/-! The modes (R14, R15, R279, R362, R365, R374). -/

namespace Sys2Proof.Machine

/-! How a command that becomes something answers, and what a request leaves. -/

theorem Becomes.answers {i : Instr} {s : State} {c : Chip} {post : State → Prop} (h : Becomes i s c) (hp : post (put s c)) : Answers i s post :=
  ⟨put s c, h, rfl, hp⟩

@[simp] theorem settle_toc (c : Chip) : (settle c).toc = { c.toc with sbAlertN := !sbAlertWanted c } := by simp [settle, settleAlert]

@[simp] theorem put_toc (s : State) (c : Chip) : (put s c).toc = { c.toc with sbAlertN := !sbAlertWanted c } := settle_toc c

theorem getSrc_of_toc {c d : Chip} (h : c.toc = d.toc) (n : Nat) : getSrc c n = getSrc d n := by rw [getSrc, h, getSrc]

@[simp] theorem getSrc_settle (c : Chip) (n : Nat) : getSrc (settle c) n = getSrc c n := by simp [getSrc]

/-- A set bit reads as set. -/
@[simp] theorem bit_setBit_self (v i : Nat) : bit (setBit v i true) i = true := by
  have hsum : setBit v i true = v % 2 ^ i + 2 ^ i * (v / 2 ^ i - v / 2 ^ i % 2 + 1) := by
    have hv := Nat.mod_add_div v (2 ^ i)
    have hle : 2 ^ i * (v / 2 ^ i % 2) ≤ 2 ^ i * (v / 2 ^ i) := Nat.mul_le_mul_left _ (Nat.mod_le _ _)
    simp only [setBit, setBits, bits, b2n, if_true, Nat.pow_one, Nat.one_mod, Nat.mul_one, Nat.mul_add, Nat.mul_sub, Nat.mul_comm _ (2 ^ i)]
    omega
  have hlow : v % 2 ^ i / 2 ^ i = 0 := Nat.div_eq_of_lt (Nat.mod_lt _ (Nat.two_pow_pos i))
  rw [bit, beq_iff_eq, hsum, Nat.add_mul_div_left _ _ (Nat.two_pow_pos i), hlow]
  omega

/-- The Peer Gateway presents posts of manifests only (R264). -/
theorem index_of_waiting_peer {c : Chip} {x : Src × Req × Nat} (hx : x ∈ waitingReqs c) (hp : x.1 = .peer) : x.2.1.index = 0x3800 := by
  simp only [waitingReqs, List.mem_append, List.mem_flatMap, List.mem_map] at hx
  rcases hx with (⟨p, -, ⟨y, -, rfl⟩ | ⟨y, -, rfl⟩⟩ | ⟨y, -, rfl⟩) | ⟨y, -, rfl⟩
  · cases hp
  · cases hp
  · cases hp
  · rfl

theorem ne_peer_of_presents {c : Chip} {src : Src} {rq : Req} (h : presents c src rq = true) (hi : rq.index ≠ 0x3800) : src ≠ .peer := by
  rintro rfl
  have hnone : presentedAt c .peer rq = none := by
    unfold presentedAt
    split
    next x hx =>
      have hb := List.find?_some hx
      simp only [Bool.and_eq_true, beq_iff_eq] at hb
      exact absurd (hb.2 ▸ index_of_waiting_peer (List.mem_of_find?_eq_some hx) hb.1) hi
    next => rfl
  simp [presents, hnone] at h

theorem ne_peer_of_serves {s : State} {src : Src} {tag i sub : Nat} {payload : Bytes} (h : Serves s src (writeReq tag i sub payload))
    (hi : i ≠ 0x3800) : src ≠ .peer := ne_peer_of_presents h.1.1 hi

section Respond
variable (c : Chip) (src : Src) (rq : Req) (st total : Nat) (p : Bytes)

/-! `respond` writes dict and out; the answer to a post writes peer and objs too. -/

@[simp] theorem respond_mode : (respond c src rq st total p).mode = c.mode := by obtain ⟨_, _, _, _, h, -⟩ := respond_spec c src rq st total p; rw [h]
@[simp] theorem respond_rough : (respond c src rq st total p).rough = c.rough := by obtain ⟨_, _, _, _, h, -⟩ := respond_spec c src rq st total p; rw [h]
@[simp] theorem respond_toc : (respond c src rq st total p).toc = c.toc := by obtain ⟨_, _, _, _, h, -⟩ := respond_spec c src rq st total p; rw [h]
@[simp] theorem respond_sp : (respond c src rq st total p).sp = c.sp := by obtain ⟨_, _, _, _, h, -⟩ := respond_spec c src rq st total p; rw [h]
@[simp] theorem respond_bel : (respond c src rq st total p).bel = c.bel := by obtain ⟨_, _, _, _, h, -⟩ := respond_spec c src rq st total p; rw [h]
@[simp] theorem respond_pat : (respond c src rq st total p).pat = c.pat := by obtain ⟨_, _, _, _, h, -⟩ := respond_spec c src rq st total p; rw [h]
@[simp] theorem respond_dbl : (respond c src rq st total p).dbl = c.dbl := by obtain ⟨_, _, _, _, h, -⟩ := respond_spec c src rq st total p; rw [h]
@[simp] theorem respond_clk : (respond c src rq st total p).clk = c.clk := by obtain ⟨_, _, _, _, h, -⟩ := respond_spec c src rq st total p; rw [h]

/-- A response to any presenter but the Peer Gateway changes the dictionary service and what was sent, and nothing else. -/
theorem respond_frame {src : Src} (hs : src ≠ .peer) : ∃ d o, respond c src rq st total p = { c with dict := d, out := o } := by
  obtain ⟨d, o, pe, ob, he, -, -, -, -, hk⟩ := respond_spec c src rq st total p
  obtain ⟨rfl, rfl⟩ := hk hs
  exact ⟨d, o, he⟩

theorem respond_objs {src : Src} (hs : src ≠ .peer) : (respond c src rq st total p).objs = c.objs := by
  obtain ⟨_, _, h⟩ := respond_frame c rq st total p hs
  rw [h]

/-- What a command posts by its response is the last response. -/
theorem posted_respond (s : State) (src : Src) : Posted (put s (respond c src rq st 0 [])) rq st [] := by
  obtain ⟨_, _, _, _, h, hl, -⟩ := respond_spec c src rq st 0 []
  rw [Posted, put_dict, h]
  simpa using hl

end Respond

/-! The mode request (R15, R279). -/

section ModeRequest
variable {s : State} {src : Src} {tag v : Nat}

/-- A served mode request is judged by its handler and answered. -/
theorem becomes_modeRequest (h : Serves s src (writeReq tag 0x1100 2 (leBytes 1 v))) :
    Becomes (.modeRequest src tag v) s
      (respond (modeRequest (v % 256) s.toChip).2 src (writeReq tag 0x1100 2 (leBytes 1 v)) (modeRequest (v % 256) s.toChip).1 0 []) := by
  obtain ⟨⟨hp, hc⟩, hf⟩ := h
  show event _ _ _ _ = _
  rw [event_due hp, serve_handled hc hf, finishWrite_plain rfl]

/-- A mode request that its handler turns away is answered with the status, and that is all. -/
theorem modeRequest_turnedAway {st : Nat} (h : Serves s src (writeReq tag 0x1100 2 (leBytes 1 v))) (hm : modeRequest (v % 256) s.toChip = (st, s.toChip)) :
    Answers (.modeRequest src tag v) s fun t => OnlyAnswered s t ∧ Posted t (writeReq tag 0x1100 2 (leBytes 1 v)) st [] := by
  have hb := becomes_modeRequest h
  rw [hm] at hb
  obtain ⟨d, o, he⟩ := respond_frame s.toChip (writeReq tag 0x1100 2 (leBytes 1 v)) st 0 [] (ne_peer_of_serves h (by decide))
  exact hb.answers ⟨⟨d, o, congrArg (put s) he⟩, posted_respond _ _ _ _ _⟩

end ModeRequest

theorem modeRequest_range {v : Nat} (hv : v ≠ 2) (c : Chip) : modeRequest v c = (5, c) := by simp [modeRequest, hv]

theorem firstRough_iff (c : Chip) : firstRough c = true ↔ c.mode = .rough ∧ c.rough.kind = 1 := by simp [firstRough]

theorem modeRequest_late {c : Chip} (h : ¬ (c.mode = .rough ∧ c.rough.kind = 1)) : modeRequest 2 c = (7, c) := by
  have hf : firstRough c = false := Bool.eq_false_iff.mpr fun hf => h ((firstRough_iff c).mp hf)
  simp [modeRequest, hf]

theorem modeRequest_alone {c : Chip} (hf : firstRough c = true) (hj : joinRequest c = false) (hs : c.dbl.state ≠ 1) :
    modeRequest 2 c = (0, goNormal c) := by simp [modeRequest, hf, hj, hs]

theorem modeRequest_join {c : Chip} (hf : firstRough c = true) (hj : joinRequest c = true) (hu : c.unit1 = false) (hs : c.dbl.state ≠ 1) :
    modeRequest 2 c = (0, startJoin c) := by simp [modeRequest, hf, hj, hu, hs]

/-- With no join running, NORMAL ends the Rough entry and an armed Align, and nothing else. -/
theorem goNormal_alone {c : Chip} (h : joining c = false) :
    goNormal c = modDisc { c with mode := .normal, rough := { c.rough with kind := 0 } } fun d => { d with align := false } := by simp [goNormal, h]

/-- The bridge coming up moves the join a step at most; its port's clock is enabled. -/
theorem bridgeTrained_spec (c : Chip) : ∃ d o, bridgeTrained c = { c with dbl := d, out := o, clk := { c.clk with enables := setBit c.clk.enables 18 true } }
    ∧ d.state = c.dbl.state ∧ d.joinStart = c.dbl.joinStart := by
  unfold bridgeTrained
  dsimp only
  split
  · exact ⟨_, _, rfl, rfl, rfl⟩
  · exact ⟨_, _, rfl, rfl, rfl⟩

/-- The join begins now: Join status JOINING and bit 18 of the clock enables, and nothing outside the Doublet's state and what was sent. -/
theorem startJoin_spec (c : Chip) : ∃ d o m, startJoin c = { c with dbl := d, out := o, clk := { c.clk with enables := setBit m 18 true } }
    ∧ d.state = 1 ∧ d.joinStart = c.clk.carillon := by
  unfold startJoin
  dsimp only
  split
  · obtain ⟨d, o, he, hs, hj⟩ := bridgeTrained_spec (modClk (modDbl c fun d => { d with
      state := 1, reason := 0, joinStep := 1, joinStart := now c, tick := now c, bridge := if linkedUp c then 2 else 1 }) fun k => { k with
        enables := setBit k.enables 18 true })
    exact ⟨d, o, _, he, hs, hj⟩
  · exact ⟨_, _, _, rfl, rfl, rfl⟩

/-- The mode request in the first Rough entry takes the unit to NORMAL (R15). -/
theorem modeRequest_toNormal {s : State} {src : Src} {tag : Nat} (h : Serves s src (writeReq tag 0x1100 2 (leBytes 1 2))) (hm : s.mode = .rough)
    (hk : s.rough.kind = 1) (hj : joinRequest s.toChip = false) (hs : s.dbl.state ≠ 1) (hn : s.dbl.joinStep = 0) :
    Answers (.modeRequest src tag 2) s fun t => t.mode = .normal ∧ t.rough.kind = 0 ∧ Posted t (writeReq tag 0x1100 2 (leBytes 1 2)) 0 []
      ∧ t.objs = s.objs ∧ t.bel = s.bel ∧ t.pat = s.pat ∧ t.sp = s.sp ∧ t.toc.srcs = s.toc.srcs
      ∧ t.clk = { s.clk with disc := { s.clk.disc with align := false } } := by
  have hb := becomes_modeRequest h
  rw [modeRequest_alone ((firstRough_iff _).mpr ⟨hm, hk⟩) hj hs, goNormal_alone (by simp [joining, hs, hn])] at hb
  refine hb.answers ⟨?_, ?_, posted_respond _ _ _ _ _, ?_, ?_, ?_, ?_, ?_, ?_⟩ <;>
    simp [respond_objs _ _ _ _ _ (ne_peer_of_serves h (by decide)), modDisc, modClk]

/-- With Join request set the mode request begins the join (R279). -/
theorem modeRequest_toJoin {s : State} {src : Src} {tag : Nat} (h : Serves s src (writeReq tag 0x1100 2 (leBytes 1 2))) (hm : s.mode = .rough)
    (hk : s.rough.kind = 1) (hj : joinRequest s.toChip = true) (hu : s.unit1 = false) (hs : s.dbl.state ≠ 1) :
    Answers (.modeRequest src tag 2) s fun t => t.mode = .rough ∧ t.dbl.state = 1 ∧ t.dbl.joinStart = s.clk.carillon ∧ bit t.clk.enables 18 = true
      ∧ Posted t (writeReq tag 0x1100 2 (leBytes 1 2)) 0 [] ∧ t.objs = s.objs := by
  have hb := becomes_modeRequest h
  rw [modeRequest_join ((firstRough_iff _).mpr ⟨hm, hk⟩) hj hu hs] at hb
  obtain ⟨d, o, m, hstart, hstate, htick⟩ := startJoin_spec s.toChip
  rw [hstart] at hb
  refine hb.answers ⟨?_, ?_, ?_, ?_, posted_respond _ _ _ _ _, ?_⟩ <;>
    simp [respond_objs _ _ _ _ _ (ne_peer_of_serves h (by decide)), hm, hstate, htick]

/-! The end of BOOT (R15, R362, R374). -/

/-- The first Rough entry changes the mode, Rough status and the readiness of the ports. -/
theorem enterFirst_spec (c : Chip) : ∃ po, enterFirst c = { c with mode := .rough, rough := ⟨1, true, 0xFFFF, 0, c.clk.carillon⟩, port := po } := ⟨_, rfl⟩

/-- The first Rough entry of a verified bank: its VERSION and SVN run, and their measurement block has changed. -/
def released (c : Chip) : Chip :=
  enterFirst (blockChanged (modFw c fun f => { f with runVersion := bfld c.sec.fw.running 4 4, runSvn := bfld c.sec.fw.running 8 4 }) 1)

theorem lowestFatal_released (c : Chip) : lowestFatal (released c) = lowestFatal c := rfl

theorem firmwareRelease_clean {c : Chip} (h : lowestFatal c = none) : firmwareRelease c = released c := by
  rw [← lowestFatal_released, released] at h
  simp only [firmwareRelease, released, h]

/-- A Fatal that was taken in BOOT takes effect at the release. -/
theorem firmwareRelease_fatal {c : Chip} {n : Nat} (h : lowestFatal c = some n) : firmwareRelease c = fatal (released c) n := by
  rw [← lowestFatal_released, released] at h
  simp only [firmwareRelease, released, h]

theorem becomes_firmwareRelease {s : State} (hb : bootVerified s.toChip = true) (hr : verifyReason s.toChip s.sec.fw.running true = 0) :
    Becomes .firmwareRelease s (firmwareRelease s.toChip) := event_due (by simp [hb, hr]) _ _

/-- A Fatal does not leave BOOT (R15). -/
theorem fatal_boot {c : Chip} (h : c.mode = .boot) (n : Nat) : fatal c n = c := by simp [fatal, h]

theorem level_le_raiseLevel (c : Chip) (x : SrcSt) (l : Nat) : l ≤ (raiseLevel c x l).level := by
  unfold raiseLevel
  split
  · assumption
  · exact Nat.le_refl l

/-- No mask and no window holds back a Fatal (R354, R356). -/
theorem four_le_level_takeLevel (c : Chip) (n : Nat) (x : SrcSt) (elem detail : Nat) : 4 ≤ (takeLevel c n x elem 4 detail).level := by
  simpa [takeLevel] using level_le_raiseLevel c _ 4

/-- Trace capture writes statistics, what was sent, and takes a free value. -/
theorem traceEvent_spec (c : Chip) (n elem level detail : Nat) :
    ∃ ob f o, traceEvent c n elem level detail = { c with objs := ob, free := f, out := o } := by
  unfold traceEvent
  split
  · dsimp only
    split <;> exact ⟨_, _, _, rfl⟩
  · exact ⟨_, _, _, rfl⟩

/-- The sticky bit of a source, set (R351). -/
def withSticky (c : Chip) (n : Nat) : Chip := { c with toc := { c.toc with sticky := setBit c.toc.sticky n true } }

/-- A Fatal of source 186 as Tocsin records it: sticky bit, level, trace record. -/
def recordVerifyFatal (c : Chip) (elem : Nat) : Chip :=
  traceEvent (stat (setSrc (withSticky c 186) 186 (takeLevel (withSticky c 186) 186 (getSrc c 186) elem 4 0)) 0x7050 1 1) 186 elem 4 0

theorem recordVerifyFatal_fields (c : Chip) (elem : Nat) : (recordVerifyFatal c elem).mode = c.mode ∧ (recordVerifyFatal c elem).sec = c.sec
    ∧ (recordVerifyFatal c elem).dict = c.dict ∧ 4 ≤ (getSrc (recordVerifyFatal c elem) 186).level ∧ bit (recordVerifyFatal c elem).toc.sticky 186 = true := by
  unfold recordVerifyFatal
  obtain ⟨ob, f, o, h⟩ := traceEvent_spec
    (stat (setSrc (withSticky c 186) 186 (takeLevel (withSticky c 186) 186 (getSrc c 186) elem 4 0)) 0x7050 1 1) 186 elem 4 0
  rw [h]
  refine ⟨rfl, rfl, rfl, ?_, bit_setBit_self _ _⟩
  exact Nat.le_trans (four_le_level_takeLevel _ 186 _ elem 0) (Nat.le_of_eq (congrArg SrcSt.level (getSrc_setSrc _ 186 _).symm))

/-- In BOOT a Fatal of source 186 is recorded, and that is all: nothing is fenced and the mode stays (R15, R350). -/
theorem takeEvent_fatal_in_boot {c : Chip} (hm : c.mode = .boot) (elem : Nat) : takeEvent c 186 elem 4 0 = recordVerifyFatal c elem := by
  show (if _ then fatal (recordVerifyFatal c elem) 186 else recordVerifyFatal c elem) = _
  rw [fatal_boot ((recordVerifyFatal_fields c elem).1.trans hm), ite_self]

/-- Naming the bad block takes a free value at most. -/
theorem badBlock_spec (c : Chip) (reason : Nat) : ∃ f, (badBlock c reason).2 = { c with free := f } := by
  unfold badBlock
  dsimp only
  split
  · exact ⟨_, rfl⟩
  · split <;> exact ⟨_, rfl⟩

/-- The entry into ROUGH from BOOT after the Fatal of source 186 (R362). -/
def enterAfterVerifyFatal (c : Chip) (elem : Nat) : Chip :=
  let e := enterFirst (stat (takeEvent c 186 elem 4 0) 0x7050 4 1)
  { e with rough := { e.rough with kind := 2, cause := 186 } }

theorem enterAfterVerifyFatal_fields {c : Chip} (hm : c.mode = .boot) (elem : Nat) : (enterAfterVerifyFatal c elem).mode = .rough
    ∧ (enterAfterVerifyFatal c elem).rough.kind = 2 ∧ (enterAfterVerifyFatal c elem).rough.cause = 186 ∧ (enterAfterVerifyFatal c elem).sec = c.sec
    ∧ 4 ≤ (getSrc (enterAfterVerifyFatal c elem) 186).level ∧ bit (enterAfterVerifyFatal c elem).toc.sticky 186 = true ∧ (enterAfterVerifyFatal c elem).dict = c.dict := by
  obtain ⟨-, hsec, hdict, hlevel, hsticky⟩ := recordVerifyFatal_fields c elem
  rw [← takeEvent_fatal_in_boot hm elem] at hsec hdict hlevel hsticky
  have htoc : (enterAfterVerifyFatal c elem).toc = (takeEvent c 186 elem 4 0).toc := rfl
  rw [getSrc_of_toc htoc, htoc]
  exact ⟨rfl, rfl, rfl, hsec, hlevel, hsticky, hdict⟩

/-- A failed verification at reset logs KIND 8, keeps the recovery loader, and enters ROUGH after the Fatal of source 186 (R374). -/
theorem verifyFailed_eq (reason : Nat) (c : Chip) : ∃ f elem, verifyFailed reason c =
    enterAfterVerifyFatal { logAdd (modFw c fun f => { f with loader := true, reason := reason }) 8 1 reason [] with free := f } elem := by
  obtain ⟨f, hbad⟩ := badBlock_spec (logAdd (modFw c fun f => { f with loader := true, reason := reason }) 8 1 reason []) reason
  exact ⟨f, _, congrArg (fun d => enterAfterVerifyFatal d _) hbad⟩

theorem verifyFailed_fields {c : Chip} (hm : c.mode = .boot) (reason : Nat) :
    (verifyFailed reason c).mode = .rough ∧ (verifyFailed reason c).rough.kind = 2 ∧ (verifyFailed reason c).rough.cause = 186
      ∧ (verifyFailed reason c).sec.fw.loader = true ∧ (verifyFailed reason c).sec.fw.reason = reason
      ∧ 4 ≤ (getSrc (verifyFailed reason c) 186).level ∧ bit (verifyFailed reason c).toc.sticky 186 = true ∧ (verifyFailed reason c).dict = c.dict := by
  obtain ⟨f, elem, heq⟩ := verifyFailed_eq reason c
  rw [heq]
  obtain ⟨hmode, hkind, hcause, hsec, hlevel, hsticky, hdict⟩ := enterAfterVerifyFatal_fields
    (c := { logAdd (modFw c fun f => { f with loader := true, reason := reason }) 8 1 reason [] with free := f }) hm elem
  rw [hsec, hdict]
  exact ⟨hmode, hkind, hcause, rfl, rfl, hlevel, hsticky, rfl⟩

/-! The Rough exit (R365, R366). -/

/-- A served Rough exit is judged by its handler and answered. -/
theorem becomes_roughExit {s : State} {src : Src} {tag : Nat} (h : Serves s src (writeReq tag 0x5100 2 (leBytes 1 1))) :
    Becomes (.roughExit src tag 1) s
      (react (respond (roughExit 1 s.toChip).2 src (writeReq tag 0x5100 2 (leBytes 1 1)) (roughExit 1 s.toChip).1 0 [])) := by
  obtain ⟨⟨hp, hc⟩, hf⟩ := h
  show event _ _ _ _ = _
  rw [event_due hp, serve_handled hc hf, finishWrite_plain rfl]

/-- A reason of the unit's own keeps it in ROUGH (R365). -/
theorem roughExit_kept {c : Chip} (hm : c.mode = .rough) (hr : exitReason c ≠ 0) :
    roughExit 1 c = (7, { c with rough := { c.rough with exitReason := exitReason c } }) := by simp [roughExit, hm, hr]

/-- A unit that was never joined leaves ROUGH when no reason of its own keeps it. -/
theorem roughExit_alone {c : Chip} (hm : c.mode = .rough) (hr : exitReason c = 0) (hj : c.dbl.wasJoined = false) :
    roughExit 1 c = (0, leaveRough c) := by simp [roughExit, pairReason, hm, hr, hj]

/-- A partner that is not in ROUGH, or that has left the pair, keeps a unit that was joined in ROUGH (R365). -/
theorem roughExit_partner {c : Chip} (hm : c.mode = .rough) (hr : exitReason c = 0) (hj : c.dbl.wasJoined = true)
    (hp : c.dbl.partnerRough = false ∨ c.dbl.partnerLeft = true) :
    roughExit 1 c = (7, { c with rough := { c.rough with exitReason := 6 } }) := by
  rcases hp with hp | hp <;> simp [roughExit, pairReason, hm, hr, hj, hp]

/-! What the exit leaves of the mode, Rough status and the pair while sources clear and windows return. -/

/-- A function of the unit that every step of a fold keeps, the fold keeps. -/
theorem foldl_keeps {β γ : Type} {f : Chip → β → Chip} (g : Chip → γ) (hf : ∀ c x, g (f c x) = g c) (l : List β) (c : Chip) :
    g (l.foldl f c) = g c := by
  induction l generalizing c with
  | nil => rfl
  | cons x l ih => exact (ih (f c x)).trans (hf c x)

/-- The mode, Rough status and the Doublet's state. -/
def modePart (c : Chip) : Mode × RoughSt × DblSt := (c.mode, c.rough, c.dbl)

section ModePart
variable (c : Chip)

theorem modePart_modLine (k : Nat) (f : Line → Line) : modePart (modLine c k f) = modePart c := rfl

theorem modePart_setCoh (w st : Nat) : modePart (setCoh c w st) = modePart c := rfl

theorem modePart_setSrc (n : Nat) (v : SrcSt) : modePart (setSrc c n v) = modePart c := rfl

theorem modePart_lineRoom : modePart (lineRoom c) = modePart c := by
  unfold lineRoom
  dsimp only
  split <;> rfl

theorem modePart_readLine (k : Nat) : modePart (readLine c k) = modePart c := by
  unfold readLine
  dsimp only
  split
  · rfl
  · split
    · rfl
    · exact modePart_lineRoom c

theorem modePart_watchLine (k : Nat) : modePart (watchLine c k) = modePart c := by
  unfold watchLine
  dsimp only
  split
  · rfl
  · exact modePart_readLine c k

theorem modePart_pinSilent (q : Nat) : modePart (pinSilent c q) = modePart c := by
  unfold pinSilent
  dsimp only
  split
  · rfl
  · exact modePart_readLine (modQueue c q fun x => { x with silent := true }) _

theorem modePart_unwatchRing (q : Nat) (keep : List Nat) : modePart (unwatchRing c q keep) = modePart c :=
  foldl_keeps modePart (fun c k => modePart_modLine c k _) _ c

theorem modePart_watchRing (q : Nat) : modePart (watchRing c q) = modePart c := by
  refine (foldl_keeps modePart (fun d k => ?_) _ _).trans (modePart_unwatchRing c q _)
  split
  · exact modePart_watchLine d k
  · rfl

theorem modePart_watchRings (p : HPort) : modePart (watchRings c p) = modePart c := foldl_keeps modePart modePart_watchRing _ c

theorem modePart_resumeWindows (p : HPort) : modePart (resumeWindows c p) = modePart c :=
  (modePart_watchRings _ p).trans ((foldl_keeps modePart modePart_pinSilent _ _).trans (foldl_keeps modePart (fun c (x : Nat × Nat) => modePart_setCoh c x.1 1) _ c))

theorem modePart_windowsBack (p : HPort) : modePart (windowsBack c p) = modePart c := by
  unfold windowsBack
  split
  · exact modePart_resumeWindows c p
  · exact foldl_keeps modePart (fun c (x : Nat × Nat) => modePart_setCoh c x.1 2) _ c

theorem modePart_clearFatal : modePart (clearFatal c) = modePart c := foldl_keeps modePart (fun c n => modePart_setSrc c n _) _ c

end ModePart

/-- The exit of a unit that was never joined returns it to NORMAL (R366). -/
theorem leaveRough_alone {c : Chip} (hj : c.dbl.wasJoined = false) : (leaveRough c).mode = .normal ∧ (leaveRough c).rough.kind = 0 := by
  have hpart : modePart (windowsBack (windowsBack (clearFatal { c with mode := .normal, rough := { c.rough with kind := 0 } }) .a) .b)
      = (.normal, { c.rough with kind := 0 }, c.dbl) :=
    (modePart_windowsBack _ .b).trans ((modePart_windowsBack _ .a).trans (modePart_clearFatal _))
  unfold leaveRough
  dsimp only
  generalize windowsBack (windowsBack (clearFatal _) .a) .b = d at hpart
  obtain ⟨hmode, hrough, hdbl⟩ : d.mode = .normal ∧ d.rough = { c.rough with kind := 0 } ∧ d.dbl = c.dbl := by simpa [modePart] using hpart
  simp [hdbl, hj, hmode, hrough]

/-- Settles O12: the end of BOOT, the mode request and the Rough exit, each by what its handler answers. -/
theorem modesChangeByTheirRules : Obligations.ModesChangeByTheirRules := by
  unfold Obligations.ModesChangeByTheirRules
  refine ⟨fun s hb hr hl => ?_, fun s n hb hr hl => ?_, fun s reason hb hr he => ?_, fun s src tag => modeRequest_toNormal,
    fun s src tag v hv hne h => ?_, fun s src tag h hn => ?_, fun s src tag => modeRequest_toJoin, fun s h => event_due h _ _,
    fun s src tag h hm hr hj => ⟨?_, leaveRough_alone hj⟩, fun s src tag h hm hr => ?_, fun s src tag h hm hr hj hp => ?_⟩
  · exact (firmwareRelease_clean hl ▸ becomes_firmwareRelease hb hr).answers (by simp [released, enterFirst, portReady, blockChanged, modFw, now])
  · exact firmwareRelease_fatal hl ▸ becomes_firmwareRelease hb hr
  · have hm : s.mode = .boot := by
      simp only [bootVerified, Bool.and_eq_true, beq_iff_eq] at hb
      exact hb.1.1
    have hfail : Becomes (.firmwareVerifyFailAtReset reason) s (verifyFailed reason s.toChip) :=
      event_due (by simp [hb, bootReason, hr, ← he]) _ _
    refine hfail.answers ?_
    simpa using verifyFailed_fields hm reason
  · exact modeRequest_turnedAway h (by rw [Nat.mod_eq_of_lt hv]; exact modeRequest_range hne _)
  · exact modeRequest_turnedAway h (modeRequest_late hn)
  · have hb := becomes_roughExit h
    rwa [roughExit_alone hm hr hj] at hb
  · have hb := becomes_roughExit h
    rwa [roughExit_kept hm hr] at hb
  · have hb := becomes_roughExit h
    rwa [roughExit_partner hm hr hj hp] at hb

end Sys2Proof.Machine
end

section
/-! Every command completes under its conditions (R34, R307, R340, R387). -/

namespace Sys2Proof.Machine

/-- A command answers a next state, with its queue untouched and the level-sensitive outputs settled. -/
def Settles (i : Instr) (s : State) : Prop := ∃ t, exec i s = .next t ∧ t.pending = s.pending ∧ OutputsSettled t.toChip

/-- A command that is one event settles when the event is due; an event of a block is due while its block runs (R340). -/
theorem settles_of_event {i : Instr} {s : State} {n : String} {d : Bool} {c : Chip} (he : exec i s = event n d c s) (h : d = true) : Settles i s :=
  ⟨put s c, he.trans (event_due h c s), rfl, put_settled s c⟩

/-! A condition of `completes` that asks for more than the event: its first parts are the event's. -/

section Conjunctions
variable {a b : Bool}

theorem and_first (h : (a && b) = true) : a = true := (Bool.and_eq_true_iff.mp h).1

/-- A block's `a` and then the event's conditions, one after another: grouped as `eventOn` asks for them. -/
theorem and_group {x y : Bool} (hx : x = true → (a && y) = true) (h : (x && b) = true) : (a && (y && b)) = true := by
  obtain ⟨h₁, hb⟩ := Bool.and_eq_true_iff.mp h
  rw [← Bool.and_assoc]
  exact Bool.and_eq_true_iff.mpr ⟨hx h₁, hb⟩

end Conjunctions

/-! Every form of an accepted request is presented. -/

section Requests
variable {b : Bool} {c : Chip} {src : Src} {rq : Req}

theorem presents_of_passes (h : passes c src rq = true) : presents c src rq = true := and_first h

theorem presents_of_accepts {f : Chip → Nat × Chip} (h : accepts c src rq f = true) : presents c src rq = true :=
  presents_of_passes (and_first (and_first h))

theorem guarded_presents_of_accepts {f : Chip → Nat × Chip} (h : (b && accepts c src rq f) = true) : (b && presents c src rq) = true := by
  obtain ⟨hb, ha⟩ := Bool.and_eq_true_iff.mp h
  exact Bool.and_eq_true_iff.mpr ⟨hb, presents_of_accepts ha⟩

theorem guarded_presents_of_domainTaken {d v : Nat} (h : (b && domainTaken c src rq d v) = true) : (b && presents c src rq) = true := by
  obtain ⟨hb, ht⟩ := Bool.and_eq_true_iff.mp h
  exact Bool.and_eq_true_iff.mpr ⟨hb, presents_of_passes (and_first ht)⟩

theorem presents_of_writeTaken (h : writeTaken c src rq = true) : presents c src rq = true := by
  unfold writeTaken at h
  split at h
  · exact presents_of_passes (and_first h)
  · exact presents_of_accepts h

theorem presents_of_forwardedTaken {tag index sub : Nat} {payload : Bytes} (h : forwardedTaken c none tag index sub payload = true) :
    (presents c .forwarded (forwardedReq tag index sub payload) && (mirrorEntry index sub).isSome) = true := by
  obtain ⟨hm, ht⟩ := Bool.and_eq_true_iff.mp h
  refine Bool.and_eq_true_iff.mpr ⟨?_, hm⟩
  split at ht
  · exact and_first (and_first ht)
  · exact presents_of_writeTaken ht

end Requests

/-- The responder that answers is within reach of the transport (R384, R387). -/
theorem spdmReach_of_serves {c : Chip} {t : Transport} (h : spdmServes c t = true) : spdmReach c t = true := and_first (and_first h)

/-- The reads of an admission arrive for a launch whose Space is not frozen: the event asks the two apart (R218, R290). -/
theorem admission_due {c : Chip} {q e : Nat} {patch handles : RdResult} (h : admitDue c q e patch handles = true) :
    ((c.pat.reads.find? fun x => x.1 == q) == some (q, e)
      && ((getLaunch c q e).map fun l => l.final == noFinal && readFits patch (enPatch l.entry) && readFits handles (8 * enHandles l.entry)).getD false
      && !((getLaunch c q e).map fun l => (getSpace c l.space).state == 4).getD false && admitAgrees c q e patch handles) = true := by
  unfold admitDue at h
  cases hl : getLaunch c q e with
  | none => simp [hl] at h
  | some l => simpa [hl, and_assoc] using h

/-- Under the conditions of `completes` the one event that the command stands for is due. -/
theorem settles_of_completes (i : Instr) (s : State) (h : completes s.toChip i = true) : Settles i s := by
  cases i with
  | modeRequest | roughExit | configCommit | facetLoadBuild | facetLoadFill | writeBackRequest | grainProbeRequest | manifestPost | lapidaryAbortRequest
  | peerWindowCommit | portAttach | portDetach | timeStep | align | meterRequest | clockEnableSet | clockEnableClear | clearAllSticky | stageRequest
  | firmwareVerify | firmwareActivate | firmwareDiscard | modelMeasureRequest | tenancyAttach | tenancyEnd | tenancyScrub =>
    exact settles_of_event rfl (presents_of_accepts h)
  | spaceCreate | spaceGoLive | spaceInvalidate | spaceRetire | segmentDescriptorWrite | channelResume | tableDefine | tableUndefine | queueCreate
  | queueResume | queueDestroy | queueReattach | patternRegister | patternRetire | patternClear | windowEnable | windowDisable | pllStart | pllStop
  | sourceAck | clearSticky | maskWrite =>
    exact settles_of_event rfl (guarded_presents_of_accepts h)
  | domainSourceWrite => exact settles_of_event rfl (guarded_presents_of_domainTaken h)
  | describe | readSeg => exact settles_of_event rfl (presents_of_passes h)
  | read => exact settles_of_event rfl (presents_of_passes (and_first h))
  | writeSeg => exact settles_of_event rfl (presents_of_passes (and_first (and_first h)))
  | write => exact settles_of_event rfl (presents_of_writeTaken h)
  | forwardedWrite answer =>
    cases answer with
    | none => exact settles_of_event rfl (presents_of_forwardedTaken h)
    | some => exact settles_of_event rfl h
  | protoErrClear | intxMgmtClear | carillonNowLowRead | carillonNowHighRead | initiateFlr | bmeClear | d3hotEntry | inboundPacket | rotResponse =>
    exact settles_of_event rfl (and_first h)
  | mboxGo | mboxAck | registerWrite | scaleBankWrite | romRead | configWrite | setEndpointId =>
    exact settles_of_event rfl (and_first (and_first h))
  | doorbellWrite =>
    obtain ⟨hw, -⟩ := Bool.and_eq_true_iff.mp h
    obtain ⟨hp, hq⟩ := Bool.and_eq_true_iff.mp hw
    exact settles_of_event rfl (Bool.and_eq_true_iff.mpr ⟨and_first hp, hq⟩)
  | sidebandMessage => exact settles_of_event rfl (and_first (and_first (and_first (and_first (and_first h)))))
  | ppsEdge => exact settles_of_event rfl (and_first (and_first (and_first h)))
  | getVersion | getCapabilities | negotiateAlgorithms | getDigests => exact settles_of_event rfl (spdmReach_of_serves h)
  | getCertificate | challenge | getMeasurements | keyExchange | finish | endSession | spdmHeartbeat | keyUpdate | ideQuery =>
    exact settles_of_event rfl (spdmReach_of_serves (and_first h))
  | kSetStop => exact settles_of_event rfl (spdmReach_of_serves (and_first (and_first h)))
  | keyProg => exact settles_of_event rfl (spdmReach_of_serves (and_first (and_first (and_first h))))
  | kSetGo => exact settles_of_event rfl (spdmReach_of_serves (and_first (and_first (and_first (and_first h)))))
  | promotionTokenAccrue | promotionCopyComplete | promotionCopyFail | writeBackComplete | writeBackFail | pacePeriodDue | releaseSweepStep
  | producerValueTake | admissionStart | saveComplete | restoreComplete | snoop =>
    exact settles_of_event rfl (and_group id h)
  | sweepVisit | manifestApplied | ringReadComplete | switchPointBoundExpiry | lineReadComplete =>
    exact settles_of_event rfl (and_group (and_group id) h)
  | manifestApplyStart => exact settles_of_event rfl (and_group (and_group (and_group (and_group (and_group id)))) h)
  | tallyForward inbound =>
    cases inbound with
    | none => exact settles_of_event rfl (and_group id h)
    | some => exact settles_of_event rfl (and_group id h)
  | geodeStateAck sp seg g change =>
    cases change with
    | none => exact settles_of_event rfl h
    | some => exact settles_of_event rfl h
  | admissionReadsArrive =>
    obtain ⟨hb, hd⟩ := Bool.and_eq_true_iff.mp h
    exact settles_of_event rfl (Bool.and_eq_true_iff.mpr ⟨hb, admission_due hd⟩)
  | _ => exact settles_of_event rfl h

/-- Settles O58: each command is one event, whose condition `completes` implies. -/
theorem everyCommandCompletesUnderItsConditions : Obligations.EveryCommandCompletesUnderItsConditions := settles_of_completes

end Sys2Proof.Machine
end

section
/-! The checks of a request and a refused request (R34). -/

namespace Sys2Proof.Machine

/-! The order of the checks, once MCLK runs: the first that applies gives the status. -/

/-- Two conditions with one outcome, asked together or one after the other. -/
theorem if_or_eq {α : Type} {P Q : Prop} [Decidable P] [Decidable Q] (x y : α) : (if P ∨ Q then x else y) = if P then x else if Q then x else y := by
  by_cases hP : P
  · rw [if_pos (.inl hP), if_pos hP]
  · simp only [hP, false_or, if_false]

section Checks
variable {c : Chip} {src : Src} {rq : Req} (hm : c.boot.mclkRuns = true)
include hm

theorem check_undefined_index (hi : (objRows rq.index).isEmpty = true) (hr : objRow rq.index rq.sub = none) : check c src rq = 1 := by
  simp [check, hm, hr, hi]

theorem check_undefined_sub (hi : (objRows rq.index).isEmpty = false) (hr : objRow rq.index rq.sub = none) : check c src rq = 2 := by
  simp [check, hm, hr, hi]

variable {r : ObjRow} (hr : objRow rq.index rq.sub = some r)
include hr

theorem check_unknown_opcode (h : rq.op = 0 ∨ 5 < rq.op) : check c src rq = 4 := by simp [check, hm, hr, h]

variable (hop : 1 ≤ rq.op ∧ rq.op ≤ 5)
include hop

theorem check_outside_mode (h3 : rq.op ≠ 3) (hs : modeServes c rq.index rq.sub = false) : check c src rq = 7 := by
  have hknown : ¬ (rq.op = 0 ∨ 5 < rq.op) := by omega
  simp [check, hm, hr, hknown, h3, hs]

theorem check_gated (h3 : rq.op ≠ 3) (hs : modeServes c rq.index rq.sub = true) (hg : isGated c rq.index = true) : check c src rq = 9 := by
  have hknown : ¬ (rq.op = 0 ∨ 5 < rq.op) := by omega
  simp [check, hm, hr, hknown, h3, hs, hg]

variable (hs : rq.op = 3 ∨ (modeServes c rq.index rq.sub = true ∧ isGated c rq.index = false))
include hs

/-- A known opcode on an object that is served: the rights, the type and the length are left to check. -/
theorem check_served : check c src rq =
    if !hasRight r (masterOf src) rq.op then 3
    else if ((rq.op = 1 ∨ rq.op = 2) ∧ r.typ = 12) ∨ ((rq.op = 4 ∨ rq.op = 5) ∧ r.typ ≠ 12) then 4
    else if ((rq.op = 1 ∨ rq.op = 3) ∧ rq.len ≠ 0) ∨ (rq.op = 2 ∧ (rq.len ≠ r.size ∨ rq.payload.length ≠ rq.len))
      ∨ ((rq.op = 4 ∨ rq.op = 5) ∧ 2032 < rq.len) then 8
    else if rq.op = 2 ∧ badEncoding r.typ (leNat rq.payload) = true then 5 else 0 := by
  have hknown : ¬ (rq.op = 0 ∨ 5 < rq.op) := by omega
  have hmode : ¬ (rq.op ≠ 3 ∧ modeServes c rq.index rq.sub = false) := by rcases hs with h | ⟨h, -⟩ <;> simp [h]
  have hgate : ¬ (rq.op ≠ 3 ∧ isGated c rq.index = true) := by rcases hs with h | ⟨-, h⟩ <;> simp [h]
  simp [check, hm, hr, hknown, hmode, hgate, if_or_eq]

end Checks

/-! The responses of requests that the gateway does not present. -/

/-- The Peer Gateway presents posts of manifests only (R264). -/
theorem eq_post_of_presents_peer {c : Chip} {rq : Req} (h : presents c .peer rq = true) : ∃ payload, rq = writeReq 0 0x3800 2 payload := by
  have hsome : (presentedAt c .peer rq).isSome = true := by
    cases hp : presentedAt c .peer rq with
    | none => simp [presents, hp] at h
    | some => rfl
  unfold presentedAt at hsome
  split at hsome
  next x hx =>
    obtain ⟨hsrc, rfl⟩ : x.1 = .peer ∧ x.2.1 = rq := by simpa using List.find?_some hx
    have hmem := List.mem_of_find?_eq_some hx
    simp only [waitingReqs, List.mem_append, List.mem_flatMap, List.mem_map] at hmem
    rcases hmem with (⟨p, -, ⟨y, -, rfl⟩ | ⟨y, -, rfl⟩⟩ | ⟨y, -, rfl⟩) | ⟨y, -, rfl⟩
    · cases hsrc
    · cases hsrc
    · cases hsrc
    · exact ⟨_, rfl⟩
  next => simp at hsome

/-- A request that is no WRITE does not come from the gateway. -/
theorem ne_peer_of_op {c : Chip} {src : Src} {rq : Req} (h : presents c src rq = true) (hop : rq.op ≠ 2) : src ≠ .peer := by
  rintro rfl
  obtain ⟨payload, rfl⟩ := eq_post_of_presents_peer h
  exact hop rfl

section Respond
variable (c : Chip) (src : Src) (rq : Req) (st total : Nat) (p : Bytes)

@[simp] theorem respond_lastResp :
    (respond c src rq st total p).dict.lastResp = some ⟨rq.op, st, rq.tag, rq.index, rq.sub, total, if st = 0 then p else []⟩ := by
  obtain ⟨_, _, _, _, h, hl, -⟩ := respond_spec c src rq st total p
  rw [h]
  exact hl

@[simp] theorem respond_staged : (respond c src rq st total p).dict.staged = c.dict.staged := by
  obtain ⟨_, _, _, _, h, -, hs, -⟩ := respond_spec c src rq st total p
  rw [h]
  exact hs

@[simp] theorem respond_geo : (respond c src rq st total p).geo = c.geo := by obtain ⟨_, _, _, _, h, -⟩ := respond_spec c src rq st total p; rw [h]

end Respond

/-- A response that follows a change of the dictionary service's record alone leaves the rest of the unit. -/
theorem onlyAnswered_respond (s : State) {src : Src} (hs : src ≠ .peer) {c : Chip} (hc : ∃ d, c = { s.toChip with dict := d }) (rq : Req) (st total : Nat)
    (p : Bytes) : OnlyAnswered s (put s (respond c src rq st total p)) := by
  obtain ⟨d, rfl⟩ := hc
  obtain ⟨d', o, h⟩ := respond_frame { s.toChip with dict := d } rq st total p hs
  exact ⟨d', o, congrArg (put s) h⟩

/-! A refused request is answered with the status of the checks, and has no effect (R34). -/

section Refused
variable {c : Chip} {src : Src} {rq : Req} (hc : check c src rq ≠ 0)
include hc

theorem writeServe_refused : writeServe src rq c = respond c src rq (check c src rq) 0 [] := by
  unfold writeServe
  dsimp only
  split
  · simp [domainSourceWrite, hc]
  · exact serve_refused hc

theorem readServe_refused : readServe src rq c = respond c src rq (check c src rq) 0 [] := by simp [readServe, hc]

theorem describeServe_refused : describeServe src rq c = respond c src rq (check c src rq) 0 [] := by simp [describeServe, hc]

theorem writeSegServe_refused : writeSegServe src rq c = respond c src rq (check c src rq) (totalOf c rq) [] := by simp [writeSegServe, hc]

end Refused

/-- A due command becomes its effect. -/
theorem becomes_event {i : Instr} {s : State} {n : String} {d : Bool} {c c' : Chip} (he : exec i s = event n d c s) (h : d = true) (hc : c = c') :
    Becomes i s c' := (he.trans (event_due h c s)).trans (congrArg _ (congrArg (put s) hc))

/-- A command that only responds with a status answers so. -/
theorem Becomes.onlyAnswers {i : Instr} {s : State} {src : Src} {rq : Req} {st : Nat} (hs : src ≠ .peer)
    (h : Becomes i s (respond s.toChip src rq st 0 [])) : Answers i s fun t => OnlyAnswered s t ∧ Posted t rq st [] :=
  h.answers ⟨onlyAnswered_respond s hs ⟨_, rfl⟩ rq st 0 [], by simp [Posted]⟩

/-- Settles O6: the checks one by one, then each kind of request that they refuse. -/
theorem requestsAreCheckedInOrder : Obligations.RequestsAreCheckedInOrder := by
  unfold Obligations.RequestsAreCheckedInOrder
  refine ⟨fun c src rq hm => ⟨check_undefined_index hm, check_undefined_sub hm, fun r hr => ⟨check_unknown_opcode hm hr, fun h1 h5 =>
    ⟨check_outside_mode hm hr ⟨h1, h5⟩, check_gated hm hr ⟨h1, h5⟩, fun hs => ⟨fun hright => ?_, fun hright => ⟨fun htype => ?_, fun htype hlen => ?_⟩⟩⟩⟩⟩,
    fun s src tag i sub payload hp hc => ?_, fun s src tag i sub len hp hc => ?_, fun s src tag i sub len hp hc => ?_,
    fun s src tag i sub off flags payload hp hc => ?_⟩
  · rw [check_served hm hr ⟨h1, h5⟩ hs]
    simp [hright]
  · rw [check_served hm hr ⟨h1, h5⟩ hs]
    simp [hright, htype]
  · rw [check_served hm hr ⟨h1, h5⟩ hs, if_neg (by simp [hright]), if_neg htype, if_pos hlen]
  · exact becomes_event rfl hp (congrArg react (writeServe_refused hc))
  · exact (becomes_event rfl hp (readServe_refused hc)).onlyAnswers (ne_peer_of_op hp (by simp))
  · exact (becomes_event rfl hp (describeServe_refused hc)).onlyAnswers (ne_peer_of_op hp (by simp))
  · exact (becomes_event rfl hp (writeSegServe_refused hc)).answers ⟨onlyAnswered_respond s (ne_peer_of_op hp (by simp)) ⟨_, rfl⟩ _ _ _ _, by simp⟩

end Sys2Proof.Machine
end

section
/-! DOMAIN writes by segments (R43 to R45, R215). -/

namespace Sys2Proof.Machine

/-! What staging leaves of the Patterns. -/

theorem getPat_of_pat {c d : Chip} (h : c.pat = d.pat) (p : Nat) : getPat c p = getPat d p := by rw [getPat, h, getPat]

/-- A change of a Pattern that keeps its image keeps every image. -/
theorem image_modPat (c : Chip) (p q : Nat) {f : Pattern → Pattern} (hf : ∀ x, (f x).image = x.image) :
    (getPat (modPat c p f) q).image = (getPat c q).image := by
  by_cases hq : q = p
  · rw [hq, modPat, getPat_setPat, hf]
  · rw [modPat, getPat_setPat_ne _ _ _ hq]

/-- A staging run that returns takes no image with it. -/
theorem image_freeRun (c : Chip) (p q : Nat) : (getPat (freeRun c p) q).image = (getPat c q).image := by
  unfold freeRun
  split
  · exact image_modPat c p q (f := fun x => { x with run := none }) fun _ => rfl
  · rfl

/-- A staged write that is discarded takes no image with it. -/
theorem image_unstage (c : Chip) (m : Master) (i sub q : Nat) : (getPat (unstage c m i sub) q).image = (getPat c q).image := by
  unfold unstage
  dsimp only
  split
  · exact image_freeRun (dropStage c m i sub) _ q
  · rfl

/-- The bytes that were staged are the master's staged write. -/
theorem stagedOf_stage (c : Chip) (m : Master) (i sub : Nat) (bs : Bytes) : stagedOf (stage c m i sub bs) m i sub = some ⟨m, i, sub, bs, now c⟩ := by
  simp [stagedOf, stage, Staged.isFor, now, dropStage]

@[simp] theorem stage_pat (c : Chip) (m : Master) (i sub : Nat) (bs : Bytes) : (stage c m i sub bs).pat = c.pat := rfl

@[simp] theorem stage_geo (c : Chip) (m : Master) (i sub : Nat) (bs : Bytes) : (stage c m i sub bs).geo = c.geo := rfl

theorem stagedOf_put_respond (s : State) (c : Chip) (src : Src) (rq : Req) (st total : Nat) (p : Bytes) (m : Master) (i sub : Nat) :
    stagedOf (put s (respond c src rq st total p)).toChip m i sub = stagedOf c m i sub := by
  simp [stagedOf]

/-! One segment, by the conditions that decide it (R43 to R45). -/

section WriteSegment
variable (pre : Chip → Nat × Chip) (apply : Bytes → Chip → Nat × Chip) (m : Master) {rq : Req} {max : Nat} {c : Chip}

theorem writeSegment_abandon (ha : bit rq.flags 1 = true) (ho : (stagedOf c m rq.index rq.sub).isSome = true) :
    writeSegment pre apply m rq max c = (0, unstage c m rq.index rq.sub) := by
  simp [writeSegment, ha, ho]

variable (ha : bit rq.flags 1 = false) (hmax : rq.off + rq.payload.length ≤ max)
include ha hmax

theorem writeSegment_outOfSequence (h0 : rq.off ≠ 0) (ho : ∀ x, stagedOf c m rq.index rq.sub = some x → x.data.length ≠ rq.off) :
    writeSegment pre apply m rq max c = (5, unstage c m rq.index rq.sub) := by
  have hne : (stagedOf c m rq.index rq.sub).map (fun x => x.data.length) ≠ some rq.off := by
    cases hx : stagedOf c m rq.index rq.sub with
    | none => simp
    | some x => simpa using ho x hx
  simp [writeSegment, ha, Nat.not_lt.mpr hmax, h0, hne]

variable (h0 : rq.off = 0) {d : Chip} (hpre : pre c = (0, d))
include h0 hpre

theorem writeSegment_busy (ho : (stagedOf c (otherMaster m) rq.index rq.sub).isSome = true) :
    writeSegment pre apply m rq max c = (6, touchStaged c m rq.index rq.sub) := by
  rw [h0, Nat.zero_add] at hmax
  simp [writeSegment, ha, Nat.not_lt.mpr hmax, h0, hpre, ho]

theorem writeSegment_staged (ho : stagedOf c (otherMaster m) rq.index rq.sub = none) (hl : bit rq.flags 0 = false) :
    writeSegment pre apply m rq max c = (0, stage d m rq.index rq.sub rq.payload) := by
  rw [h0, Nat.zero_add] at hmax
  simp [writeSegment, ha, Nat.not_lt.mpr hmax, h0, hpre, ho, hl]

end WriteSegment

/-! A segment of a Pattern image that is not the last. -/

/-- A segment of the image of Pattern `p`. -/
abbrev imageSeg (flags tag p off : Nat) (payload : Bytes) : Req := ⟨5, flags, tag, 0x4000 + p, 3, payload.length, off, payload⟩

/-- What judges a segment first: at a unit that forwards, the Pattern's state alone; its run is taken at the unit that serves (R286). -/
def segmentPre (c : Chip) (rq : Req) : Chip → Nat × Chip :=
  if forwards c rq then fun d => (if imageOpen d (rq.index - 0x4000) then 0 else 7, d) else imagePre (rq.index - 0x4000)

/-- A segment that has been judged is answered with the size of the image (R30). -/
def answerSegment (src : Src) (rq : Req) (r : Nat × Chip) : Chip := respond r.2 src rq r.1 (totalOf r.2 rq) []

theorem totalOf_imageSeg {p : Nat} (hp : p < 1024) (c : Chip) (flags tag off : Nat) (payload : Bytes) :
    totalOf c (imageSeg flags tag p off payload) = (getPat c p).image.length := by
  have hlast : 0x4000 + p ≤ 0x43FF := by omega
  simp [totalOf, hlast]

theorem imageSegment_partial {src : Src} {rq : Req} (hl : bit rq.flags 0 = false) (c : Chip) : ∃ apply,
    imageSegment src rq c = answerSegment src rq (writeSegment (segmentPre c rq) apply (masterOf src) rq domainMax c) := by
  have hlast : isLast rq = false := by simp [isLast, hl]
  by_cases hf : forwards c rq = true
  · exact ⟨_, by simp only [imageSegment, segmentPre, answerSegment, hf, hlast, if_true, Bool.and_false, Bool.false_eq_true, if_false]; rfl⟩
  · exact ⟨_, by simp only [imageSegment, segmentPre, answerSegment, hf, hlast, Bool.false_eq_true, if_false]; rfl⟩

/-- A segment that passes the checks carries at most 2032 bytes (R31). -/
theorem len_le_of_check {c : Chip} {src : Src} {rq : Req} (hop : rq.op = 5) (h : check c src rq = 0) : rq.len ≤ 2032 := by
  simp only [check, hop] at h
  grind

section Segments
variable {s : State} {src : Src} {flags tag p off : Nat} {payload : Bytes}

/-- An open Pattern that holds its run takes a segment as it is. -/
theorem segmentPre_ready {c : Chip} (ho : imageOpen c p = true) (hr : (getPat c p).run.isSome = true) :
    segmentPre c (imageSeg flags tag p off payload) c = (0, c) := by
  unfold segmentPre
  split
  · simp [ho]
  · simp [imagePre, imageRun, ho, hr]

/-- The first segment takes the Pattern's run from the structure pool (R215). -/
theorem segmentPre_takesRun {c d : Chip} {a : Nat} (hf : forwards c (imageSeg flags tag p off payload) = false) (ho : imageOpen c p = true)
    (hr : (getPat c p).run = none) (hs : spAlloc c 0x200000 = some (a, d)) :
    segmentPre c (imageSeg flags tag p off payload) c = (0, setPat d p { getPat c p with run := some (a, 0x200000) }) := by
  simp [segmentPre, hf, imagePre, imageRun, ho, hr, hs]

variable (h : Passes s src (imageSeg flags tag p off payload))
include h

theorem ne_peer_of_segment : src ≠ .peer := ne_peer_of_op h.1 (by simp)

theorem length_le_domainMax : 0 + payload.length ≤ domainMax := by
  have hlen : payload.length ≤ 2032 := len_le_of_check rfl h.2
  simp only [domainMax]
  omega

variable (hp : p < 1024)
include hp

/-- A segment that is not the last and that the checks pass becomes its answer. -/
theorem becomes_writeSeg (hfl : flags % 4 = flags) (hl : bit flags 0 = false) : ∃ apply,
    Becomes (.writeSeg src tag (0x4000 + p) 3 off flags payload) s (answerSegment src (imageSeg flags tag p off payload)
      (writeSegment (segmentPre s.toChip (imageSeg flags tag p off payload)) apply (masterOf src) (imageSeg flags tag p off payload) domainMax s.toChip)) := by
  obtain ⟨apply, ha⟩ := imageSegment_partial (src := src) (rq := imageSeg flags tag p off payload) hl s.toChip
  have himage : 0x4000 + p ≠ 0x6000 := by omega
  refine ⟨apply, becomes_event rfl (hfl.symm ▸ h.1) ?_⟩
  rw [hfl, ← ha]
  simp [writeSegServe, h.2, himage]

end Segments

section Clauses
variable {s : State} {src : Src} {tag p off : Nat} {payload : Bytes} (hp : p < 1024)
include hp

/-- A segment of one's own staged write with ABANDON discards it. -/
theorem becomes_abandon (h : Passes s src (imageSeg 2 tag p off payload)) (ho : (stagedOf s.toChip (masterOf src) (0x4000 + p) 3).isSome = true) :
    Becomes (.writeSeg src tag (0x4000 + p) 3 off 2 payload) s
      (respond (unstage s.toChip (masterOf src) (0x4000 + p) 3) src (imageSeg 2 tag p off payload) 0 (getPat s.toChip p).image.length []) := by
  obtain ⟨apply, hb⟩ := becomes_writeSeg h hp rfl rfl
  rwa [writeSegment_abandon _ _ _ (by simp [bit]) ho, answerSegment, totalOf_imageSeg hp, image_unstage] at hb

/-- A segment out of sequence is refused with RANGE and discards the staged write. -/
theorem becomes_outOfSequence (h : Passes s src (imageSeg 0 tag p off payload)) (h0 : off ≠ 0) (hmax : off + payload.length ≤ domainMax)
    (ho : ∀ x, stagedOf s.toChip (masterOf src) (0x4000 + p) 3 = some x → x.data.length ≠ off) :
    Becomes (.writeSeg src tag (0x4000 + p) 3 off 0 payload) s
      (respond (unstage s.toChip (masterOf src) (0x4000 + p) 3) src (imageSeg 0 tag p off payload) 5 (getPat s.toChip p).image.length []) := by
  obtain ⟨apply, hb⟩ := becomes_writeSeg h hp rfl rfl
  rwa [writeSegment_outOfSequence _ _ _ (by simp [bit]) hmax h0 ho, answerSegment, totalOf_imageSeg hp, image_unstage] at hb

section First
variable (h : Passes s src (imageSeg 0 tag p 0 payload)) {d : Chip} (hpre : segmentPre s.toChip (imageSeg 0 tag p 0 payload) s.toChip = (0, d))
include h hpre

/-- A first segment is staged over what its judgement left. -/
theorem becomes_staged (ho : stagedOf s.toChip (otherMaster (masterOf src)) (0x4000 + p) 3 = none) :
    Becomes (.writeSeg src tag (0x4000 + p) 3 0 0 payload) s
      (respond (stage d (masterOf src) (0x4000 + p) 3 payload) src (imageSeg 0 tag p 0 payload) 0 (getPat d p).image.length []) := by
  obtain ⟨apply, hb⟩ := becomes_writeSeg h hp rfl rfl
  rwa [writeSegment_staged _ _ _ (by simp [bit]) (length_le_domainMax h) rfl hpre ho (by simp [bit]), answerSegment, totalOf_imageSeg hp] at hb

/-- While the other master stages the image, a first segment is answered BUSY (R44). -/
theorem becomes_busy (ho : (stagedOf s.toChip (otherMaster (masterOf src)) (0x4000 + p) 3).isSome = true) :
    Becomes (.writeSeg src tag (0x4000 + p) 3 0 0 payload) s
      (respond (touchStaged s.toChip (masterOf src) (0x4000 + p) 3) src (imageSeg 0 tag p 0 payload) 6 (getPat s.toChip p).image.length []) := by
  obtain ⟨apply, hb⟩ := becomes_writeSeg h hp rfl rfl
  rwa [writeSegment_busy _ _ _ (by simp [bit]) (length_le_domainMax h) rfl hpre ho, answerSegment, totalOf_imageSeg hp] at hb

end First
end Clauses

/-! The timeouts. -/

theorem due_stage_timeout {c : Chip} {m : Master} {i sub t : Nat} {x : Staged} (hx : stagedOf c m i sub = some x)
    (ht : x.last + segmentTimeout ≤ nowAt c t) : dueDomainStageTimeout m i sub t c = true :=
  (Option.any_eq_true ..).mpr ⟨x, hx, decide_eq_true ht⟩

theorem due_view_timeout {c : Chip} {m : Master} {i sub t : Nat} {x : View} (hx : x ∈ c.dict.views) (hfor : x.isFor m i sub = true)
    (ht : x.last + segmentTimeout ≤ nowAt c t) : dueReadViewTimeout m i sub t c = true :=
  List.any_eq_true.mpr ⟨x, hx, Bool.and_eq_true_iff.mpr ⟨hfor, decide_eq_true ht⟩⟩

/-- Settles O8: a segment by each condition that decides it, then the two timeouts. -/
theorem segmentsStageAndTimeOut : Obligations.SegmentsStageAndTimeOut := by
  unfold Obligations.SegmentsStageAndTimeOut
  refine ⟨fun s src tag p payload hp h ho hr hother => ?_, fun s src tag p off payload hp h ho => becomes_abandon hp h ho,
    fun s src tag p off payload hp h0 hmax h ho => becomes_outOfSequence hp h h0 hmax ho, fun s src tag p payload hp _ h ho hr hother => ?_,
    fun s src tag p a c payload hp h _ ho hr hs hother => ?_, fun s m i sub t x hx ht => becomes_event rfl (due_stage_timeout hx ht) rfl,
    fun s m i sub t x hx hfor ht => becomes_event rfl (due_view_timeout hx hfor ht) rfl⟩
  · exact (becomes_staged hp h (segmentPre_ready ho hr) hother).answers
      ⟨onlyAnswered_respond s (ne_peer_of_segment h) ⟨_, rfl⟩ _ _ _ _, by rw [stagedOf_put_respond, stagedOf_stage]; rfl, by simp⟩
  · exact (becomes_busy hp h (segmentPre_ready ho hr) hother).answers
      ⟨onlyAnswered_respond s (ne_peer_of_segment h) ⟨_, rfl⟩ _ _ _ _, by simp⟩
  · refine (becomes_staged hp h.1 (segmentPre_takesRun h.2 ho hr hs) hother).answers ⟨?_, by simp, by rw [stagedOf_put_respond, stagedOf_stage]; rfl⟩
    rw [getPat_of_pat (d := setPat c p { getPat s.toChip p with run := some (a, 0x200000) }) (by simp), getPat_setPat]

end Sys2Proof.Machine
end

section
/-! The mailbox and the side-band (R35 to R41). -/

namespace Sys2Proof.Machine

/-! The mailbox handshake (R35, R36). -/

/-- A host write that its port decodes is counted and has its register's effect (R307, R325). -/
theorem hostWrite_decoded {c : Chip} {p : HPort} (hd : hostDecodes c p = true) (n : Nat) (f : Chip → Chip) : hostWrite c p n true f = f (received c p n) := by
  have hd' : hostDecodes (received c p n) p = true := hd
  simp [hostWrite, hd']

/-- A frame that a command row can carry waits for its row. -/
theorem answerBad_carried {c : Chip} {p : HPort} {rq : Req} (hc : (two c.dict.mbox p).captured = some rq) (ha : answersAtOnce rq = false) :
    answerBad c p = c := by simp [answerBad, hc, ha]

@[simp] theorem two_setTwo_self {α : Type} (t : Two α) (p : HPort) (v : α) : two (setTwo t p v) p = v := by cases p <;> rfl

section Mailbox
variable {c : Chip} {p : HPort}

theorem mboxGo_idle (hs : (two c.dict.mbox p).state = .idle) (ha : answersAtOnce (parseReq (requestHalf (two c.dict.mbox p))) = false) :
    mboxGo c p = setMbox c p { two c.dict.mbox p with state := .busy, captured := some (parseReq (requestHalf (two c.dict.mbox p))), since := now c } := by
  rw [mboxGo, if_pos hs, answerBad_carried (rq := parseReq (requestHalf (two c.dict.mbox p))) (by simp [setMbox]) ha]

theorem mboxGo_notIdle (hs : (two c.dict.mbox p).state ≠ .idle) : mboxGo c p = setProtoErr c p := if_neg hs

theorem mboxAck_done (hs : (two c.dict.mbox p).state = .done) : mboxAck c p = setMbox c p { two c.dict.mbox p with state := .idle } := if_pos hs

theorem mboxAck_notDone (hs : (two c.dict.mbox p).state ≠ .done) : mboxAck c p = setProtoErr c p := if_neg hs

end Mailbox

section HostWrites
variable {s : State} {p : HPort} {c : Chip} (hp : hostPosts s.toChip p = true) (hd : hostDecodes s.toChip p = true)
include hp hd

theorem becomes_mboxGo (h : mboxGo (received s.toChip p 4) p = c) : Becomes (.mboxGo p) s c :=
  becomes_event rfl hp ((hostWrite_decoded hd 4 _).trans h)

theorem becomes_mboxAck (h : mboxAck (received s.toChip p 4) p = c) : Becomes (.mboxAck p) s c :=
  becomes_event rfl hp ((hostWrite_decoded hd 4 _).trans h)

theorem becomes_protoErrClear : Becomes (.protoErrClear p) s (setMbox (received s.toChip p 4) p { two s.dict.mbox p with protoErr := false }) :=
  becomes_event rfl hp (hostWrite_decoded hd 4 _)

end HostWrites

/-! A message on the side-band (R40). -/

section Message
variable {c : Chip} {body : Bytes}

theorem sidebandMessage_short (h : body.length < 18) : sidebandMessage c body = c := by simp [sidebandMessage, h]

theorem sidebandMessage_foreign (hv : bfld body 0 2 ≠ Config.pciVendorId.toNat) : sidebandMessage c body = c := by simp [sidebandMessage, hv]

/-- The answer of the side-band itself to a message, with a status and no payload. -/
def sidebandRefusal (c : Chip) (body : Bytes) (st : Nat) : Chip :=
  let rq := parseReq (body.drop 2)
  sidebandSend c ⟨rq.op, st, rq.tag, rq.index, rq.sub, totalOf c rq, []⟩

variable (hl : 18 ≤ body.length) (hv : bfld body 0 2 = Config.pciVendorId.toNat)
include hl hv

theorem sidebandMessage_lengthWrong (hw : lengthWrong (parseReq (body.drop 2)) ((body.drop 2).drop 16) = true) :
    sidebandMessage c body = sidebandRefusal c body 8 := by
  simp only [sidebandMessage, Nat.not_lt.mpr hl, hv, hw, sidebandRefusal, bne_self_eq_false, Bool.false_eq_true, if_false, if_true]

variable (hw : lengthWrong (parseReq (body.drop 2)) ((body.drop 2).drop 16) = false)
include hw

theorem sidebandMessage_busy (hb : c.dict.sb.outstanding.isSome = true ∨ c.sec.fw.window = true) : sidebandMessage c body = sidebandRefusal c body 6 := by
  simp only [sidebandMessage, Nat.not_lt.mpr hl, hv, hw, sidebandRefusal, Bool.or_eq_true, hb, bne_self_eq_false, Bool.false_eq_true, if_false, if_true]

theorem sidebandMessage_presented (ha : answersAtOnce (parseReq (body.drop 2)) = false) (ho : c.dict.sb.outstanding = none) (hn : c.sec.fw.window = false) :
    sidebandMessage c body = { c with dict := { c.dict with sb := { c.dict.sb with outstanding := some (parseReq (body.drop 2)), since := now c } } } := by
  simp only [sidebandMessage, Nat.not_lt.mpr hl, hv, hw, ha, ho, hn, Option.isSome_none, Bool.or_self, bne_self_eq_false, Bool.false_eq_true, if_false]

end Message

/-- SET_ENDPOINT_ID with an endpoint ID that MCTP does not reserve takes it and answers (R39). -/
theorem becomes_setEndpointId {s : State} {eid : Nat} (hu : sidebandUp s.toChip = true) (h0 : eid % 256 ≠ 0) (hf : eid % 256 ≠ 0xFF) : ∃ o,
    Becomes (.setEndpointId eid) s { s.toChip with dict := { s.dict with sb := { s.dict.sb with eid := eid % 256 } }, out := o } :=
  ⟨_, becomes_event rfl hu (by simp only [bne_iff_ne.mpr h0, bne_iff_ne.mpr hf, Bool.and_self, if_true]; rfl)⟩

/-- Settles O9: the mailbox by its state, a message by what it carries, the control messages one by one. -/
theorem presentersTakeRequests : Obligations.PresentersTakeRequests := by
  unfold Obligations.PresentersTakeRequests
  refine ⟨fun s p hp hd hs ha => becomes_mboxGo hp hd (mboxGo_idle hs ha), fun s p hp hd hs => becomes_mboxGo hp hd (mboxGo_notIdle hs),
    fun s p hp hd hs => becomes_mboxAck hp hd (mboxAck_done hs), fun s p hp hd hs => becomes_mboxAck hp hd (mboxAck_notDone hs),
    fun s p => becomes_protoErrClear, fun s body hu h => becomes_event rfl hu (sidebandMessage_short h),
    fun s body hu _ hv => becomes_event rfl hu (sidebandMessage_foreign hv), fun s body hu hl hv hw hb => becomes_event rfl hu (sidebandMessage_busy hl hv hw hb),
    fun s body hu hl hv hw => becomes_event rfl hu (sidebandMessage_lengthWrong hl hv hw),
    fun s body hu hl hv hw ha ho hn => becomes_event rfl hu (sidebandMessage_presented hl hv hw ha ho hn), fun s eid hu h0 hf => ?_,
    fun s hu => becomes_event rfl hu rfl, fun s hu => ?_, fun s hu => becomes_event rfl hu rfl, fun s hu => becomes_event rfl hu rfl⟩
  · obtain ⟨o, hb⟩ := becomes_setEndpointId hu h0 hf
    exact hb.answers ⟨by simp, _, o, rfl⟩
  · exact (becomes_event rfl hu rfl).answers ⟨_, rfl⟩

end Sys2Proof.Machine
end

section
/-! Rows that write an object, and what keeps the generations and the bumps (R34, R80). -/

namespace Sys2Proof.Machine

/-! A row that is one object's WRITE, by what its handler answers. -/

/-- The row is the WRITE of the object: when it is presented, the unit serves it by handler `h`, and `after` follows. -/
def WritesBy (row : Src → Nat → Instr) (i sub : Nat) (payload : Bytes) (h : Chip → Nat × Chip) (after : Chip → Chip) : Prop :=
  ∀ (s : State) (src : Src) (tag : Nat), presents s.toChip src (writeReq tag i sub payload) = true →
    Becomes (row src tag) s (after (serve h src (writeReq tag i sub payload) s.toChip))

section Rows
variable {row : Src → Nat → Instr} {i sub : Nat} {payload : Bytes} {h : Chip → Nat × Chip} {after : Chip → Chip} {pre : Chip → Prop}

theorem WritesBy.does {eff : Chip → Chip} (hw : WritesBy row i sub payload h after) (hh : ∀ c, pre c → h c = (0, eff c)) :
    RowDoes row i sub payload after pre eff := by
  intro s src tag ⟨⟨hp, hc⟩, hf⟩ hpre
  have hb := hw s src tag hp
  rwa [serve_handled hc hf, hh _ hpre] at hb

theorem WritesBy.turnsAway {st : Nat} (hw : WritesBy row i sub payload h after) (hh : ∀ c, pre c → h c = (st, c)) :
    RowTurnsAway row i sub payload after pre st := by
  intro s src tag ⟨⟨hp, hc⟩, hf⟩ hpre
  have hb := hw s src tag hp
  rwa [serve_handled hc hf, hh _ hpre] at hb

end Rows

section SpaceRows
variable {sp : Nat} (hsp : sp < 1024)
include hsp

theorem writesBy_spaceInvalidate : WritesBy (fun src tag => .spaceInvalidate src tag sp) (0x3000 + sp) 2 (leBytes 1 3) (spaceInvalidate sp) react :=
  fun _ _ _ hp => becomes_event rfl (by simp [hsp, hp]) rfl

theorem writesBy_spaceRetire : WritesBy (fun src tag => .spaceRetire src tag sp) (0x3000 + sp) 2 (leBytes 1 4) (spaceRetire sp) react :=
  fun _ _ _ hp => becomes_event rfl (by simp [hsp, hp]) rfl

theorem writesBy_segmentDescriptorWrite {n : Nat} (hn : n < 16) (payload : Bytes) :
    WritesBy (fun src tag => .segmentDescriptorWrite src tag sp n payload) (0x3000 + sp) (0x10 + n) payload (segWrite sp n (leNat payload)) react :=
  fun _ _ _ hp => becomes_event rfl (by simp [hsp, hn, hp]) rfl

end SpaceRows

/-! Operations that leave the Spaces' part of the unit. -/

section SpFrame
variable (c : Chip)

@[simp] theorem wpReleaseOpt_sp (b : Option (Nat × Nat)) : (wpReleaseOpt c b).sp = c.sp := by cases b <;> rfl

@[simp] theorem mirror_sp (k : MirrorKind) (n : Nat) (rq : Option (Src × Req)) : (mirror c k n rq).sp = c.sp := by
  unfold mirror
  split
  · simp [sendMirror]
  · rfl

@[simp] theorem freeFrame_sp (k : Nat) : (freeFrame c k).sp = c.sp := by
  unfold freeFrame sweepStop
  dsimp only
  split
  · split <;> rfl
  · rfl

@[simp] theorem flushCheck_sp : (flushCheck c).sp = c.sp := by unfold flushCheck; split <;> rfl

@[simp] theorem tellOther_sp (sp seg g : Nat) : (tellOther c sp seg g).sp = c.sp := by unfold tellOther; split <;> rfl

@[simp] theorem countWait_sp (t : Nat) : (countWait c t).sp = c.sp := by
  unfold countWait
  split
  · split
    · simp
    · rfl
  · rfl

@[simp] theorem releaseJob_sp (j : LapJob) (keep : Bool) : (releaseJob c j keep).sp = c.sp := by
  unfold releaseJob
  refine (foldl_keeps (f := fun c (b : Nat × Nat) => wpRelease c b.1) Chip.sp (fun _ _ => rfl) _ _).trans ?_
  split <;> rfl

@[simp] theorem tableServe_sp (t : Nat) : (tableServe c t).sp = c.sp := by
  unfold tableServe
  split
  · simp
  · rfl

@[simp] theorem unbind_sp (o : Owner) : (unbind c o).sp = c.sp := rfl

@[simp] theorem leaveChan_sp (o : Owner) : (leaveChan c o).sp = c.sp := by
  cases o with
  | node => exact modNode_sp ..
  | _ => rfl

@[simp] theorem markRedo_sp (o : Owner) : (markRedo c o).sp = c.sp := by
  cases o with
  | node => simp [markRedo]
  | _ => rfl

end SpFrame

/-! The bumps and the generations. -/

/-- The bumps, and the generation of every Space: what R80 moves. -/
def genPart (c : Chip) : List Bump × (Nat → Nat) := (c.sp.bumps, fun sp => (getSpace c sp).gen)

theorem genPart_of_sp {c d : Chip} (h : c.sp = d.sp) : genPart c = genPart d := by simp only [genPart, getSpace, h]

theorem gen_of_genPart {c d : Chip} (h : genPart c = genPart d) (sp : Nat) : (getSpace c sp).gen = (getSpace d sp).gen :=
  congrFun (congrArg Prod.snd h) sp

theorem bumps_of_genPart {c d : Chip} (h : genPart c = genPart d) : c.sp.bumps = d.sp.bumps := congrArg Prod.fst h

/-- A change of one Space leaves the generations of the others. -/
theorem gen_modSpace_ne (c : Chip) (f : Space → Space) {sp sp' : Nat} (h : sp' ≠ sp) : (getSpace (modSpace c sp f) sp').gen = (getSpace c sp').gen := by
  rw [modSpace, getSpace_setSpace_ne _ _ _ h]

/-- A change of a Space that leaves its generation leaves every bump and generation. -/
theorem genPart_modSpace (c : Chip) (sp : Nat) {f : Space → Space} (hf : ∀ x, (f x).gen = x.gen) : genPart (modSpace c sp f) = genPart c := by
  refine Prod.ext rfl (funext fun sp' => ?_)
  by_cases h : sp' = sp
  · subst h
    exact (congrArg Space.gen (getSpace_setSpace c sp' _)).trans (hf _)
  · exact gen_modSpace_ne c f h

/-! Aborts, withdrawals, installs and retranslations leave the bumps and the generations: they touch drain counters, segments and tables of a Space alone. -/

section GenPart
variable (c : Chip)

theorem genPart_drainDec (sp g : Nat) : genPart (drainDec c sp g) = genPart c := genPart_modSpace c sp fun _ => rfl

theorem genPart_discardSd (i : Nat) : genPart (discardSd c i) = genPart c := by
  unfold discardSd
  split
  · rfl
  · rename_i sd _
    have hdrain : ∀ d : Chip, d.sp = c.sp → genPart (drainDec d sd.space sd.gen) = genPart c := fun d hd =>
      (genPart_drainDec d sd.space sd.gen).trans (genPart_of_sp hd)
    dsimp only
    split
    · exact (genPart_of_sp (modNode_sp ..)).trans (hdrain _ (by simp))
    · exact hdrain _ (by simp)

theorem genPart_settleSd (i : Nat) : genPart (settleSd c i) = genPart c := by
  unfold settleSd
  split
  · split
    · exact genPart_discardSd c i
    · rfl
  · rfl

theorem genPart_truncateSd (i : Nat) : genPart (truncateSd c i) = genPart c := genPart_settleSd _ i

theorem genPart_dropCut (q e n : Nat) : genPart (dropCut c q e n) = genPart c := by
  unfold dropCut
  dsimp only
  split
  · rfl
  · refine (genPart_of_sp (modNode_sp ..)).trans ?_
    have hregions (a b : Option (Nat × Nat)) (d : Chip) : genPart (wpReleaseOpt (wpReleaseOpt d a) b) = genPart d := genPart_of_sp (by simp)
    split
    · split
      · exact (genPart_discardSd ..).trans (hregions _ _ _)
      · exact hregions _ _ _
    · exact hregions _ _ _

theorem genPart_abortOwner (o : Owner) : genPart (abortOwner c o) = genPart c := by
  unfold abortOwner
  refine (foldl_keeps genPart genPart_truncateSd _ _).trans ?_
  cases o with
  | node q e n => exact genPart_dropCut (unbind c (.node q e n)) q e n
  | _ => rfl

theorem genPart_dropFrame (k : Nat) : genPart (dropFrame c k) = genPart c := by
  have habort (d : Chip) (ids : List Nat) : genPart (ids.foldl (fun c i => abortOwner c (.lap i)) d) = genPart d :=
    foldl_keeps genPart (fun d i => genPart_abortOwner d (.lap i)) ids d
  unfold dropFrame
  dsimp only
  split
  · exact (genPart_of_sp (freeFrame_sp ..)).trans (habort _ _)
  · exact habort _ _

theorem genPart_abortGrain (t : Nat) (g : OpenGrain) : genPart (abortGrain c t g) = genPart c :=
  (genPart_dropFrame _ _).trans (genPart_of_sp (tellOther_sp ..))

theorem genPart_manifestFail (reason : Nat) : genPart (manifestFail c reason) = genPart c := by
  unfold manifestFail
  split
  · rfl
  · rename_i j _
    have hopen (l : List OpenGrain) (t : Nat) : genPart (l.foldl (fun c g => abortGrain c t g) (countWait c t)) = genPart c :=
      (foldl_keeps genPart (fun d g => genPart_abortGrain d t g) l _).trans (genPart_of_sp (countWait_sp c t))
    refine Eq.trans (genPart_of_sp ?_) (hopen (if c.lap.stat.state = 4 then j.left else j.opened) j.post.table)
    simp [setApply, setJob]

theorem genPart_withdrawTable (t : Nat) : genPart (withdrawTable c t).1 = genPart c := by
  unfold withdrawTable
  split
  · rfl
  · have hfail (b : Bool) : genPart (if b then manifestFail c 8 else c) = genPart c := by
      cases b
      · rfl
      · exact genPart_manifestFail c 8
    have hprior (d : Chip) (l : List OpenGrain) (sp : Nat) : genPart (l.foldl (fun c g => clearPrior c sp g) d) = genPart d :=
      foldl_keeps (f := fun c g => clearPrior c sp g) genPart (fun _ _ => rfl) l d
    have hfree (d : Chip) (p : Nat × Nat) : genPart (if p.2 = 0 then d else spFree d p.1) = genPart d := by split <;> rfl
    exact (genPart_of_sp (mirror_sp ..)).trans ((hfree _ _).trans ((hprior _ _ _).trans (hfail _)))

theorem genPart_withdrawTiered (sp seg : Nat) : genPart (withdrawTiered c sp seg).1 = genPart c :=
  (genPart_of_sp (flushCheck_sp _)).trans (foldl_keeps (f := fun c (x : Nat × SetDesc) => abortOwner c x.2.owner) genPart (fun d x => genPart_abortOwner d x.2.owner) _ _)

theorem genPart_withdrawSeg (sp n : Nat) : genPart (withdrawSeg c sp n).1 = genPart c := by
  unfold withdrawSeg
  dsimp only
  split
  · exact (genPart_withdrawTiered ..).trans (genPart_withdrawTable ..)
  · split
    · exact genPart_modSpace c sp fun _ => rfl
    · rfl

theorem genPart_installTab (sp n : Nat) : genPart (installTab c sp n) = genPart c :=
  genPart_modSpace c sp fun x => by split <;> rfl

theorem genPart_putSeg (sp n : Nat) (s : Seg) : genPart (putSeg c sp n s) = genPart c := genPart_modSpace c sp fun _ => rfl

theorem genPart_installSeg (sp n g : Nat) (s : Seg) : genPart (installSeg c sp n g s) = genPart c := by
  refine (genPart_of_sp (tableServe_sp ..)).trans ((genPart_putSeg ..).trans ?_)
  split
  · exact genPart_installTab c sp n
  · split <;> rfl

theorem genPart_applyChange (sp g : Nat) (m : MapChange) : genPart (applyChange c sp g m).1 = genPart c := by
  cases m with
  | none => rfl
  | seg n s => exact (genPart_installSeg ..).trans (genPart_withdrawSeg c sp n)
  | clear =>
    refine List.foldlRecOn (motive := fun r : Chip × List Nat × List Nat => genPart r.1 = genPart c) _ _ rfl fun r hr n _ => ?_
    refine Eq.trans ?_ ((genPart_withdrawSeg r.1 sp n).trans hr)
    dsimp only
    split
    · rfl
    · exact genPart_putSeg ..

theorem genPart_recutSd (i : Nat) : genPart (recutSd c i) = genPart c := by
  unfold recutSd
  split
  · split
    · exact (genPart_truncateSd ..).trans (genPart_of_sp (markRedo_sp ..))
    · rfl
  · rfl

theorem genPart_retranslate (sp : Nat) (ok : Nat → Bool) : genPart (retranslate c sp ok) = genPart c :=
  (foldl_keeps genPart genPart_recutSd _ _).trans
    (foldl_keeps (f := fun c (x : Nat × Nat × Nat) => dropCut c x.1 x.2.1 x.2.2) genPart (fun d x => genPart_dropCut d x.1 x.2.1 x.2.2) _ _)

theorem genPart_clearOldest (sp : Nat) : genPart (clearOldest c sp) = genPart c := by
  unfold clearOldest
  split
  · exact genPart_retranslate c sp _
  · rfl

end GenPart

/-! A bump (R80). -/

/-- A bump that changes in the list changes no Space. -/
theorem gen_modBump (c : Chip) (i : Nat) (f : Bump → Bump) (sp : Nat) : (getSpace (modBump c i f) sp).gen = (getSpace c sp).gen := rfl

/-- What a hard bump retranslates leaves the generations. -/
theorem genPart_retranslate_if (c : Chip) (hard : Bool) (sp : Nat) (ok : Nat → Bool) :
    genPart (if hard then retranslate c sp ok else c) = genPart c := by
  split
  · exact genPart_retranslate c sp ok
  · rfl

/-- A bump that takes effect in a generation puts its own Space in it. -/
theorem gen_takeEffect (c : Chip) (b : Bump) (g : Nat) : (getSpace (takeEffect c b g) b.space).gen = g := by
  unfold takeEffect
  rw [gen_modBump]
  refine (gen_of_genPart (genPart_retranslate_if _ b.hard b.space _) _).trans ?_
  rw [modSpace, getSpace_setSpace]

theorem gen_takeEffect_ne (c : Chip) (b : Bump) (g : Nat) {sp : Nat} (h : sp ≠ b.space) : (getSpace (takeEffect c b g) sp).gen = (getSpace c sp).gen := by
  unfold takeEffect
  rw [gen_modBump]
  refine (gen_of_genPart (genPart_retranslate_if _ b.hard b.space _) _).trans ?_
  rw [gen_modSpace_ne _ _ h]
  exact gen_of_genPart (genPart_applyChange c b.space g b.change) sp

section ApplyBump
variable {c : Chip} {b : Bump} {i : Nat} (hb : getBump c i = some b)
include hb

theorem applyBump_eq : applyBump c i = clearOldest (takeEffect c b (genNext (getSpace c b.space).gen)) b.space := by simp [applyBump, hb]

theorem gen_applyBump : (getSpace (applyBump c i) b.space).gen = genNext (getSpace c b.space).gen := by
  rw [applyBump_eq hb]
  exact (gen_of_genPart (genPart_clearOldest ..) _).trans (gen_takeEffect ..)

theorem gen_applyBump_ne {sp : Nat} (h : sp ≠ b.space) : (getSpace (applyBump c i) sp).gen = (getSpace c sp).gen := by
  rw [applyBump_eq hb]
  exact (gen_of_genPart (genPart_clearOldest ..) _).trans (gen_takeEffect_ne _ _ _ h)

end ApplyBump

/-! A bump of its own. -/

/-- Every bump's number lies below the next one. -/
theorem id_lt_freshBump {c : Chip} {b : Bump} (hb : b ∈ c.sp.bumps) : b.id < freshBump c := by
  have hmono (l : List Bump) (m : Nat) : m ≤ l.foldl (fun m b => max m (b.id + 1)) m ∧ ∀ x ∈ l, x.id < l.foldl (fun m b => max m (b.id + 1)) m := by
    induction l generalizing m with
    | nil => simp
    | cons y l ih =>
      obtain ⟨hm, hl⟩ := ih (max m (y.id + 1))
      simp only [List.foldl_cons, List.mem_cons, forall_eq_or_imp]
      exact ⟨by omega, by omega, hl⟩
  exact (hmono c.sp.bumps c.sp.nextBump).2 b hb

/-- The bump that a request makes for itself. -/
def ownBump (c : Chip) (sp : Nat) (hard : Bool) (by_ : BumpBy) (m : MapChange) : Bump :=
  ⟨freshBump c, sp, hard, [by_], m, .waiting, 0, 0, now c, false, [], []⟩

/-- A unit with the bump that a request makes for itself in its list. -/
def withOwnBump (c : Chip) (sp : Nat) (hard : Bool) (by_ : BumpBy) (m : MapChange) : Chip :=
  { c with sp := { c.sp with bumps := c.sp.bumps ++ [ownBump c sp hard by_ m], nextBump := freshBump c + 1 } }

section OwnBump
variable {c : Chip} {sp : Nat} {hard : Bool} {by_ : BumpBy} {m : MapChange}

/-- The list finds the new bump by its number. -/
theorem getBump_withOwnBump : getBump (withOwnBump c sp hard by_ m) (freshBump c) = some (ownBump c sp hard by_ m) := by
  have hold : c.sp.bumps.find? (·.id == freshBump c) = none := by
    rw [List.find?_eq_none]
    intro b hb
    have hlt := id_lt_freshBump hb
    simp
    omega
  simp [getBump, withOwnBump, ownBump, hold]

/-- A bump does not wait for itself. -/
theorem bumpBlocked_withOwnBump : bumpBlocked (withOwnBump c sp hard by_ m) sp (freshBump c) = bumpBlocked c sp (freshBump c) := by
  simp [bumpBlocked, withOwnBump, ownBump, getSpace]

theorem requestBump_own (hs : shareBump c sp hard by_ = none) : requestBump c sp hard by_ m = newBump c sp hard by_ m := by simp [requestBump, hs]

theorem newBump_asks (hf : followsLead c = true) : genPart (newBump c sp hard by_ m) = genPart (withOwnBump c sp hard by_ m) :=
  (congrArg genPart (if_pos hf)).trans rfl

section Leading
variable (hf : followsLead c = false)
include hf

theorem newBump_waits (hb : bumpBlocked c sp (freshBump c) = true) : genPart (newBump c sp hard by_ m) = genPart (withOwnBump c sp hard by_ m) := by
  rw [← bumpBlocked_withOwnBump (hard := hard) (by_ := by_) (m := m)] at hb
  refine (congrArg genPart ((if_neg (ne_true_of_eq_false hf)).trans (if_pos hb))).trans ((genPart_clearOldest ..).trans ?_)
  split
  · exact genPart_modSpace (f := fun x => { x with wStat := 1 }) (withOwnBump c sp hard by_ m) sp fun _ => rfl
  · rfl

theorem newBump_acts (hb : bumpBlocked c sp (freshBump c) = false) :
    genPart (newBump c sp hard by_ m) = genPart (applyBump (withOwnBump c sp hard by_ m) (freshBump c)) := by
  rw [← bumpBlocked_withOwnBump (hard := hard) (by_ := by_) (m := m)] at hb
  refine (congrArg genPart ((if_neg (ne_true_of_eq_false hf)).trans (if_neg (ne_true_of_eq_false hb)))).trans ?_
  split
  · rfl
  · exact genPart_of_sp (mirror_sp ..)

end Leading

/-- A bump of one Space leaves the generations of the others. -/
theorem gen_newBump_ne {sp' : Nat} (h : sp' ≠ sp) : (getSpace (newBump c sp hard by_ m) sp').gen = (getSpace c sp').gen := by
  cases hf : followsLead c with
  | true => exact gen_of_genPart (newBump_asks hf) sp'
  | false =>
    cases hb : bumpBlocked c sp (freshBump c) with
    | true => exact gen_of_genPart (newBump_waits hf hb) sp'
    | false => exact (gen_of_genPart (newBump_acts hf hb) sp').trans (gen_applyBump_ne getBump_withOwnBump h)

end OwnBump

/-! What the Space rows' handlers answer (R54, R56, R58). -/

section Handlers
variable {c : Chip} {sp : Nat}

theorem spaceInvalidate_live (hs : (getSpace c sp).state = 2) (hw : withdrawing c sp = false) :
    spaceInvalidate sp c = (0, requestBump c sp true .software .none) := by simp [spaceInvalidate, hs, hw]

theorem spaceInvalidate_notLive (hs : (getSpace c sp).state ≠ 2) : spaceInvalidate sp c = (7, c) := by simp [spaceInvalidate, hs]

theorem spaceInvalidate_withdrawing (hs : (getSpace c sp).state = 2) (hw : withdrawing c sp = true) : spaceInvalidate sp c = (6, c) := by
  simp [spaceInvalidate, hs, hw]

theorem spaceRetire_live (h0 : sp ≠ 0) (hs : (getSpace c sp).state = 2) (hb : spaceBound c sp = false) (hw : withdrawing c sp = false) :
    spaceRetire sp c = (0, requestBump (setSpace c sp { getSpace c sp with state := 3 }) sp true .software .clear) := by
  simp [spaceRetire, setSpState, modSpace, h0, hs, hb, hw]

theorem spaceRetire_refused (h : sp = 0 ∨ (getSpace c sp).state ≠ 2 ∨ spaceBound c sp = true) : spaceRetire sp c = (7, c) := by
  rcases h with h | h | h <;> simp [spaceRetire, h]

/-- A segment of a LIVE Space is installed by a hard bump (R80). -/
theorem segWrite_live {n v : Nat} (hk : (segOf v).kind ≤ 1) (hst : segStatus c sp n (segOf v) = 0) (hs : (getSpace c sp).state = 2) :
    segWrite sp n v c = (0, requestBump c sp true .software (.seg n (segOf v))) := by
  have h2 : (segOf v).kind ≠ 2 := by omega
  have h3 : (segOf v).kind ≠ 3 := by omega
  simp [segWrite, segTake, hst, hs, h2, h3]

end Handlers

/-- Settles O15: a bump of its own by what it must wait for, then each withdrawal by what its handler answers. -/
theorem bumpsRaiseTheGeneration : Obligations.BumpsRaiseTheGeneration := by
  unfold Obligations.BumpsRaiseTheGeneration
  refine ⟨fun c sp hard by_ m hs => ?_, fun sp hsp => (writesBy_spaceInvalidate hsp).does fun c h => spaceInvalidate_live h.1 h.2,
    fun sp hsp => (writesBy_spaceInvalidate hsp).turnsAway fun c => spaceInvalidate_notLive,
    fun sp hsp => (writesBy_spaceInvalidate hsp).turnsAway fun c h => spaceInvalidate_withdrawing h.1 h.2,
    fun sp hsp h0 => (writesBy_spaceRetire hsp).does fun c ⟨hs, hb, hw⟩ => spaceRetire_live h0 hs hb hw,
    fun sp hsp => (writesBy_spaceRetire hsp).turnsAway fun c => spaceRetire_refused,
    fun sp n payload hsp hn hk => (writesBy_segmentDescriptorWrite hsp hn payload).does fun c h => segWrite_live hk h.1 h.2⟩
  rw [requestBump_own hs]
  refine ⟨fun hf hb => ?_, fun hf hb => ⟨?_, ?_⟩, fun hf => ?_, fun sp' => gen_newBump_ne⟩
  · exact (gen_of_genPart (newBump_acts hf hb) sp).trans (gen_applyBump getBump_withOwnBump)
  · exact gen_of_genPart (newBump_waits hf hb) sp
  · refine ⟨ownBump c sp hard by_ m, ?_, rfl, rfl, rfl, rfl⟩
    rw [bumps_of_genPart (newBump_waits hf hb)]
    simp [withOwnBump]
  · exact gen_of_genPart (newBump_asks hf) sp

end Sys2Proof.Machine
end

section
/-! How a piece of an access translates (R59, R60, R62, R70, R73, R75). -/

namespace Sys2Proof.Machine

/-! What a look-up finds in a segment. -/

section Look
variable {c : Chip} {sp va n : Nat} {s : Seg} (hf : findSeg c sp va = some (n, s)) (len : Nat) (h : Option (Nat × Nat))
include hf

/-- Whatever the kind of the segment, the look-up names it. -/
theorem look_segment : ∃ k, look c sp va len h = some k ∧ k.n = n ∧ k.s = s := by
  simp only [look, hf]
  split
  · split <;> exact ⟨_, rfl, rfl, rfl⟩
  · split <;> exact ⟨_, rfl, rfl, rfl⟩

theorem look_fixed (hk : s.kind = 1) : look c sp va len h = some ⟨n, s, va - s.start, min len (s.len - (va - s.start)), none, []⟩ := by
  simp [look, hf, hk]

theorem look_faceted {t : FacetTab} {k ge : Nat} {f : Facet} (hk : s.kind = 2) (ht : tget (getSpace c sp).tabs n = some t)
    (hg : findFacet t s.len ((va - s.start) / 4096) = some (k, f, ge)) : ∃ l ls, look c sp va len h = some ⟨n, s, va - s.start, l, some (k, f), ls⟩ := by
  simp only [look, hf, hk, ht, hg, if_true, Option.bind_some, Option.map_some]
  exact ⟨_, _, rfl⟩

end Look

/-- A Fixed segment has no table to lose in a split (R294). -/
theorem lostTable_fixed (c : Chip) {s : Seg} (hk : s.kind = 1) : lostTable c s = false := by simp [lostTable, hk]

/-! The piece, by what the look-up finds. -/

section CutPiece
variable {c : Chip} {x : CutCtx} {va : Nat} (len lg : Nat) (h : Option (Nat × Nat)) (hd : x.direct = false)
include hd

theorem cutPiece_unmapped (hu : va ≥ 2 ^ 56 ∨ findSeg c x.sp va = none) : cutPiece c x va len lg h = (.fault 1 0xFF, h, c) := by
  rw [cutPiece, if_neg (ne_true_of_eq_false hd)]
  split
  · rfl
  · rename_i hva
    simp [look, hu.resolve_left hva]

variable (hva : va < 2 ^ 56) {n : Nat} {s : Seg} (hf : findSeg c x.sp va = some (n, s))
include hva hf

/-- In ROUGH only Fixed segments translate (R73). -/
theorem cutPiece_rough (hl : lostTable c s = false) (hm : c.mode = .rough) (hk : s.kind ≠ 1) : cutPiece c x va len lg h = (.fault 9 n, h, c) := by
  obtain ⟨k, hlook, rfl, rfl⟩ := look_segment hf len h
  rw [cutPiece, if_neg (ne_true_of_eq_false hd), if_neg (Nat.not_le.mpr hva), hlook]
  simp [hl, hm, hk]

/-- A Fixed segment adds the offset to its TARGET (R59). -/
theorem cutPiece_fixed (hk : s.kind = 1) : cutPiece c x va len lg h =
    (placeTarget c x n s.cls (s.target + (va - s.start)) s.portB s.ns (min len (s.len - (va - s.start))) lg, h, c) := by
  rw [cutPiece, if_neg (ne_true_of_eq_false hd), if_neg (Nat.not_le.mpr hva), look_fixed hf len h hk]
  simp [lostTable_fixed c hk, hk]

theorem cutPiece_absent {t : FacetTab} {k ge : Nat} {f : Facet} (hl : lostTable c s = false) (hm : c.mode ≠ .rough) (hk : s.kind = 2)
    (ht : tget (getSpace c x.sp).tabs n = some t) (hg : findFacet t s.len ((va - s.start) / 4096) = some (k, f, ge)) (hc : f.cls = 0) :
    cutPiece c x va len lg h = (if s.faultWait then .wait 2 n (.absent n k) else .fault 2 n, h, c) := by
  obtain ⟨l, ls, hlook⟩ := look_faceted hf len h hk ht hg
  rw [cutPiece, if_neg (ne_true_of_eq_false hd), if_neg (Nat.not_le.mpr hva), hlook]
  simp [hl, hm, hk, hc]

end CutPiece

/-! Where an address of each class lies (R59, R60, R69, R76). -/

section PlaceTarget
variable (c : Chip) (x : CutCtx) (seg a len lg : Nat) (portB ns : Bool)

theorem placeTarget_own (h : bits a 39 1 = unitNo c) : placeTarget c x seg 1 a portB ns len lg = .entry ⟨0, false, a, len, lg, []⟩ := by
  simp only [unitNo] at h
  simp [placeTarget, hbmRoute, h]

theorem placeTarget_other (h : bits a 39 1 ≠ unitNo c) (hb : bridgeUp c = true) :
    placeTarget c x seg 1 a portB ns len lg = .entry ⟨1, false, a, len, lg, []⟩ := by
  simp only [unitNo] at h
  simp [placeTarget, hbmRoute, h, hb]

theorem placeTarget_lost (h : bits a 39 1 ≠ unitNo c) (hb : bridgeUp c = false) : placeTarget c x seg 1 a portB ns len lg = .fault 1 0xFF := by
  simp only [unitNo] at h
  simp [placeTarget, hbmRoute, h, hb]

theorem placeTarget_port : placeTarget c x seg 2 a portB ns len lg = .entry ⟨if portB then 4 else 3, false, a, len, lg, nsFrom ns lg⟩ := rfl

/-- HOST_SVA without a PASID cannot translate (R76). -/
theorem placeTarget_noPasid (h : svaEn c x.sp = false) : placeTarget c x seg 3 a portB ns len lg = .fault 7 seg := by simp [placeTarget, h]

theorem placeTarget_pool : placeTarget c x seg 4 a portB ns len lg = .entry ⟨4, false, a, len, lg, nsFrom ns lg⟩ := rfl

theorem placeTarget_peer : placeTarget c x seg 5 a portB ns len lg = .entry ⟨7, false, a, len, lg, []⟩ := rfl

theorem placeTarget_cluster : placeTarget c x seg 6 a portB ns len lg = .entry ⟨2, false, a, len, lg, []⟩ := rfl

end PlaceTarget

/-- Settles O18: the look-up decides the piece; a Fixed segment's class decides the entry. -/
theorem translationFollowsTheSegment : Obligations.TranslationFollowsTheSegment := by
  unfold Obligations.TranslationFollowsTheSegment
  refine ⟨fun c x va len lg h hd hu => cutPiece_unmapped len lg h hd hu, fun c x va len lg n s h hd hva hf hl hm hk => cutPiece_rough len lg h hd hva hf hl hm hk,
    fun c x va len lg n s h hd hva hf hk => ?_, fun c x va len lg n k ge s t f h hd hva hf hl hm hk ht hg hc => cutPiece_absent len lg h hd hva hf hl hm hk ht hg hc⟩
  rw [cutPiece_fixed len lg h hd hva hf hk]
  refine ⟨fun hc ho => ?_, fun hc ho hb => ?_, fun hc ho hb => ?_, fun hc => ?_, fun hc hn => ?_, fun hc => ?_, fun hc => ?_, fun hc => ?_⟩ <;> rw [hc]
  · rw [placeTarget_own _ _ _ _ _ _ _ _ ho]
  · rw [placeTarget_other _ _ _ _ _ _ _ _ ho hb]
  · rw [placeTarget_lost _ _ _ _ _ _ _ _ ho hb]
  · rw [placeTarget_port]
  · rw [placeTarget_noPasid _ _ _ _ _ _ _ _ hn]
  · rw [placeTarget_pool]
  · rw [placeTarget_peer]
  · rw [placeTarget_cluster]

end Sys2Proof.Machine
end

section
/-! An UNUSED range without bytes overlaps nothing (R57, R58). -/

namespace Sys2Proof.Machine

/-- Space 5 BUILDING, with a Fixed segment of two granules at START 0 in slot 3. -/
def unitWithFixedSegment : Chip :=
  setSpace Chip.reset 5 { Space.reset 5 with state := 1, segs := [(3, { Seg.reset with kind := 1, cls := 2, len := 8192 })] }

/-- An UNUSED descriptor whose START lies inside that segment and whose LENGTH is 0. -/
def unusedInside : Seg := { Seg.reset with start := 4096 }

/-- The range of LENGTH 0 shares no byte with the segment around its START: the write is accepted. -/
theorem segStatus_unusedInside : segStatus unitWithFixedSegment 5 0 unusedInside = 0 := by decide

/-- Refutes O14: its overlap clause asks for RANGE wherever START lies below the other segment's end and that segment's START below START + LENGTH, also for a range of
LENGTH 0, which an UNUSED descriptor may have. Such a range is empty and R58 refuses it for no overlap: the write of `unusedInside` is accepted. -/
theorem not_spacesAreBuiltAndGoLive : ¬ Obligations.SpacesAreBuiltAndGoLive := by
  unfold Obligations.SpacesAreBuiltAndGoLive
  rintro ⟨-, -, -, -, -, -, -, -, hstatus⟩
  obtain ⟨-, -, hoverlap, -⟩ := hstatus unitWithFixedSegment 5 0 unusedInside
  have hrange : segStatus unitWithFixedSegment 5 0 unusedInside = 5 :=
    hoverlap 3 { Seg.reset with kind := 1, cls := 2, len := 8192 } (by decide) (by decide) (by decide) (by decide) (by decide)
  simp [segStatus_unusedInside] at hrange

end Sys2Proof.Machine
end

section
/-! The Cutters (R21, R66, R68, R70 to R72, R74, R112). -/

namespace Sys2Proof.Machine

/-- A due command of a block becomes its effect while the block runs. -/
theorem becomesOn_event {b : Nat} {i : Instr} {s : State} {n : String} {d : Bool} {c c' : Chip} (he : exec i s = eventOn b n d c s) (h : d = true)
    (hc : c = c') : BecomesOn b i s c' :=
  fun hb => (he.trans (eventOn_due hb h c)).trans (congrArg _ (congrArg (put s) hc))

/-! The first stroke of a cut. -/

section CutLo
variable (c : Chip)

@[simp] theorem askLine_xf (k ln : Nat) : (askLine c k ln).xf = c.xf := by unfold askLine; split <;> rfl

@[simp] theorem readSegs_xf (k sp : Nat) : (readSegs c k sp).xf = c.xf := by
  refine foldl_keeps Chip.xf (fun d ln => ?_) _ c
  split
  · rfl
  · exact askLine_xf d k ln

theorem cutFrom_of_xf {c d : Chip} (h : c.xf = d.xf) (x : NodeRt) : cutFrom c x = cutFrom d x := by simp only [cutFrom, getSd, h]

theorem cutLo_of_xf {c d : Chip} (h : c.xf = d.xf) (x : NodeRt) : cutLo c x = cutLo d x := by simp only [cutLo, cutFrom_of_xf h, getSd, h]

/-- A new set descriptor that begins at the first stroke not yet cut leaves that stroke the first. -/
theorem cutFrom_newSd (o : Owner) (sp gen body : Nat) (x : NodeRt) : cutFrom (newSd c o sp gen body (cutFrom c x)).2 x = cutFrom c x := by
  have hsd (i : Nat) : getSd (newSd c o sp gen body (cutFrom c x)).2 i = tget (tset c.xf.sds c.xf.nextSd
      ⟨c.xf.nextSd, o, sp, gen, body, cutFrom c x, cutFrom c x, cutFrom c x, 0, Region.empty, Region.empty⟩) i := rfl
  cases hlast : x.sds.getLast? with
  | none => simp [cutFrom, hlast]
  | some i =>
    by_cases hi : i = c.xf.nextSd
    · have hnew : getSd (newSd c o sp gen body (cutFrom c x)).2 i = some
          ⟨c.xf.nextSd, o, sp, gen, body, cutFrom c x, cutFrom c x, cutFrom c x, 0, Region.empty, Region.empty⟩ := by rw [hsd, hi, tget_tset_self]
      rw [cutFrom, hlast, Option.bind_some, hnew]
      rfl
    · have hold : getSd (newSd c o sp gen body (cutFrom c x)).2 i = getSd c i := by rw [hsd, tget_tset_ne _ _ hi]; rfl
      rw [cutFrom, hlast, Option.bind_some, hold]
      simp [cutFrom, hlast]

/-- The set descriptor that a cut opens leaves the first stroke of the cut. -/
theorem cutLo_openCut (l : Launch) (n : Nat) (x : NodeRt) : cutLo (openCut c l n x).2 x = cutLo c x := by
  unfold openCut
  split
  · rfl
  · rename_i hc
    refine (cutLo_of_xf (modNode_xf ..) x).trans ?_
    simp only [cutLo, hc]
    exact cutFrom_newSd ..

end CutLo

/-! A grant (R66). -/

section Grant
variable {c : Chip} {k q e n : Nat} {side : Side} {l : Launch} {x : NodeRt} (hl : getLaunch c q e = some l) (hx : getNode l n = some x)
include hl hx

theorem dueGrant_direct (hk : nextKey c.sp.jobPtr (waitingJobs c) = some (jobKey q e n side)) (hr : rotate (c.sp.cutPtr % 16) 16 (cutterIdle c) = some k)
    (hi : indexedSide x.body side = false) : dueGrant k q e n side [] c = true := by
  simp [dueGrant, hl, hx, hk, hr, hi]

/-- The unit once a side is granted: both pointers have passed it, and the context has passed its switch point. -/
abbrev granted (c : Chip) (k q e n : Nat) (side : Side) : Chip :=
  passSwitch { c with sp := { c.sp with cutPtr := (k + 1) % 16, jobPtr := jobKey q e n side + 1 } } q e

/-- An index list that is not whole in one Fixed segment of HBM or CLUSTER (R112). -/
theorem grantCut_strayList {idx : List Nat} (hi : indexedSide x.body side = true) (hh : idxHome (granted c k q e n side) l.space x.body = false) :
    grantCut k q e n side idx c = faultEnd (granted c k q e n side) q e n 1 (dIdxList x.body) 0xFF := by
  simp only [grantCut, hl, hx, hi, hh, Option.bind_some, Option.map_some, Bool.not_false, Bool.and_self, if_true]

theorem grantCut_direct (hi : indexedSide x.body side = false) : grantCut k q e n side [] c =
    (let o := openCut (granted c k q e n side) l n x
     let lo := (strokeSpan x.body side (cutLo (granted c k q e n side) x)).1
     runJob (if sideScratch x.hdr side then o.2 else readSegs o.2 k l.space) k
       ⟨q, e, n, side, o.1, x.redo, lo, lo / elemUnit x.body side, lo / elemUnit x.body side, [], [], [], [], none, [], false, [], .run, 0, 0, false⟩) := by
  have hlo : cutLo (if sideScratch x.hdr side then (openCut (granted c k q e n side) l n x).2
      else readSegs (openCut (granted c k q e n side) l n x).2 k l.space) x = cutLo (granted c k q e n side) x := by
    split
    · exact cutLo_openCut ..
    · exact (cutLo_of_xf (readSegs_xf ..) x).trans (cutLo_openCut ..)
  simp only [grantCut, hl, hx, hi, hlo, Option.bind_some, Option.map_some, Bool.false_and, Bool.false_eq_true, if_false]

end Grant

/-! The facet cache (R71, R72). -/

@[simp] theorem cacheWays_setWays (c : Chip) (s : Nat) (ws : List (Nat × Nat)) : cacheWays (setWays c s ws) s = ws := tgetD_tput_self _ _ _ _

/-- A line that enters the cache is in it. -/
theorem cacheHas_cacheFill (c : Chip) (ln : Nat) : cacheHas (cacheFill c ln) ln = true := by
  unfold cacheFill
  split
  next hhas =>
    obtain ⟨k, hk⟩ : ∃ k, (k, ln) ∈ cacheWays c (lineSet ln) := by simpa [cacheHas] using hhas
    simp only [cacheHas, cacheTouch, cacheWays_setWays, List.any_append, Bool.or_eq_true, List.any_eq_true]
    exact .inl ⟨(k, ln), by simp [hk], by simp⟩
  next =>
    dsimp only
    split <;> simp [cacheHas]

@[simp] theorem savedLine_sp (c : Chip) (ln : Nat) : (savedLine c ln).sp = c.sp := 
  List.foldlRecOn (motive := fun d : Chip => d.sp = c.sp) _ _ rfl fun _ hd _ _ => hd

/-- What enters the cache leaves the Cutters' jobs. -/
@[simp] theorem cacheFill_cutters (c : Chip) (ln : Nat) : (cacheFill c ln).sp.cutters = c.sp.cutters := by
  unfold cacheFill
  split
  · rfl
  · dsimp only
    split
    · rfl
    · simp [setWays, cacheDrop]

section MissReturn
variable {c : Chip} {k : Nat} (ln : Nat)

theorem missReturn_waiting {j : CutJob} (hj : tget c.sp.cutters k = some j) (hp : j.phase = .miss) : missReturn k ln c =
    runJob (cacheFill { c with sp := { c.sp with missing := c.sp.missing.filter (· != (k, ln)) } } ln) k j := by simp [missReturn, hj, hp]

theorem missReturn_idle (hj : tget c.sp.cutters k = none) : missReturn k ln c =
    cacheFill { c with sp := { c.sp with missing := c.sp.missing.filter (· != (k, ln)) } } ln := by simp [missReturn, hj]

end MissReturn

/-! The end of a side (R68, R70, R74). -/

section SideEnd
variable {c : Chip} {k : Nat} {j : CutJob} (hj : tget c.sp.cutters k = some j)
include hj

theorem sideEnd_waited (hw : j.waited = true) : sideEnd k c = switchOut c j.q j.e j.n := by simp [sideEnd, hj, hw]

theorem sideEnd_cut (hw : j.waited = false) : sideEnd k c = writeSide k j c := by simp [sideEnd, hj, hw]

end SideEnd

/-- The entries that a finished side writes: the first 65,536 (R70). -/
abbrev sideEntries (j : CutJob) : List Entry := j.entries.reverse.take 65536

/-- The end of what the entries cover, as a place in the stream. -/
abbrev sideCovered (j : CutJob) : Nat := ((sideEntries j).getLast?.map fun e => e.logical + e.len).getD j.lo

section WriteSide
variable {c : Chip} (k : Nat) {j : CutJob} {l : Launch} {x : NodeRt} (hl : getLaunch c j.q j.e = some l) (hx : getNode l j.n = some x)
include hl hx

theorem writeSide_inline (hfit : (sideEntries j).length ≤ inlineCap (sideForm x.body j.side)) : writeSide k j c =
    putSide c k j ⟨sideForm x.body j.side, firstSeg c l.space x j, sideEntries j, none⟩ (coveredHi x.body j.side (strokeCount x.body) (sideCovered j)) := by
  simp only [writeSide, hl, hx, Option.bind_some, Option.map_some, if_pos hfit]

variable (hbig : inlineCap (sideForm x.body j.side) < (sideEntries j).length)
include hbig

theorem writeSide_block {a sz : Nat} {d : Chip} (hw : wpAlloc c ((sideEntries j).length * (if sideForm x.body j.side = 1 then 8 else 16)) = some (a, sz, d)) :
    writeSide k j c = putSide (nocWrites d (hbmRoute d a) a ((sideEntries j).flatMap (entryBytes (sideForm x.body j.side)))) k j
      ⟨sideForm x.body j.side, firstSeg c l.space x j, sideEntries j, some (a, sz)⟩ (coveredHi x.body j.side (strokeCount x.body) (sideCovered j)) := by
  simp only [writeSide, hl, hx, Option.bind_some, Option.map_some, if_neg (Nat.not_le.mpr hbig), hw]

theorem writeSide_noBlock (hw : wpAlloc c ((sideEntries j).length * (if sideForm x.body j.side = 1 then 8 else 16)) = none) :
    writeSide k j c = setCut (stat c 0x7035 8 1) k { j with phase := .list } := by
  simp only [writeSide, hl, hx, Option.bind_some, Option.map_some, if_neg (Nat.not_le.mpr hbig), hw]

end WriteSide

section Due
variable {s : State} {k : Nat} {j : CutJob} {c : Chip} (hj : tget s.sp.cutters k = some j)
include hj

theorem becomes_sideCutComplete (hp : j.phase = .done) (hc : sideEnd k s.toChip = c) : BecomesOn 2 (.sideCutComplete k) s (react c) :=
  becomesOn_event rfl (by simp [hj, hp]) (congrArg react hc)

theorem becomes_cutListRetry (hp : j.phase = .list) (hc : sideEnd k s.toChip = c) : BecomesOn 2 (.cutListRetry k) s (react c) :=
  becomesOn_event rfl (by simp [hj, hp]) (congrArg react hc)

end Due

/-- Settles O19: a grant, a line that comes, and the end of a side, each by what the Cutter finds. -/
theorem cuttersCutSides : Obligations.CuttersCutSides := by
  unfold Obligations.CuttersCutSides
  refine ⟨fun s k q e n side l x hl hx hk hr hi => becomesOn_event rfl (dueGrant_direct hl hx hk hr hi) (congrArg react (grantCut_direct hl hx hi)),
    fun s k q e n side idx l x hd hl hx hi hh => becomesOn_event rfl hd (congrArg react (grantCut_strayList hl hx hi hh)),
    fun s k ln j hm hj hp => becomesOn_event rfl hm (congrArg react (missReturn_waiting ln hj hp)),
    fun s k ln hm hj => becomesOn_event rfl hm (congrArg react (missReturn_idle ln hj)), cacheHas_cacheFill,
    fun s k j hj hp hw => becomes_sideCutComplete hj hp (sideEnd_waited hj hw),
    fun s k j l x hj hp hw hl hx hfit => becomes_sideCutComplete hj hp ((sideEnd_cut hj hw).trans (writeSide_inline k hl hx hfit)),
    fun s k a sz j l x c hj hp hw hl hx hbig ha => becomes_sideCutComplete hj hp ((sideEnd_cut hj hw).trans (writeSide_block k hl hx hbig ha)),
    fun s k j l x hj hp hw hl hx hbig ha => becomes_cutListRetry hj hp ((sideEnd_cut hj hw).trans (writeSide_noBlock k hl hx hbig ha)),
    fun s k j hj hp hw => becomes_cutListRetry hj hp (sideEnd_cut hj hw)⟩

end Sys2Proof.Machine
end

section
/-! ATS, PRI and nodes switched out for a fault (R74 to R77). -/

namespace Sys2Proof.Machine

/-! ATS (R76). -/

/-- The answer to a request on its way is taken by the job that sent it. -/
theorem becomes_atsDone {s : State} {k : Nat} {j : CutJob} {r : AtsResult} {c : Chip} (hj : tget s.sp.cutters k = some j) (hp : j.phase = .ats)
    (hs : j.sent = true) (hc : atsDone k r s.toChip = c) : BecomesOn 2 (.atsTranslationCompletion k r) s (react c) := by
  have hdue : ((tget s.sp.cutters k).map fun j => j.phase == .ats && j.sent).getD false = true := by simp [hj, hp, hs]
  exact becomesOn_event rfl (Bool.or_eq_true_iff.mpr (.inl hdue)) (congrArg react ((if_pos hdue).trans hc))

section AtsDone
variable {c : Chip} {k : Nat} {j : CutJob} {l : Launch} {x : NodeRt} (hj : tget c.sp.cutters k = some j) (hl : getLaunch c j.q j.e = some l)
  (hx : getNode l j.n = some x)
include hj hl hx

theorem atsDone_failed : atsDone k .failed c = sendWaiting (faultEnd { c with sp := { c.sp with atsOut := c.sp.atsOut - 1 } } j.q j.e j.n 7
    (elemStart x.body j.side j.idx j.atsElem) (((findSeg c l.space (elemStart x.body j.side j.idx j.atsElem)).map (·.1)).getD 0xFF)) := by
  simp only [atsDone, hj, hl, hx, Option.bind_some, Option.map_some]
  rfl

theorem atsDone_permitted {pa size : Nat} {rd wr : Bool} (hperm : (if j.side = .dst then wr else rd) = true) : atsDone k (.page pa size rd wr) c =
    sendWaiting (runJob { c with sp := { c.sp with atsOut := c.sp.atsOut - 1 } } k
      { j with memo := (j.atsPage / max 4096 size * max 4096 size, max 4096 size, pa) :: j.memo }) := by
  simp only [atsDone, hj, hl, hx, Option.bind_some, Option.map_some, beq_iff_eq, hperm, if_true]

end AtsDone

/-! PRI (R77). -/

/-- The unit once a page request has been answered. -/
abbrev pageAnswered (c : Chip) (p : HPort) : Chip := { c with sp := { c.sp with priOut := setTwo c.sp.priOut p (two c.sp.priOut p - 1) } }

/-- The unit once a page request has been answered Response Failure. -/
abbrev pageRefused (c : Chip) (p : HPort) : Chip :=
  { c with sp := { c.sp with priOut := setTwo c.sp.priOut p (two c.sp.priOut p - 1), priOff := setTwo c.sp.priOff p true } }

theorem becomes_priResponse {s : State} {p : HPort} {page : Nat} {code : PriCode} {c : Chip} (ho : two s.sp.priOut p ≠ 0)
    (hc : priResponse p page code s.toChip = c) : BecomesOn 2 (.priPageResponse p page code) s (react c) :=
  becomesOn_event rfl (bne_iff_ne.mpr ho) (congrArg react hc)

section PriResponse
variable {c : Chip} {p : HPort} {page : Nat}

section Unclaimed
variable (hw : nodesWaiting c (isPageWait p page) = [])
include hw

theorem priResponse_success_unclaimed : priResponse p page .success c = sendNextPri (pageAnswered c p) p := by
  have hw' : nodesWaiting (pageAnswered c p) (isPageWait p page) = [] := hw
  simp [priResponse, hw']

theorem priResponse_failure_unclaimed : priResponse p page .failure c = sendNextPri (pageRefused c p) p := by
  have hw' : nodesWaiting (pageRefused c p) (isPageWait p page) = [] := hw
  simp [priResponse, hw']

end Unclaimed

section Claimed
variable {q e n : Nat} {r : List (Nat × Nat × Nat)} (hw : nodesWaiting c (isPageWait p page) = (q, e, n) :: r)
include hw

theorem priResponse_success : priResponse p page .success c =
    sendNextPri (modWaits (pageAnswered c p) q e n fun ws => ldel ws (isPageWait p page)) p := by
  have hw' : nodesWaiting (pageAnswered c p) (isPageWait p page) = (q, e, n) :: r := hw
  simp [priResponse, hw', pageAnswer]

theorem priResponse_failure {l : Launch} {x : NodeRt} (hl : getLaunch c q e = some l) (hx : getNode l n = some x) :
    priResponse p page .failure c = sendNextPri (faultEnd (pageRefused c p) q e n 6 x.waitDva x.waitSeg) p := by
  have hw' : nodesWaiting (pageRefused c p) (isPageWait p page) = (q, e, n) :: r := hw
  have hl' : getLaunch (pageRefused c p) q e = some l := hl
  simp [priResponse, hw', pageAnswer, hl', hx]

end Claimed
end PriResponse

/-! Restart and timeout (R74). -/

section SwitchedOut
variable {c : Chip} {q e n : Nat} {l : Launch} {x : NodeRt} (hout : x.out = true)
include hout

theorem waitsOver_iff : waitsOver c l x = true ↔ ∀ w, w ∈ x.waits → waitOver c l.space w = true := by simp [waitsOver, hout]

theorem dueFaultTimeout_unresolved {t : Nat} {w : Wait} (hl : getLaunch c q e = some l) (hx : getNode l n = some x) (hf : l.final = 0xFF)
    (ht : x.timeout ≤ nowAt c t) (hw : w ∈ x.waits) (hopen : waitOver c l.space w = false) : dueFaultTimeout q e n t c = true := by
  have hwaits : waitsOver c l x = false := Bool.eq_false_iff.mpr fun h =>
    Bool.eq_false_iff.mp hopen ((waitsOver_iff hout).mp h w hw)
  simp [dueFaultTimeout, hl, hx, hf, noFinal, hout, ht, hwaits]

end SwitchedOut

/-- A fault is recorded in its Space; a terminal one counts on source 176 (R75). -/
theorem spaceFault_fields (c : Chip) (sp cause dva node q seg : Nat) (terminal : Bool) :
    (getSpace (spaceFault c sp cause dva node q seg terminal) sp).faultCount = min 0xFFFFFFFF ((getSpace c sp).faultCount + 1)
      ∧ (spaceFault c sp cause dva node q seg terminal).toc.raised = c.toc.raised ++ (if terminal then [⟨176, sp, 1, 0⟩] else [])
      ∧ (spaceFault c sp cause dva node q seg terminal).bel = c.bel ∧ (spaceFault c sp cause dva node q seg terminal).pat = c.pat := by
  cases terminal with
  | false => simp [spaceFault, modSpace]
  | true =>
    refine ⟨?_, rfl, rfl, rfl⟩
    rw [spaceFault, if_pos rfl]
    exact congrArg Space.faultCount (getSpace_setSpace c sp _)

/-- Settles O20: the answer of ATS and of PRI by what it says, then the two ends of a node that is switched out. -/
theorem faultsAndAnswersOfTranslation : Obligations.FaultsAndAnswersOfTranslation := by
  unfold Obligations.FaultsAndAnswersOfTranslation
  refine ⟨fun s k j l x hj hp hs hl hx => becomes_atsDone hj hp hs (atsDone_failed hj hl hx),
    fun s k pa size rd wr j l x hj hp hs hl hx hperm => becomes_atsDone hj hp hs (atsDone_permitted hj hl hx hperm),
    fun s p page ho hw => becomes_priResponse ho (priResponse_success_unclaimed hw),
    fun s p page q e n r ho hw => becomes_priResponse ho (priResponse_success hw),
    fun s p page ho hw => becomes_priResponse ho (priResponse_failure_unclaimed hw),
    fun s p page q e n r l x ho hw hl hx => becomes_priResponse ho (priResponse_failure hw hl hx),
    fun s q e n l x hl hx hf hout hw => becomesOn_event rfl ?_ rfl,
    fun s q e n now w l x hl hx hf hout ht hw hopen => becomesOn_event rfl (dueFaultTimeout_unresolved hout hl hx hf ht hw hopen) (congrArg react ?_),
    spaceFault_fields⟩
  · simp [hl, hx, hf, noFinal, (waitsOver_iff hout).mpr hw]
  · have hl' : getLaunch (advance s.toChip now) q e = some l := hl
    simp [hl', hx]

end Sys2Proof.Machine
end

section
/-! The Transfer Engine's strokes (R79, R113, R114, R130, R132, R151). -/

namespace Sys2Proof.Machine

/-! Issue (R113). -/

section Issue
variable {c : Chip} {ch q e n : Nat} {sd : SetDesc}

/-- A set descriptor of a node takes no scale from Lapidary. -/
theorem lapBank_node (ho : sd.owner = .node q e n) : lapBank c ch sd = (sd, c) := by simp [lapBank, ho]

/-- The unit once a stroke of a node has been issued and its requests presented. -/
abbrev strokeOut (c : Chip) (ch q e n : Nat) (sd : SetDesc) (x : Stroke) : Chip :=
  presentAll (modChan (modNode (modSd { c with xf := { c.xf with nextStroke := x.seq + 1 } } sd.id fun y => { y with next := y.next + 1, live := y.live + 1 })
    q e n fun y => { y with next := sd.next + 1, t0 := if sd.next = 0 then c.clk.carillon + 1 else y.t0 }) ch fun y => { y with strokes := y.strokes ++ [x] })

/-- The stroke of a node that pays no pull: it goes out, and a node that is switched out leaves its channel with its last (R74). -/
theorem issueStroke_node (ho : sd.owner = .node q e n) (hp : pullCost sd sd.next = 0) : issueStroke c ch sd =
    (let d := strokeOut c ch q e n sd (freshStroke c ch sd sd.next c.xf.nextStroke 0 (issueScales c sd.body))
     settleChan (if ((getLaunch d q e).bind fun l => (getNode l n).map fun y => y.out).getD false then leaveIdle d q e n else d) ch) := by
  simp only [issueStroke, lapBank_node ho, hp, ho, if_true]
  rfl

theorem becomes_strokeIssue {s : State} (hch : ch < 64) (hst : (getChan s.toChip ch).state = 1) (hfit : bit s.toc.channels ch = true)
    (hn : nextIssue s.toChip ch = some sd) (hok : issueOk s.toChip ch sd = true) (hc : issueStroke s.toChip ch sd = c) :
    BecomesOn 4 (.strokeIssue ch) s (react c) :=
  becomesOn_event rfl (by simp [hch, hst, chanInService, hfit, hn, hok]) (by simp [hn, hc])

end Issue

/-! Answers (R132). -/

theorem becomes_requestResponse {s : State} {id : Nat} {r : XReq} {a : ReqAnswer} (hr : tget s.xf.reqs id = some r) (ha : answerFits r a = true) :
    BecomesOn 4 (.requestResponse id a) s (shutGo (presentAll (answerReq s.toChip r a))) :=
  becomesOn_event rfl (by simp [hr, ha]) (by simp [hr])

section Answers
variable {c : Chip} {r : XReq} {bs : Bytes}

theorem answerReq_hostData {p : HPort} (hp : routePort r.route = some p) (hl : ((getSd c r.sd).map fun sd => isLapOwner sd.owner).getD false = false) :
    answerReq c r (.data bs) = refreshAt (settleReq (stat c (0x7012 + portNo p) 2 bs.length) r
      fun x => { x with data := putPiece r.off (readData (stat c (0x7012 + portNo p) 2 bs.length) r bs) x.data }) r.ch r.sd r.k := by
  have hl' : ((getSd (stat c (0x7012 + portNo p) 2 bs.length) r.sd).map fun sd => isLapOwner sd.owner).getD false = false := hl
  simp [answerReq, hp, hl']

theorem answerReq_ownData (hp : routePort r.route = none) (ho : offDie r.route = false) :
    answerReq c r (.data bs) = refreshAt (settleReq c r fun x => { x with data := putPiece r.off (readData c r bs) x.data }) r.ch r.sd r.k := by
  simp [answerReq, hp, ho]

/-- The entry of the tracker frees, and no other does (R132). -/
theorem tget_reqs_settleReq (c : Chip) (r : XReq) (f : Stroke → Stroke) (k : Nat) :
    tget (settleReq c r f).xf.reqs k = if k = r.id then none else tget c.xf.reqs k := by
  have hreqs : (settleReq c r f).xf.reqs = tdel c.xf.reqs r.id := rfl
  rw [hreqs]
  split
  next hk => rw [hk, tget_tdel_self]
  next hk => exact tget_tdel_ne _ hk

end Answers

/-! The end of a stroke (R79, R130, R151). -/

section StrokeEnd
variable {s : State} {ch sd k : Nat} {x : Stroke} {d : SetDesc}

theorem becomes_strokeComplete (hx : getStroke s.toChip ch sd k = some x) (hd : getSd s.toChip sd = some d) (ho : strokeOver x = true)
    {c : Chip} (hc : strokeEnd s.toChip ch d x = c) : BecomesOn 4 (.strokeComplete ch sd k) s (react c) :=
  becomesOn_event rfl (by simp [hx, hd, ho]) (by simp [hx, hd, hc])

theorem strokeOver_written (h0 : x.out = 0) (hp : x.phase = .writing) (hw : x.wtodo = []) (he : x.err = 0) : strokeOver x = true := by
  simp [strokeOver, h0, hp, hw, he]

theorem strokeOver_aborted (h0 : x.out = 0) (ha : x.aborted = true) : strokeOver x = true := by simp [strokeOver, h0, ha]

theorem strokeEnd_node {c : Chip} {q e n : Nat} (ha : x.aborted = false) (ho : d.owner = .node q e n) : strokeEnd c ch d x =
    settleChan (presentAll (retryDone (nodeStroke (strokeStats (dropStroke c ch x) ch d.body x) ch q e n d.body x) ch)) ch := by
  simp [strokeEnd, ha, ho]

theorem strokeEnd_aborted {c : Chip} (ha : x.aborted = true) : strokeEnd c ch d x = settleChan (presentAll (retryDone (dropStroke c ch x) ch)) ch := by
  simp [strokeEnd, ha]

end StrokeEnd

/-- An aborted stroke is counted (R130). -/
theorem obj_abortStroke (c : Chip) (ch : Nat) (x : Stroke) : obj (abortStroke c ch x) 0x7036 2 = (obj c 0x7036 2 + 1) % 2 ^ 64 :=
  obj_setObj_self c 0x7036 2 _

theorem convAdd_converting {b : Nat} (hb : dConverts b = true) (x : Stroke) (r : ConvRes) :
    (convAdd b x r).sat = min 0xFFFFFFFF (r.sat + x.sat) ∧ (convAdd b x r).unf = min 0xFFFFFFFF (r.unf + x.unf)
      ∧ (convAdd b x r).nan = min 0xFFFFFFFF (r.nan + x.nan) ∧ (x.trip = true → (convAdd b x r).trips = r.trips ++ [x.k]) := by
  rw [convAdd, hb]
  exact ⟨rfl, rfl, rfl, fun ht => if_pos ht⟩

/-- Settles O27: the issue, the answers by their kind, and the end by whether the stroke was aborted. -/
theorem strokesIssueAndComplete : Obligations.StrokesIssueAndComplete := by
  unfold Obligations.StrokesIssueAndComplete
  exact ⟨fun s ch q e n sd hch hst hfit hn hok ho hp => becomes_strokeIssue hch hst hfit hn hok (issueStroke_node ho hp),
    fun s id r a => becomes_requestResponse, fun c r p bs => answerReq_hostData, fun c r bs => answerReq_ownData, fun c r => rfl, fun c r cls => rfl,
    tget_reqs_settleReq,
    fun s ch sd k q e n x d hx hd h0 ha hp hw he ho => becomes_strokeComplete hx hd (strokeOver_written h0 hp hw he) (strokeEnd_node ha ho),
    fun s ch sd k x d hx hd h0 ha => becomes_strokeComplete hx hd (strokeOver_aborted h0 ha) (strokeEnd_aborted ha), obj_abortStroke,
    fun b x r hb => convAdd_converting hb x r, fun b x r hb => by simp [convAdd, hb]⟩

end Sys2Proof.Machine
end

section
/-! The staging and working pools (R97, R98). -/

namespace Sys2Proof.Machine

/-- The less of what has been found, if anything, and a number. -/
def lessOf (m : Option Nat) (a : Nat) : Option Nat :=
  match m with
  | none => some a
  | some b => some (min a b)

/-- The least number that a search finds in a list is one of the list. -/
theorem mem_of_foldl_lessOf {l : List Nat} {a : Nat} (h : l.foldl lessOf none = some a) : a ∈ l := by
  have hfold (l : List Nat) (m : Option Nat) (h : l.foldl lessOf m = some a) : a ∈ l ∨ m = some a := by
    induction l generalizing m with
    | nil => exact .inr h
    | cons b l ih =>
      rcases ih (lessOf m b) h with hmem | hb
      · exact .inl (List.mem_cons_of_mem b hmem)
      · cases m with
        | none =>
          obtain rfl : b = a := Option.some.inj hb
          exact .inl List.mem_cons_self
        | some x =>
          obtain rfl : min b x = a := Option.some.inj hb
          rcases Nat.le_total b x with hle | hle
          · exact .inl (List.mem_cons.mpr (.inl (Nat.min_eq_left hle)))
          · exact .inr (congrArg some (Nat.min_eq_right hle).symm)
  exact (hfold l none h).resolve_right (by simp)

theorem mem_upFrom {k i n : Nat} : k ∈ upFrom i n ↔ i ≤ k ∧ k < i + n := by
  induction n generalizing i with
  | zero => simp [upFrom]
  | succ n ih =>
    simp only [upFrom, List.mem_cons, ih]
    omega

/-- What first fit gives lies in the region and meets no used run. -/
theorem firstFit_spec {base len want a : Nat} {used : List (Nat × Nat)} (h : firstFit base len want used = some a) :
    base ≤ a ∧ a + want ≤ base + len ∧ ∀ u ∈ used, overlaps a want u.1 u.2 = false := by
  have hmem := mem_of_foldl_lessOf h
  simpa [and_assoc] using (List.mem_filter.mp hmem).2

theorem spAlloc_spec {c c' : Chip} {bytes a : Nat} (h : spAlloc c bytes = some (a, c')) :
    firstFit (spBase c) (spLen c) (roundUp bytes 0x200000) (frameTableRun c ++ c.geo.spUsed) = some a
      ∧ c' = { c with geo := { c.geo with spUsed := (a, roundUp bytes 0x200000) :: c.geo.spUsed } } := by
  unfold spAlloc at h
  dsimp only at h
  split at h
  next b hb =>
    obtain ⟨rfl, rfl⟩ := Prod.mk.inj (Option.some.inj h)
    exact ⟨hb, rfl⟩
  next => cases h

/-- A working-pool size that is not 0 holds the request and is a power of two from 4 KiB to 1 MiB (R97). -/
theorem wpSize_spec {bytes : Nat} (h : wpSize bytes ≠ 0) : bytes ≤ wpSize bytes ∧ ∃ k, 12 ≤ k ∧ k ≤ 20 ∧ wpSize bytes = 2 ^ k := by
  obtain ⟨s, hs⟩ : ∃ s, ((upFrom 12 9).map fun k => 2 ^ k).find? (fun s => bytes ≤ s) = some s :=
    Option.ne_none_iff_exists'.mp fun hnone => h (by simp [wpSize, hnone])
  have hsize : wpSize bytes = s := by simp [wpSize, hs]
  obtain ⟨k, hk, rfl⟩ := List.mem_map.mp (List.mem_of_find?_eq_some hs)
  obtain ⟨hlo, hhi⟩ := mem_upFrom.mp hk
  exact ⟨by simpa [hsize] using List.find?_some hs, k, hlo, by omega, hsize⟩

/-- What the working pool gives is a block of the request's size that lies below the pool's end and meets no block in use. -/
theorem wpAlloc_spec {c c' : Chip} {bytes a s : Nat} (h : wpAlloc c bytes = some (a, s, c')) :
    s = wpSize bytes ∧ s ≠ 0 ∧ a + s ≤ fld (obj c 0x3500 2) 0 8 + fld (obj c 0x3500 2) 8 8 ∧ wpIsFree c a s = true
      ∧ c' = { c with geo := { c.geo with wpBlocks := (a, s) :: c.geo.wpBlocks } } := by
  unfold wpAlloc at h
  dsimp only at h
  split at h
  next => cases h
  next h0 =>
    split at h
    next b hb =>
      cases h
      have hmem := mem_of_foldl_lessOf hb
      obtain ⟨hend, hfree⟩ : a + wpSize bytes ≤ fld (obj c 0x3500 2) 0 8 + fld (obj c 0x3500 2) 8 8 ∧ wpIsFree c a (wpSize bytes) = true := by
        simpa using (List.mem_filter.mp hmem).2
      exact ⟨rfl, h0, hend, hfree, rfl⟩
    next => cases h

/-- Settles O25: each pool by what its allocation chose from; a release drops the run of its address alone. -/
theorem poolsGiveDisjointRuns : Obligations.PoolsGiveDisjointRuns := by
  unfold Obligations.PoolsGiveDisjointRuns
  refine ⟨fun c c' bytes a h => ?_, fun c c' bytes a s h => ?_, fun c a b n => by simp [wpRelease], fun c a b n => by simp [spFree]⟩
  · obtain ⟨hfit, rfl⟩ := spAlloc_spec h
    obtain ⟨hlo, hhi, hused⟩ := firstFit_spec hfit
    exact ⟨hlo, hhi, hused, rfl, rfl⟩
  · obtain ⟨rfl, h0, hend, hfree, rfl⟩ := wpAlloc_spec h
    obtain ⟨hholds, k, hlo, hhi, hk⟩ := wpSize_spec h0
    have hmin : 2 ^ 12 ≤ wpSize bytes := hk ▸ Nat.pow_le_pow_right (by decide) hlo
    have hmax : wpSize bytes ≤ 2 ^ 20 := hk ▸ Nat.pow_le_pow_right (by decide) hhi
    exact ⟨hholds, hmin, hmax, ⟨k, hk⟩, hend, by simpa [wpIsFree, wpUsed] using hfree, rfl, rfl⟩

end Sys2Proof.Machine
end

section
/-! What the Geode's operations leave of the unit (R70, R79, R80, R90, R93, R103). -/

namespace Sys2Proof.Machine

/-! Tables, statistics, and what an entry's frame depends on. -/

/-- A listed key that is changed reads as changed. -/
@[simp] theorem tget_tmod_self {α : Type} (t : Tab α) (k : Nat) (f : α → α) : tget (tmod t k f) k = (tget t k).map f := by
  induction t with
  | nil => rfl
  | cons x t ih =>
    obtain ⟨j, v⟩ := x
    by_cases h : j = k
    · simp [tmod, tget, h]
    · simpa [tmod, tget, h] using ih

/-- A statistic changes no other object. -/
theorem obj_stat_ne (c : Chip) (i s n : Nat) {j r : Nat} (h : objKey j r ≠ objKey i s) : obj (stat c i s n) j r = obj c j r :=
  obj_setObj_ne c i s _ h

/-- The frame that an entry names depends on the die alone. -/
theorem eFrame_of_unit1 {c d : Chip} (h : c.unit1 = d.unit1) (v : Nat) : eFrame c v = eFrame d v := by rw [eFrame, h, eFrame]

section Entries
variable (c : Chip) (sp seg g v : Nat)

theorem tellOther_spec : ∃ a o, tellOther c sp seg g = { c with geo := { c.geo with acks := a }, out := o } := by
  unfold tellOther
  split
  · exact ⟨_, _, rfl⟩
  · exact ⟨_, _, rfl⟩

/-- A change of an entry touches the maps, the counts in HBM, the acknowledgements and what was sent. -/
theorem changeEntry_spec : ∃ m t a o, changeEntry c sp seg g v =
    { c with geo := { c.geo with maps := m, hbmTally := t, acks := a }, out := o } := by
  obtain ⟨a, o, h⟩ := tellOther_spec (putEntry c sp seg g v) sp seg g
  exact ⟨_, _, a, o, h⟩

@[simp] theorem changeEntry_unit1 : (changeEntry c sp seg g v).unit1 = c.unit1 := by
  obtain ⟨_, _, _, _, h⟩ := changeEntry_spec c sp seg g v
  rw [h]

theorem freeFrame_spec (k : Nat) : ∃ f w o, freeFrame c k = { c with geo := { c.geo with frames := f, sweeps := w }, out := o } := by
  unfold freeFrame sweepStop
  dsimp only
  split
  · split <;> exact ⟨_, _, _, rfl⟩
  · exact ⟨_, _, _, rfl⟩

end Entries

/-- Outside DOUBLET nobody is told of a change (R103). -/
theorem tellOther_alone {c : Chip} (h : c.mode ≠ .doublet) (sp seg g : Nat) : tellOther c sp seg g = c := by simp [tellOther, h]

/-- The entry of a grain reads what was written last, when its segment has a map. -/
theorem entryOf_setEntry {c : Chip} {sp seg : Nat} (h : (tget c.geo.maps (mapKey sp seg)).isSome = true) (g v : Nat) :
    entryOf (setEntry c sp seg g v) sp seg g = v := by
  obtain ⟨m, hm⟩ := Option.isSome_iff_exists.mp h
  simp [entryOf, setEntry, hm]

theorem entryOf_of_maps {c d : Chip} (h : c.geo.maps = d.geo.maps) (sp seg g : Nat) : entryOf c sp seg g = entryOf d sp seg g := by
  rw [entryOf, h, entryOf]

/-! The unit's own copies (R90, R107). -/

section Copies
variable (c : Chip) (o : Owner) (sp seg g k : Nat)

theorem bindBest_spec : ∃ x, bindBest c o = { c with xf := x } := by
  unfold bindBest
  split
  · exact ⟨_, rfl⟩
  · exact ⟨_, rfl⟩

/-- A copy that starts leaves what the Geode holds but the entry, its place in the queue and its mark of paid tokens. -/
theorem startCopy_spec : ∃ m t a o p x, startCopy c sp seg g k =
    { c with geo := { c.geo with maps := m, hbmTally := t, acks := a, queue := c.geo.queue.drop 1, paid := c.geo.paid.filter (· != (sp, seg, g)) },
             out := o, sp := p, xf := x } := by
  obtain ⟨m, t, a, o, h⟩ := changeEntry_spec c sp seg g (setFrame c (entryOf c sp seg g) k)
  unfold startCopy
  dsimp only
  rw [h]
  obtain ⟨x, hx⟩ := bindBest_spec _ _
  rw [hx]
  exact ⟨m, t, a, o, _, x, rfl⟩

theorem writeBack_spec : ∃ m t a o p x, writeBack c sp seg g =
    { c with geo := { c.geo with maps := m, hbmTally := t, acks := a }, out := o, sp := p, xf := x } := by
  obtain ⟨m, t, a, o, h⟩ := changeEntry_spec c sp seg g (setState (entryOf c sp seg g) true true)
  unfold writeBack
  dsimp only
  rw [h]
  obtain ⟨x, hx⟩ := bindBest_spec _ _
  rw [hx]
  exact ⟨m, t, a, o, _, x, rfl⟩

end Copies

/-! A flush goes on (R101). -/

section Flush
variable (c : Chip)

@[simp] theorem flushForget_mode (sp seg g : Nat) : (flushForget c sp seg g).mode = c.mode := by
  unfold flushForget
  dsimp only
  split <;> rfl

@[simp] theorem writeBack_mode (sp seg g : Nat) : (writeBack c sp seg g).mode = c.mode := by
  obtain ⟨_, _, _, _, _, _, h⟩ := writeBack_spec c sp seg g
  rw [h]

@[simp] theorem flushCheck_mode : (flushCheck c).mode = c.mode := by unfold flushCheck; split <;> rfl

@[simp] theorem flushGrain_mode (g : Nat) : (flushGrain c g).mode = c.mode := by
  unfold flushGrain
  dsimp only
  split
  · rfl
  · split
    · split
      · exact writeBack_mode c _ _ g
      · rfl
    · exact flushForget_mode c _ _ g

@[simp] theorem flushNext_mode : (flushNext c).mode = c.mode := (flushCheck_mode _).trans (foldl_keeps Chip.mode flushGrain_mode _ c)

@[simp] theorem flushPart_mode (sp seg g done : Nat) : (flushPart c sp seg g done).mode = c.mode := by
  unfold flushPart
  dsimp only
  split
  · exact flushNext_mode _
  · rfl

end Flush

/-! Drain marks and the residency maps (R80, R94): what a mark retranslates releases blocks of the working pool, and no map changes. -/

section Maps
variable (c : Chip)

@[simp] theorem wpReleaseOpt_maps (b : Option (Nat × Nat)) : (wpReleaseOpt c b).geo.maps = c.geo.maps := by cases b <;> rfl

@[simp] theorem discardSd_maps (i : Nat) : (discardSd c i).geo.maps = c.geo.maps := by
  unfold discardSd
  split
  · rfl
  · dsimp only
    split <;> simp [drainDec]

@[simp] theorem settleSd_maps (i : Nat) : (settleSd c i).geo.maps = c.geo.maps := by
  unfold settleSd
  split
  · split
    · exact discardSd_maps c i
    · rfl
  · rfl

@[simp] theorem markRedo_geo (o : Owner) : (markRedo c o).geo = c.geo := by
  cases o with
  | node q e n => simp [markRedo, leaveChan, unbind]
  | _ => rfl

@[simp] theorem recutSd_maps (i : Nat) : (recutSd c i).geo.maps = c.geo.maps := by
  unfold recutSd
  split
  · split
    · simp [truncateSd]
    · rfl
  · rfl

@[simp] theorem dropCut_maps (q e n : Nat) : (dropCut c q e n).geo.maps = c.geo.maps := by
  unfold dropCut
  dsimp only
  split
  · rfl
  · split
    · split <;> simp
    · simp

@[simp] theorem retranslate_maps (sp : Nat) (ok : Nat → Bool) : (retranslate c sp ok).geo.maps = c.geo.maps :=
  (foldl_keeps (·.geo.maps) recutSd_maps _ _).trans
    (foldl_keeps (f := fun c (x : Nat × Nat × Nat) => dropCut c x.1 x.2.1 x.2.2) (·.geo.maps) (fun d x => dropCut_maps d x.1 x.2.1 x.2.2) _ c)

@[simp] theorem clearOldest_maps (sp : Nat) : (clearOldest c sp).geo.maps = c.geo.maps := by
  unfold clearOldest
  split
  · exact retranslate_maps c sp _
  · rfl

@[simp] theorem mirror_geo (k : MirrorKind) (n : Nat) (rq : Option (Src × Req)) : (mirror c k n rq).geo = c.geo := by
  unfold mirror
  split <;> rfl

/-- A bump without a mapping change leaves the maps. -/
theorem takeEffect_maps {b : Bump} (hb : b.change = .none) (g : Nat) : (takeEffect c b g).geo.maps = c.geo.maps := by
  unfold takeEffect
  rw [hb]
  dsimp only
  split
  · exact retranslate_maps _ _ _
  · rfl

theorem applyBump_maps {b : Bump} {i : Nat} (hi : getBump c i = some b) (hb : b.change = .none) : (applyBump c i).geo.maps = c.geo.maps := by
  rw [applyBump_eq hi, clearOldest_maps, takeEffect_maps c hb]

theorem newBump_maps (sp : Nat) (hard : Bool) (by_ : BumpBy) : (newBump c sp hard by_ .none).geo.maps = c.geo.maps := by
  have happly : (applyBump (withOwnBump c sp hard by_ .none) (freshBump c)).geo.maps = c.geo.maps := applyBump_maps _ getBump_withOwnBump rfl
  unfold newBump
  dsimp only
  split
  · rfl
  · split
    · rw [clearOldest_maps]
      split <;> rfl
    · split
      · exact happly
      · exact (congrArg GeodeSt.maps (mirror_geo ..)).trans happly

/-- A drain mark that joins a bump changes the list of bumps and, at most, the status of a withdrawal. -/
theorem joinBump_soft_geo (b : Bump) (by_ : BumpBy) (m : MapChange) : (joinBump c b false by_ m).geo = c.geo := by
  unfold joinBump
  dsimp only
  split
  · split <;> rfl
  · simp [modBump]

theorem drainMark_maps (sp : Nat) (by_ : BumpBy) : (drainMark c sp by_).geo.maps = c.geo.maps := by
  unfold drainMark requestBump
  split
  · dsimp only
    split
    · rw [joinBump_soft_geo]
    · rw [mirror_geo, joinBump_soft_geo]
  · exact newBump_maps c sp false by_

@[simp] theorem closeBatch_maps (b : Batch) : (closeBatch c b).geo.maps = c.geo.maps :=
  foldl_keeps (f := fun c sp => drainMark c sp (.batch b.id)) (·.geo.maps) (fun d sp => drainMark_maps d sp _) _ _

@[simp] theorem quarantine_maps (sp k : Nat) : (quarantine c sp k).geo.maps = c.geo.maps := by
  have hfull (full : Prop) [Decidable full] (d : Chip) (b : Batch) : (if full then closeBatch d b else d).geo.maps = d.geo.maps := by
    split
    · exact closeBatch_maps d b
    · rfl
  unfold quarantine
  dsimp only
  split
  · exact hfull _ _ _
  · rfl

end Maps

end Sys2Proof.Machine
end

section
/-! Promotions (R90, R92, R104). -/

namespace Sys2Proof.Machine

/-! The head of the queue: its tokens, its frame, its copy. -/

section Start
variable {s : State} {sp seg g : Nat} {r : List (Nat × Nat × Nat)} (hm : mayCopy s.toChip = true) (hq : s.geo.queue = (sp, seg, g) :: r)
  (hp : headPays (accrue s.toChip) = true)
include hm hq hp

/-- A head that has its tokens starts, with a frame of this die or with one that the other die may give. -/
theorem becomes_promotionStart {other : Option Nat} (ho : (other.map (crossDie (accrue s.toChip))).getD true = true) :
    BecomesOn 3 (.promotionStart other) s (promote (accrue s.toChip) sp seg g other) := by
  have hm' : mayCopy (accrue s.toChip) = true := hm
  have hq' : (accrue s.toChip).geo.queue = (sp, seg, g) :: r := hq
  exact becomesOn_event rfl (by rw [hm', hp, ho]; rfl) (by rw [hq'])

end Start

theorem payTokens_unpaid {c : Chip} {x : Nat × Nat × Nat} (h : c.geo.paid.contains x = false) (grain : Nat) :
    payTokens c x grain = { c with geo := { c.geo with tokens := c.geo.tokens - tokenCost grain, paid := x :: c.geo.paid } } :=
  if_neg (ne_true_of_eq_false h)

theorem payTokens_paid {c : Chip} {x : Nat × Nat × Nat} (h : c.geo.paid.contains x = true) (grain : Nat) : payTokens c x grain = c := if_pos h

section Promote
variable {c d : Chip} {sp seg g : Nat}

theorem promote_framed {k : Nat} (h : takeFrame (payTokens c (sp, seg, g) (getSeg (getSpace c sp) seg).grain) (getSeg (getSpace c sp) seg).grain 1
    (.grain sp seg g) = (some k, d)) : promote c sp seg g none = startCopy d sp seg g k := by simp only [promote, h]

theorem promote_poolEmpty (h : takeFrame (payTokens c (sp, seg, g) (getSeg (getSpace c sp) seg).grain) (getSeg (getSpace c sp) seg).grain 1
    (.grain sp seg g) = (none, d)) : promote c sp seg g none = sweepFor d (getSeg (getSpace c sp) seg).grain := by simp only [promote, h]

end Promote

/-! The end of a copy. -/

section CopyEnd
variable {s : State} {sp seg g : Nat} (hc : copying s.toChip sp seg g = true)
include hc

theorem becomes_promotionCopyComplete (ho : copyOk s.toChip (.promote sp seg g) sp seg g = true) {c : Chip} (h : promoted sp seg g s.toChip = c) :
    BecomesOn 3 (.promotionCopyComplete sp seg g) s (react c) :=
  becomesOn_event rfl (Bool.and_eq_true_iff.mpr ⟨hc, ho⟩) (congrArg react h)

theorem becomes_promotionCopyFail (ho : copyBad s.toChip (.promote sp seg g) sp seg g = true) {c : Chip} (h : promoteFail sp seg g s.toChip = c) :
    BecomesOn 3 (.promotionCopyFail sp seg g) s (react c) :=
  becomesOn_event rfl (Bool.and_eq_true_iff.mpr ⟨hc, ho⟩) (congrArg react h)

end CopyEnd

/-- Outside DOUBLET a copy's end changes the entry and is counted, and that is all. -/
theorem promoted_alone {c : Chip} (h : c.mode ≠ .doublet) (sp seg g : Nat) : promoted sp seg g c = stat (putEntry c sp seg g
    (setTally (setBit (setState (entryOf c sp seg g) false true) 34 false) (obj c 0x3500 6))) 0x7035 2 1 :=
  tellOther_alone (by exact h) sp seg g

theorem promoteFail_eq (c : Chip) (sp seg g : Nat) : promoteFail sp seg g c =
    copyFailed (freeFrame (changeEntry c sp seg g (toFar (entryOf c sp seg g))) (eFrame c (entryOf c sp seg g))) sp seg g (eFrame c (entryOf c sp seg g)) := by
  obtain ⟨f, w, o, h⟩ := freeFrame_spec (changeEntry c sp seg g (toFar (entryOf c sp seg g))) (eFrame c (entryOf c sp seg g))
  have hu : (freeFrame (changeEntry c sp seg g (toFar (entryOf c sp seg g))) (eFrame c (entryOf c sp seg g))).unit1 = c.unit1 := by
    rw [h]
    exact changeEntry_unit1 ..
  exact congrArg (copyFailed _ sp seg g) (eFrame_of_unit1 hu _)

/-- A failed copy raises a Note of source 178 with the list, but in ROUGH (R90, R350). -/
theorem copyFailed_raised {c : Chip} (h : c.mode ≠ .rough) (sp seg g k : Nat) :
    (copyFailed c sp seg g k).toc.raised = c.toc.raised ++ [⟨178, k / 2 ^ 28, 1, 0⟩] := by
  unfold copyFailed
  dsimp only
  rw [if_neg h]
  rfl

/-- Settles O22: the accrual, the head by what pays and what the lists give, the two ends of its copy. -/
theorem promotionsRunTheirCourse : Obligations.PromotionsRunTheirCourse := by
  unfold Obligations.PromotionsRunTheirCourse
  refine ⟨fun s ht hcap => becomesOn_event rfl (by simp [now, ht, hcap]) rfl, fun s sp seg g r hm hq hp => becomes_promotionStart hm hq hp rfl,
    fun s sp seg g k r hm hq hp hk => becomes_promotionStart hm hq hp hk, fun c x grain h => ?_, fun c x grain h => payTokens_paid h grain,
    fun c d sp seg g k => promote_framed, fun c d sp seg g => promote_poolEmpty, fun c sp seg g k => ?_,
    fun s sp seg g hc ho hm => becomes_promotionCopyComplete hc ho (promoted_alone hm sp seg g),
    fun s sp seg g hc ho => becomes_promotionCopyFail hc ho (promoteFail_eq s.toChip sp seg g), fun c sp seg g k h => copyFailed_raised h sp seg g k⟩
  · rw [payTokens_unpaid h]
    exact ⟨rfl, rfl⟩
  · obtain ⟨_, _, _, _, _, _, h⟩ := startCopy_spec c sp seg g k
    rw [h]
    exact ⟨rfl, rfl, rfl, rfl, rfl, rfl⟩

end Sys2Proof.Machine
end

section
/-! Sweeps, evictions and write-backs (R90, R93, R101). -/

namespace Sys2Proof.Machine

/-! The hand of a sweep (R93). -/

section Sweep
variable {s : State} {i : Nat} {w : Sweep} (hw : tget s.geo.sweeps i = some w)
include hw

theorem becomes_sweepVisit (hon : w.on = true) (hs : serving s.toChip = true) (hr : sdRoom s.toChip = true) {c : Chip} (hc : sweepVisit i s.toChip = c) :
    BecomesOn 3 (.sweepVisit i) s (react c) :=
  becomesOn_event rfl (by simp [hw, hon, hs, hr]) (congrArg react hc)

theorem sweepVisit_noFrame (hf : tget s.geo.frames (i * 2 ^ 28 + w.hand) = none) : sweepVisit i s.toChip = sweepNext s.toChip i := by
  simp only [sweepVisit, tgetD, hw, Option.getD_some, hf]

theorem sweepVisit_grain {sp seg g : Nat} (hf : tget s.geo.frames (i * 2 ^ 28 + w.hand) = some (.grain sp seg g)) :
    sweepVisit i s.toChip = sweepNext (sweepGrain s.toChip sp seg g) i := by
  simp only [sweepVisit, tgetD, hw, Option.getD_some, hf]

end Sweep

/-! The grain under the hand (R90). -/

/-- Whether a refresh open waits on a grain does not depend on a statistic. -/
theorem openHeld_stat (c : Chip) (n sp seg g : Nat) : openHeld (stat c 0x7035 7 n) sp seg g = openHeld c sp seg g := by
  have htab (t : Nat) : tabSpace (stat c 0x7035 7 n) t = tabSpace c t := by
    rw [tabSpace, tabDef, obj_stat_ne c 0x7035 7 n (by simp only [objKey]; omega)]
    rfl
  simp only [openHeld, htab, stat_lap]

section SweepGrain
variable {c : Chip} {sp seg g : Nat} (hr : isResident (entryOf c sp seg g) = true) (hm : manages c g = true)
include hr hm

/-- A grain whose TALLY reaches the cold level is warm: it stays, its TALLY shifted. -/
theorem sweepGrain_warm (ht : obj c 0x3500 7 ≤ eTally (entryOf c sp seg g)) : sweepGrain c sp seg g =
    putEntry (stat c 0x7035 7 1) sp seg g (setTally (entryOf c sp seg g) (eTally (entryOf c sp seg g) / 2 ^ obj c 0x3500 8)) := by
  have hcold : obj (stat c 0x7035 7 1) 0x3500 7 = obj c 0x3500 7 := obj_stat_ne c _ _ _ (by decide)
  have hshift : obj (stat c 0x7035 7 1) 0x3500 8 = obj c 0x3500 8 := obj_stat_ne c _ _ _ (by decide)
  simp [sweepGrain, hr, hm, hcold, hshift, Nat.not_lt.mpr ht]

section Cold
variable (ht : eTally (entryOf c sp seg g) < obj c 0x3500 7) (hp : ePrior (entryOf c sp seg g) = false) (hf : eFresh (entryOf c sp seg g) = false)
  (ho : openHeld c sp seg g = false)
include ht hp hf ho

/-- A cold grain leaves HBM: at once when it is clean, else by a write-back. -/
theorem sweepGrain_cold : sweepGrain c sp seg g = if isClean (getSeg (getSpace c sp) seg) (entryOf c sp seg g) = true then
    evictGrain (stat c 0x7035 7 1) sp seg g (entryOf c sp seg g) else writeBack (stat c 0x7035 7 1) sp seg g := by
  have hcold : obj (stat c 0x7035 7 1) 0x3500 7 = obj c 0x3500 7 := obj_stat_ne c _ _ _ (by decide)
  simp [sweepGrain, hr, hm, hcold, hp, hf, ho, openHeld_stat, ht]

theorem sweepGrain_clean (hc : isClean (getSeg (getSpace c sp) seg) (entryOf c sp seg g) = true) :
    sweepGrain c sp seg g = evictGrain (stat c 0x7035 7 1) sp seg g (entryOf c sp seg g) := (sweepGrain_cold hr hm ht hp hf ho).trans (if_pos hc)

theorem sweepGrain_dirty (hc : isClean (getSeg (getSpace c sp) seg) (entryOf c sp seg g) = false) :
    sweepGrain c sp seg g = writeBack (stat c 0x7035 7 1) sp seg g := (sweepGrain_cold hr hm ht hp hf ho).trans (if_neg (ne_true_of_eq_false hc))

end Cold
end SweepGrain

/-! The end of a write-back (R90, R101). -/

section WriteBackEnd
variable {s : State} {sp seg g : Nat} (he : isEvicting (entryOf s.toChip sp seg g) = true)
include he

theorem becomes_writeBackComplete (ho : copyOk s.toChip (.writeBack sp seg g) sp seg g = true) {c : Chip} (h : writtenBack sp seg g s.toChip = c) :
    BecomesOn 3 (.writeBackComplete sp seg g) s (react c) :=
  becomesOn_event rfl (Bool.and_eq_true_iff.mpr ⟨he, ho⟩) (congrArg react h)

theorem not_promoting_of_evicting : isPromoting (entryOf s.toChip sp seg g) = false := by
  obtain ⟨-, hres⟩ := Bool.and_eq_true_iff.mp he
  simp [isPromoting, hres]

theorem becomes_writeBackFail (ho : copyBad s.toChip (.writeBack sp seg g) sp seg g = true) {c : Chip} (h : writeBackFail sp seg g s.toChip = c) :
    BecomesOn 3 (.writeBackFail sp seg g) s (react c) :=
  becomesOn_event rfl (by simp [not_promoting_of_evicting he, ho]) (congrArg react h)

end WriteBackEnd

section WrittenBack
variable {c : Chip} {sp seg g : Nat}

theorem writtenBack_eviction (hf : c.geo.flushing.contains (sp, seg, g) = false) : writtenBack sp seg g c =
    evictGrain (stat c 0x7035 6 1) sp seg g (setBit (setBit (entryOf c sp seg g) 34 false) 35 (getSeg (getSpace c sp) seg).sealed) :=
  if_neg (ne_true_of_eq_false hf)

theorem writtenBack_flush (hf : c.geo.flushing.contains (sp, seg, g) = true) (hm : c.mode ≠ .doublet) : writtenBack sp seg g c =
    flushPart (putEntry (stat c 0x7035 6 1) sp seg g
      (setState (setBit (setBit (entryOf c sp seg g) 34 false) 35 (getSeg (getSpace c sp) seg).sealed) false true)) sp seg g 1 :=
  (if_pos hf).trans (tellOther_alone (by rw [flushPart_mode]; exact hm) sp seg g)

theorem writeBackFail_evicting (he : isEvicting (entryOf c sp seg g) = true) : writeBackFail sp seg g c =
    copyFailed (flushPart (changeEntry c sp seg g (setBit (setState (entryOf c sp seg g) false true) 34 true)) sp seg g 0) sp seg g
      (eFrame c (entryOf c sp seg g)) := by
  simp only [writeBackFail, he, if_true, eFrame_of_unit1 (changeEntry_unit1 c sp seg g _)]

end WrittenBack

/-- Outside DOUBLET an evicted grain is FAR with TALLY 0 at once (R90). -/
theorem entryOf_evictGrain {c : Chip} {sp seg : Nat} (hm : c.mode ≠ .doublet) (h : (tget c.geo.maps (mapKey sp seg)).isSome = true) (g v : Nat) :
    entryOf (evictGrain c sp seg g v) sp seg g = setTally (toFar v) 0 := by
  have hmaps : (evictGrain c sp seg g v).geo.maps = (setEntry c sp seg g (setTally (toFar v) 0)).geo.maps := by
    unfold evictGrain
    dsimp only
    rw [if_neg (by simpa [putEntry, setEntry] using hm), quarantine_maps]
    rfl
  rw [entryOf_of_maps hmaps, entryOf_setEntry h]

/-- Settles O23: the visit by what the frame holds, the grain by its entry, a write-back by how it ends. -/
theorem sweepsEvictAndWriteBack : Obligations.SweepsEvictAndWriteBack := by
  unfold Obligations.SweepsEvictAndWriteBack
  refine ⟨fun s i w hw hon hs hr hf => becomes_sweepVisit hw hon hs hr (sweepVisit_noFrame hw hf), fun s i sp seg g w hw hon hs hr hf hres hman => ?_,
    fun s sp seg g he ho hf => becomes_writeBackComplete he ho (writtenBack_eviction hf),
    fun s sp seg g he ho hf hm => becomes_writeBackComplete he ho (writtenBack_flush hf hm),
    fun s sp seg g he ho => becomes_writeBackFail he ho (writeBackFail_evicting he), fun c sp seg g v hm h => entryOf_evictGrain hm h g v⟩
  have hvisit {c : Chip} (hc : sweepGrain s.toChip sp seg g = c) : BecomesOn 3 (.sweepVisit i) s (react (sweepNext c i)) :=
    becomes_sweepVisit hw hon hs hr ((sweepVisit_grain hw hf).trans (congrArg (sweepNext · i) hc))
  exact ⟨fun ht => hvisit (sweepGrain_warm hres hman ht), fun ht hp hfr ho =>
    ⟨fun hc => hvisit (sweepGrain_clean hres hman ht hp hfr ho hc), fun hc => hvisit (sweepGrain_dirty hres hman ht hp hfr ho hc)⟩⟩

end Sys2Proof.Machine
end

section
/-! Geode requests, map builds, quarantine, decay and tallies (R88, R94, R95, R101, R103, R105). -/

namespace Sys2Proof.Machine

/-! Write-back requests and grain probes (R101, R105). -/

theorem writesBy_writeBackRequest (payload : Bytes) :
    WritesBy (fun src tag => .writeBackRequest src tag payload) 0x3500 0x12 payload (writeBackRequest (leNat payload)) id :=
  fun _ _ _ hp => becomes_event rfl hp rfl

theorem writesBy_grainProbeRequest (payload : Bytes) :
    WritesBy (fun src tag => .grainProbeRequest src tag payload) 0x3500 0x15 payload (grainProbe (leNat payload)) id :=
  fun _ _ _ hp => becomes_event rfl hp rfl

section Requests
variable {c : Chip} {v : Nat}

/-- A Space or segment that is none, or a segment that is not Tiered, is out of range. -/
theorem writeBackRequest_range (h : 1023 < fld v 0 2 ∨ 15 < fld v 2 1 ∨ (getSeg (getSpace c (fld v 0 2)) (fld v 2 1)).kind ≠ 3) :
    writeBackRequest v c = (5, c) := if_pos (by simpa [or_assoc] using h)

theorem grainProbe_range (h : 1023 < fld v 0 2 ∨ 15 < fld v 2 1 ∨ (getSeg (getSpace c (fld v 0 2)) (fld v 2 1)).kind ≠ 3
    ∨ grainCount (getSeg (getSpace c (fld v 0 2)) (fld v 2 1)) ≤ fld v 8 8) : grainProbe v c = (5, c) := if_pos (by simpa [or_assoc] using h)

variable (hsp : fld v 0 2 ≤ 1023) (hseg : fld v 2 1 ≤ 15) (hk : (getSeg (getSpace c (fld v 0 2)) (fld v 2 1)).kind = 3)
include hsp hseg hk

theorem writeBackRequest_busy (hs : c.geo.flush.state = 1) : writeBackRequest v c = (6, c) := by
  simp [writeBackRequest, Nat.not_lt.mpr hsp, Nat.not_lt.mpr hseg, hk, hs]

theorem writeBackRequest_starts (hs : c.geo.flush.state ≠ 1) : writeBackRequest v c = (0, flushNext { c with geo := { c.geo with
    flush := ⟨1, fld v 0 2, fld v 2 1, flushGrains c (fld v 0 2) (fld v 2 1), 0⟩,
    flushing := c.geo.flushing ++ (flushGrains c (fld v 0 2) (fld v 2 1)).map fun g => (fld v 0 2, fld v 2 1, g) } }) := by
  simp [writeBackRequest, Nat.not_lt.mpr hsp, Nat.not_lt.mpr hseg, hk, hs]

/-- A flush that covers no grain has ended at once. -/
theorem writeBackRequest_nothing (hs : c.geo.flush.state ≠ 1) (hg : flushGrains c (fld v 0 2) (fld v 2 1) = []) :
    writeBackRequest v c = (0, { c with geo := { c.geo with flush := ⟨2, fld v 0 2, fld v 2 1, [], 0⟩ } }) := by
  rw [writeBackRequest_starts hsp hseg hk hs, hg]
  simp [flushNext, flushCheck]

theorem grainProbe_shows (hg : fld v 8 8 < grainCount (getSeg (getSpace c (fld v 0 2)) (fld v 2 1))) :
    grainProbe v c = (0, { c with geo := { c.geo with probe := entryOf c (fld v 0 2) (fld v 2 1) (fld v 8 8) } }) := by
  simp [grainProbe, Nat.not_lt.mpr hsp, Nat.not_lt.mpr hseg, hk, Nat.not_le.mpr hg]

end Requests

/-! Quarantine (R94, R103). -/

/-- The first batch is the old one when it is open and its time has passed. -/
theorem oldBatch_head {c : Chip} {now : Nat} {b : Batch} {r : List Batch} (hb : c.geo.batches = b :: r) (ho : b.closed = false)
    (ht : b.opened + obj c 0x3500 0xF ≤ nowAt c now) : oldBatch now c = some b := by simp [oldBatch, hb, ho, ht]

/-- The last acknowledgement of an eviction takes its frame to quarantine. -/
theorem stateAck_evicted {c : Chip} {sp seg g k : Nat} (ha : c.geo.acks = [(sp, seg, g)])
    (hf : (c.geo.frames.filter fun x => x.2 == .returning sp seg g) = [(k, .returning sp seg g)]) :
    stateAck sp seg g c = quarantine { c with geo := { c.geo with acks := [] } } sp k := by
  simp [stateAck, ha, ldel, hf]

/-! Far decay (R95). -/

/-- A visit to a FAR grain that this unit manages, not the last of the period, halves its TALLY, here and in HBM. -/
theorem decayVisit_far {c : Chip} {sp seg g : Nat} (hg : grainAt (tieredSegs c) c.geo.decayGrain = some (sp, seg, g))
    (hf : isFar (entryOf c sp seg g) = true) (hm : manages c g = true)
    (hn : c.geo.decayGrain + 1 < (tieredSegs c).foldl (fun m x => m + x.2.2) 0) : decayVisit c =
      let d := setEntry c sp seg g (setTally (entryOf c sp seg g) (eTally (entryOf c sp seg g) / 2))
      { d with geo := { d.geo with hbmTally := tmod c.geo.hbmTally (tallyKey sp seg g) (· / 2), decayGrain := c.geo.decayGrain + 1 } } := by
  simp only [decayVisit, hg, hf, hm, Bool.and_self, if_true, if_pos hn]
  rfl

/-- Settles O24: the two requests by their checks, then each upkeep event by what it finds. -/
theorem geodeRequestsAndUpkeepRun : Obligations.GeodeRequestsAndUpkeepRun := by
  unfold Obligations.GeodeRequestsAndUpkeepRun
  refine ⟨fun payload hsp hseg => (writesBy_writeBackRequest payload).does fun c ⟨hk, hs, hg⟩ => writeBackRequest_nothing hsp hseg hk hs hg,
    fun payload hsp hseg => (writesBy_writeBackRequest payload).does fun c ⟨hk, hs⟩ => writeBackRequest_starts hsp hseg hk hs,
    fun payload => (writesBy_writeBackRequest payload).turnsAway fun c => writeBackRequest_range,
    fun payload hsp hseg => (writesBy_writeBackRequest payload).turnsAway fun c ⟨hk, hs⟩ => writeBackRequest_busy hsp hseg hk hs,
    fun payload hsp hseg => (writesBy_grainProbeRequest payload).does fun c ⟨hk, hg⟩ => grainProbe_shows hsp hseg hk hg,
    fun payload => (writesBy_grainProbeRequest payload).turnsAway fun c => grainProbe_range,
    fun s hs => becomes_event rfl (beq_iff_eq.mpr hs) rfl, fun s now b r hb ho ht => ?_,
    fun s sp seg g k ha hf => becomesOn_event rfl (by simp [ha]) (congrArg react (stateAck_evicted ha hf)),
    fun s sp seg g v hm hg hmap => becomesOn_event rfl (by simp [hm, hg, hmap]) rfl,
    fun s sp seg g hd hg hf hm hn => becomesOn_event rfl hd (decayVisit_far hg hf hm hn),
    fun s hm ht => becomesOn_event rfl (by simp [hm, ht]) rfl, fun s m hm hb => becomesOn_event rfl (by simp [hm, hb]) rfl,
    fun c sp seg g hm => by simp [takeForward, hm]⟩
  have hold := oldBatch_head hb ho ht
  exact becomesOn_event rfl (by rw [hold]; rfl) (by rw [hold]; rfl)

end Sys2Proof.Machine
end

section
/-! The shuffles of a stroke: INTERLEAVE and DEINTERLEAVE, PLANES and UNPLANES (R115, R116). -/

namespace Sys2Proof.Machine

/-! Places: a number in base `w`, its low digit last. -/

theorem place_div {k w j : Nat} (h : j < w) : (k * w + j) / w = k := by
  rw [Nat.add_comm, Nat.add_mul_div_right _ _ (by omega), Nat.div_eq_of_lt h, Nat.zero_add]

theorem place_mod {k w j : Nat} (h : j < w) : (k * w + j) % w = j := Nat.mul_add_mod_of_lt h

theorem place_lt {k n w j : Nat} (hk : k < n) (hj : j < w) : k * w + j < n * w :=
  calc k * w + j < k * w + w := Nat.add_lt_add_left hj _
    _ = (k + 1) * w := (Nat.succ_mul k w).symm
    _ ≤ n * w := Nat.mul_le_mul_right w hk

theorem exists_place {x n w : Nat} (h : x < n * w) : ∃ k < n, ∃ j < w, x = k * w + j :=
  have hw : 0 < w := Nat.pos_of_ne_zero fun h0 => by simp [h0] at h
  ⟨x / w, Nat.div_lt_of_lt_mul (Nat.mul_comm n w ▸ h), x % w, Nat.mod_lt x hw, (Nat.div_add_mod' x w).symm⟩

/-! Byte strings by their bytes. -/

theorem upFrom_eq_range' (i n : Nat) : upFrom i n = List.range' i n := by
  induction n generalizing i with
  | zero => rfl
  | succ n ih => rw [upFrom, ih, List.range'_succ]

@[simp] theorem length_upFrom (i n : Nat) : (upFrom i n).length = n := by rw [upFrom_eq_range', List.length_range']

theorem byteAt_map_upFrom (f : Nat → Byte) {n i : Nat} (h : i < n) : byteAt ((upFrom 0 n).map f) i = f i := by
  simp [byteAt, upFrom_eq_range', List.getD_eq_getElem?_getD, h]

theorem eq_of_byteAt {as bs : Bytes} (hl : as.length = bs.length) (h : ∀ i < bs.length, byteAt as i = byteAt bs i) : as = bs :=
  List.ext_getElem hl fun i ha hb => by simpa [byteAt, ha, hb] using h i hb

/-! INTERLEAVE and DEINTERLEAVE (R115). -/

@[simp] theorem length_interleave (ways u : Nat) (bs : Bytes) : (interleave ways u bs).length = bs.length := by simp [interleave]

@[simp] theorem length_deinterleave (ways u : Nat) (bs : Bytes) : (deinterleave ways u bs).length = bs.length := by simp [deinterleave]

section Lanes
variable {ways u n : Nat} {bs : Bytes}

/-- A stroke of `n` units in each lane: its lanes' length. -/
theorem lane_length (hw : 0 < ways) (hN : bs.length = n * ways * u) : bs.length / ways = n * u := by
  rw [hN, Nat.mul_right_comm, Nat.mul_div_cancel _ hw]

variable {j k m : Nat} (hN : bs.length = n * ways * u) (hj : j < ways) (hk : k < n) (hm : m < u)
include hN hj hk hm

theorem byteAt_interleave : byteAt (interleave ways u bs) ((k * ways + j) * u + m) = byteAt bs (j * (n * u) + (k * u + m)) := by
  have hin : (k * ways + j) * u + m < bs.length := hN ▸ place_lt (place_lt hk hj) hm
  rw [interleave, byteAt_map_upFrom _ hin]
  simp only [place_div hm, place_mod hm, place_div hj, place_mod hj, lane_length (Nat.zero_lt_of_lt hj) hN, Nat.add_assoc]

theorem byteAt_deinterleave : byteAt (deinterleave ways u bs) (j * (n * u) + (k * u + m)) = byteAt bs ((k * ways + j) * u + m) := by
  have hunit : k * u + m < n * u := place_lt hk hm
  have hin : j * (n * u) + (k * u + m) < bs.length := by
    calc j * (n * u) + (k * u + m) < ways * (n * u) := place_lt hj hunit
      _ = bs.length := by rw [hN, ← Nat.mul_assoc, Nat.mul_comm ways]
  rw [deinterleave, byteAt_map_upFrom _ hin]
  simp only [lane_length (Nat.zero_lt_of_lt hj) hN, place_div hunit, place_mod hunit, place_div hm, place_mod hm]

end Lanes

section Inverses
variable {ways u n : Nat} {bs : Bytes} (hN : bs.length = n * ways * u)
include hN

theorem deinterleave_interleave : deinterleave ways u (interleave ways u bs) = bs := by
  refine eq_of_byteAt (by simp) fun i hi => ?_
  obtain ⟨j, hj, r, hr, rfl⟩ := exists_place (n := ways) (w := n * u) (by rwa [hN, Nat.mul_comm n, Nat.mul_assoc] at hi)
  obtain ⟨k, hk, m, hm, rfl⟩ := exists_place hr
  rw [byteAt_deinterleave (by simpa using hN) hj hk hm, byteAt_interleave hN hj hk hm]

theorem interleave_deinterleave : interleave ways u (deinterleave ways u bs) = bs := by
  refine eq_of_byteAt (by simp) fun o ho => ?_
  obtain ⟨r, hr, m, hm, rfl⟩ := exists_place (hN ▸ ho)
  obtain ⟨k, hk, j, hj, rfl⟩ := exists_place hr
  rw [byteAt_interleave (by simpa using hN) hj hk hm, byteAt_deinterleave hN hj hk hm]

end Inverses

/-- Settles O29: the formula of each direction at a byte's lane, unit and place in the unit; each inverse byte by byte; the spec's example is computed. -/
theorem interleaveWritesLanesAlternately : Obligations.InterleaveWritesLanesAlternately := by
  unfold Obligations.InterleaveWritesLanesAlternately
  have hunits {ways u : Nat} {bs : Bytes} (h : bs.length % (ways * u) = 0) : bs.length = bs.length / (ways * u) * ways * u := by
    rw [Nat.mul_assoc, Nat.div_mul_cancel (Nat.dvd_of_mod_eq_zero h)]
  refine ⟨fun ways u j k m bs hw hu h hj hk hm => ?_, fun ways u bs => ⟨length_interleave .., length_deinterleave ..⟩,
    fun ways u bs hw hu h => ⟨deinterleave_interleave (hunits h), interleave_deinterleave (hunits h)⟩, by decide⟩
  rw [Nat.div_div_eq_div_mul] at hk
  rw [byteAt_interleave (hunits h) hj hk hm, lane_length hw (hunits h), Nat.add_assoc]

/-! Byte strings by their bits (R116): bit `t` of byte `o` stands at place `o * 8 + t`. -/

theorem getLsbD_byteOfBits (f : Nat → Bool) {t : Nat} (ht : t < 8) : (byteOfBits f).getLsbD t = f t := by
  have hbits : ∀ b0 b1 b2 b3 b4 b5 b6 b7 : Bool, ∀ t : Fin 8,
      (byteOfBits fun i => [b0, b1, b2, b3, b4, b5, b6, b7].getD i false).getLsbD t = [b0, b1, b2, b3, b4, b5, b6, b7].getD t false := by decide +kernel
  calc (byteOfBits f).getLsbD t = ((List.range 8).map f).getD t false := hbits (f 0) (f 1) (f 2) (f 3) (f 4) (f 5) (f 6) (f 7) ⟨t, ht⟩
    _ = f t := by simp [List.getD_eq_getElem?_getD, ht]

theorem bitAt_place (bs : Bytes) (o : Nat) {t : Nat} (ht : t < 8) : bitAt bs (o * 8 + t) = (byteAt bs o).getLsbD t := by
  rw [bitAt, place_div ht, place_mod ht]

theorem bitAt_map_upFrom (f : Nat → Nat → Bool) {n o t : Nat} (ho : o < n) (ht : t < 8) :
    bitAt ((upFrom 0 n).map fun o => byteOfBits (f o)) (o * 8 + t) = f o t := by
  rw [bitAt_place _ _ ht, byteAt_map_upFrom _ ho, getLsbD_byteOfBits _ ht]

theorem eq_of_bitAt {as bs : Bytes} (hl : as.length = bs.length) (h : ∀ q < bs.length * 8, bitAt as q = bitAt bs q) : as = bs := by
  refine eq_of_byteAt hl fun o ho => BitVec.eq_of_getLsbD_eq fun t ht => ?_
  rw [← bitAt_place as o ht, ← bitAt_place bs o ht]
  exact h _ (place_lt ho ht)

/-! PLANES and UNPLANES (R116): bit `i` of plane `p` and bit `p` of code `i` of a block, and back. -/

@[simp] theorem length_planes (b : Nat) (bs : Bytes) : (planes b bs).length = bs.length := by simp [planes]

@[simp] theorem length_unplanes (b : Nat) (bs : Bytes) : (unplanes b bs).length = bs.length := by simp [unplanes]

section Planes
variable {b n : Nat} {bs : Bytes} (hN : bs.length = n * (64 * b))
include hN

section
variable {blk p i : Nat} (hblk : blk < n) (hp : p < b) (hi : i < 512)
include hblk hp hi

theorem bitAt_planes : bitAt (planes b bs) (blk * (512 * b) + (p * 512 + i)) = bitAt bs (blk * (512 * b) + (i * b + p)) := by
  obtain ⟨s, hs, t, ht, rfl⟩ := exists_place (n := 64) (w := 8) hi
  have hin : (blk * b + p) * 64 + s < bs.length := by
    calc (blk * b + p) * 64 + s < n * b * 64 := place_lt (place_lt hblk hp) hs
      _ = bs.length := by rw [hN, Nat.mul_comm 64, Nat.mul_assoc]
  have hq : blk * (512 * b) + (p * 512 + (s * 8 + t)) = ((blk * b + p) * 64 + s) * 8 + t := by rw [Nat.mul_left_comm blk]; omega
  have hblock : ((blk * b + p) * 64 + s) / (64 * b) = blk := by rw [← Nat.div_div_eq_div_mul, place_div hs, place_div hp]
  have hplane : ((blk * b + p) * 64 + s) % (64 * b) / 64 = p := by rw [Nat.mod_mul_right_div_self, place_div hs, place_mod hp]
  rw [hq, planes, bitAt_map_upFrom (fun o t => _) hin ht]
  simp only [hblock, hplane, place_mod hs, Nat.mul_assoc, Nat.add_assoc]

theorem bitAt_unplanes : bitAt (unplanes b bs) (blk * (512 * b) + (i * b + p)) = bitAt bs (blk * (512 * b) + (p * 512 + i)) := by
  obtain ⟨s, hs, t, ht, hr⟩ := exists_place (x := i * b + p) (n := 64 * b) (w := 8) (by rw [Nat.mul_right_comm]; exact place_lt hi hp)
  have hin : blk * (64 * b) + s < bs.length := hN ▸ place_lt hblk hs
  have hq : blk * (512 * b) + (s * 8 + t) = (blk * (64 * b) + s) * 8 + t := by rw [Nat.mul_left_comm blk, Nat.mul_left_comm blk]; omega
  rw [hr, hq, unplanes, bitAt_map_upFrom (fun o t => _) hin ht]
  simp only [place_div hs, place_mod hs, ← hr, place_div hp, place_mod hp, Nat.mul_assoc, Nat.add_assoc]

end

theorem block_bits : bs.length * 8 = n * (512 * b) := by
  rw [hN, Nat.mul_left_comm n, Nat.mul_left_comm n]
  omega

theorem unplanes_planes : unplanes b (planes b bs) = bs := by
  refine eq_of_bitAt (by simp) fun q hq => ?_
  obtain ⟨blk, hblk, r, hr, rfl⟩ := exists_place (n := n) (w := 512 * b) (block_bits hN ▸ hq)
  obtain ⟨i, hi, p, hp, rfl⟩ := exists_place hr
  rw [bitAt_unplanes (by simpa using hN) hblk hp hi, bitAt_planes hN hblk hp hi]

theorem planes_unplanes : planes b (unplanes b bs) = bs := by
  refine eq_of_bitAt (by simp) fun q hq => ?_
  obtain ⟨blk, hblk, r, hr, rfl⟩ := exists_place (n := n) (w := 512 * b) (block_bits hN ▸ hq)
  obtain ⟨p, hp, i, hi, rfl⟩ := exists_place (Nat.mul_comm 512 b ▸ hr)
  rw [bitAt_planes (by simpa using hN) hblk hp hi, bitAt_unplanes hN hblk hp hi]

end Planes

/-- A code of one bit is its own plane. -/
theorem planes_one {n : Nat} {bs : Bytes} (hN : bs.length = n * 64) : planes 1 bs = bs := by
  refine eq_of_bitAt (by simp) fun q hq => ?_
  obtain ⟨blk, hblk, i, hi, rfl⟩ := exists_place (x := q) (n := n) (w := 512) (by omega)
  simpa using bitAt_planes (b := 1) hN hblk Nat.one_pos hi

/-- The spec's example (R116): the codes of four bits 1, 2, 3, … give the first bytes of their four planes. -/
theorem planes_four_of_first_codes {bs : Bytes} (hl : bs.length = 256) (h : bs.take 4 = [0x21, 0x43, 0x65, 0x87]) :
    byteAt (planes 4 bs) 0 = 0x55 ∧ byteAt (planes 4 bs) 64 = 0x66 ∧ byteAt (planes 4 bs) 128 = 0x78 ∧ byteAt (planes 4 bs) 192 = 0x80 := by
  obtain ⟨r, rfl⟩ : ∃ r, bs = [0x21, 0x43, 0x65, 0x87] ++ r := ⟨bs.drop 4, by rw [← h, List.take_append_drop]⟩
  simp only [planes, hl]
  refine ⟨?_, ?_, ?_, ?_⟩ <;> rw [byteAt_map_upFrom _ (by decide)] <;> simp [byteOfBits, bitAt, byteAt, b2n]

/-- Settles O30: each direction bit by bit at a block, a plane and a code; each inverse from the two; the spec's example from its first four bytes. -/
theorem planesTransposeTheBitsOfCodes : Obligations.PlanesTransposeTheBitsOfCodes := by
  unfold Obligations.PlanesTransposeTheBitsOfCodes
  have hblocks {w : Nat} {bs : Bytes} (h : bs.length % w = 0) : bs.length = bs.length / w * w := (Nat.div_mul_cancel (Nat.dvd_of_mod_eq_zero h)).symm
  refine ⟨fun b blk p i bs hb h hblk hp hi => ?_, fun b bs => ⟨length_planes .., length_unplanes ..⟩,
    fun b bs hb h => ⟨unplanes_planes (hblocks h), planes_unplanes (hblocks h)⟩, fun bs h => ?_, fun bs hl h => planes_four_of_first_codes hl h⟩
  · have hout : blk * (64 * b) * 8 + p * 64 * 8 + i = blk * (512 * b) + (p * 512 + i) := by
      rw [Nat.mul_left_comm blk, Nat.mul_left_comm blk]
      omega
    have hsrc : blk * (64 * b) * 8 + i * b + p = blk * (512 * b) + (i * b + p) := by
      rw [Nat.mul_left_comm blk, Nat.mul_left_comm blk]
      omega
    rw [hout, hsrc, bitAt_planes (hblocks h) hblk hp hi]
  · have hone := planes_one (hblocks h)
    exact ⟨hone, by simpa only [hone] using unplanes_planes (b := 1) (hblocks h)⟩

end Sys2Proof.Machine
end

section
/-! The binder, paces, marks and scale banks of the Transfer Engine (R107, R118, R120, R121, R144). -/

namespace Sys2Proof.Machine

/-! The channel that the binder chooses (R107). -/

/-- A rotation passes every requester (R21). -/
theorem mem_rotation {p n k : Nat} : k ∈ upFrom p (n - p) ++ upFrom 0 (min p n) ↔ k < n := by
  rw [List.mem_append, mem_upFrom, mem_upFrom]
  omega

theorem rotate_some {p n k : Nat} {ok : Nat → Bool} (h : rotate p n ok = some k) : k < n ∧ ok k = true :=
  ⟨mem_rotation.mp (List.mem_of_find?_eq_some h), List.find?_some h⟩

theorem rotate_eq_none {p n : Nat} {ok : Nat → Bool} : rotate p n ok = none ↔ ∀ j, j < n → ok j = false := by
  simp only [rotate, List.find?_eq_none, mem_rotation, Bool.not_eq_true]

section Choice
variable {c : Chip} {ok : Nat → Bool}

theorem mem_eligible {j : Nat} : j ∈ (upFrom 0 64).filter ok ↔ j < 64 ∧ ok j = true := by
  simp [mem_upFrom]

/-- With an eligible channel, the binder rotates over those that hold the fewest queued bytes. -/
theorem bestChan_eligible {i : Nat} (hi : i < 64) (hok : ok i = true) : ∃ l k, bestChan c ok = rotate c.xf.bindPtr 64 (fun j => ok j && chanQueued c j == l) ∧
    k < 64 ∧ ok k = true ∧ chanQueued c k = l ∧ ∀ j, j < 64 → ok j = true → l ≤ chanQueued c j := by
  have hmem : i ∈ (upFrom 0 64).filter ok := mem_eligible.mpr ⟨hi, hok⟩
  unfold bestChan
  split
  next hnil => simp [hnil] at hmem
  next k r hl =>
    have hleast : (((upFrom 0 64).filter ok).map (chanQueued c)).min? = some (r.foldl (fun m j => min m (chanQueued c j)) (chanQueued c k)) := by
      rw [hl, List.map_cons, List.min?_cons', List.foldl_map]
    obtain ⟨hmin, hle⟩ := List.min?_eq_some_iff.mp hleast
    obtain ⟨a, ha, hq⟩ := List.mem_map.mp hmin
    obtain ⟨ha64, haok⟩ := mem_eligible.mp ha
    exact ⟨_, a, rfl, ha64, haok, hq, fun j hj hjok => hle _ (List.mem_map_of_mem (mem_eligible.mpr ⟨hj, hjok⟩))⟩

theorem bestChan_none_of_full (h : ∀ j, j < 64 → ok j = false) : bestChan c ok = none := by
  have hnil : (upFrom 0 64).filter ok = [] := List.eq_nil_iff_forall_not_mem.mpr fun j hj => by
    obtain ⟨h64, hok⟩ := mem_eligible.mp hj
    simp [h j h64] at hok
  simp [bestChan, hnil]

theorem bestChan_eq_none : bestChan c ok = none ↔ ∀ j, j < 64 → ok j = false := by
  refine ⟨fun h j hj => ?_, bestChan_none_of_full⟩
  refine Bool.eq_false_iff.mpr fun hok => ?_
  obtain ⟨l, k, hbest, hk, hkok, hq, -⟩ := bestChan_eligible (c := c) hj hok
  rw [hbest] at h
  simpa [hkok, hq] using rotate_eq_none.mp h k hk

theorem bestChan_some {ch : Nat} (h : bestChan c ok = some ch) :
    ch < 64 ∧ ok ch = true ∧ ∀ j, j < 64 → ok j = true → chanQueued c ch ≤ chanQueued c j := by
  have hnotFull : ¬ ∀ j, j < 64 → ok j = false := fun hfull => by simp [bestChan_eq_none.mpr hfull] at h
  obtain ⟨i, hi, hok⟩ : ∃ i, i < 64 ∧ ok i = true := by simpa using hnotFull
  obtain ⟨l, k, hbest, -, -, -, hle⟩ := bestChan_eligible (c := c) hi hok
  obtain ⟨hch, hfit⟩ := rotate_some (hbest ▸ h)
  obtain ⟨hchok, hq⟩ : ok ch = true ∧ chanQueued c ch = l := by simpa using hfit
  exact ⟨hch, hchok, hq ▸ hle⟩

end Choice

/-- An eligible channel (R107): a launch channel in service, neither HALTED nor FENCED, with room. -/
theorem canBind_iff (c : Chip) (ch : Nat) : canBind c ch = true ↔ ch < 64 ∧ bit c.toc.channels ch = true ∧ bit (obj c 0x3500 0x10) ch = false
    ∧ bit (obj c 0x3800 1) ch = false ∧ (getChan c ch).state ≠ 4 ∧ (getChan c ch).state ≠ 5 ∧ (getChan c ch).bound.length < 8 := by
  simp [canBind, isLaunchChan, chanInService, and_assoc]

theorem partChan_node (c : Chip) {q : Nat} (hq : q ≠ lapQ) (e n ch : Nat) : partChan c (.node q e n) ch = canBind c ch := if_neg hq

/-! NODE_BIND. -/

section Bind
variable {s : State} {q e n : Nat} (hn : n ≠ 8192) (hb : bindable s.toChip q e n = true)
include hn hb

theorem becomes_nodeBind_to {ch : Nat} (hch : bestChan s.toChip (partChan s.toChip (.node q e n)) = some ch) : BecomesOn 4 (.nodeBind q e n) s
    (react (bindTo (modNode (passSwitch s.toChip q e) q e n fun x => { x with st := .bound, bindWait := false }) (.node q e n) ch)) :=
  becomesOn_event rfl (by simp [dueBind, hn, hb, hch]) (by simp [nodeBind, bindNode, hn, hch])

theorem becomes_nodeBind_waits (hch : bestChan s.toChip (partChan s.toChip (.node q e n)) = none) (hw : hasWaited s.toChip q e n = false) :
    BecomesOn 4 (.nodeBind q e n) s (react (stat (modNode s.toChip q e n fun x => { x with bindWait := true }) 0x7036 5 1)) :=
  becomesOn_event rfl (by simp [dueBind, hn, hb, hw]) (by simp [nodeBind, bindNode, hn, hch])

end Bind

/-! MARK_FIRE (R120, R121). -/

theorem modLaunch_of_some {c : Chip} {q e : Nat} {l : Launch} (hl : getLaunch c q e = some l) (f : Launch → Launch) :
    modLaunch c q e f = setLaunch c (f l) := by simp [modLaunch, hl]

section Mark
variable {c : Chip} {q e n : Nat} {l : Launch} {m : Mark} (hl : getLaunch c q e = some l) (hm : firstMark l n = some m)
include hl hm

theorem dueMark_of_flushed (hp : m.ports = []) (hr : ∀ i, i ∈ m.reads → tget c.xf.reqs i = none) (hw : waitsLink c l = false) :
    dueMark q e n m.half c = true := by
  simpa [dueMark, hl, hm, hp, hw] using hr

/-- A node's first mark fires: MARKS advances, the mark goes, and its edges resolve unless they are of an earlier iteration. -/
theorem fireMark_first : fireMark q e n m.half c = modLaunch
    (modQueue c q fun x => if m.half then { x with half := (x.half + 1) % 65536 } else { x with full := (x.full + 1) % 65536 }) q e
    fun y => if m.old then { y with marks := y.marks.erase m } else resolveEdges { y with marks := y.marks.erase m } n [if m.half then 1 else 2] 1 := by
  have hl' (f : Queue → Queue) : getLaunch (modQueue c q f) q e = some l := hl
  rw [fireMark, modLaunch_of_some (hl' _), modLaunch_of_some (hl' _), hm]

end Mark

/-! SCALE_BANK_WRITE (R144). -/

theorem becomes_scaleBankWrite {s : State} {p : HPort} {off size : Nat} (hp : hostPosts s.toChip p = true) (hd : hostDecodes s.toChip p = true)
    (ha : bankAllowed s.toChip off size = true) (v : Nat) : Becomes (.scaleBankWrite p off size v) s (bankWrite off size v (received s.toChip p size)) :=
  becomes_event rfl hp (by rw [ha, hostWrite_decoded hd])

theorem bankEntry_setBank_self (c : Chip) (b i v : Nat) : bankEntry (setBank c b i v) b i = v % 2 ^ 32 := tgetD_tput_self _ _ _ _

/-- Settles O26: NODE_BIND by the binder's choice, the choice and its eligibility, each pace, a mark, and the scale banks. -/
theorem nodesBindAndPace : Obligations.NodesBindAndPace := by
  unfold Obligations.NodesBindAndPace
  refine ⟨fun s q e n ch hn hb hch => becomes_nodeBind_to hn hb hch, fun s q e n hn hb hch hw => becomes_nodeBind_waits hn hb hch hw,
    fun c ok ch => bestChan_some, fun c ok => bestChan_eq_none, canBind_iff, fun c q e n ch hq => partChan_node c hq e n ch,
    fun s q e n now x hx ht => becomesOn_event rfl (by rw [hx]; exact decide_eq_true ht) rfl,
    fun s ch now sd hst hn ht => becomesOn_event rfl (Bool.and_eq_true_iff.mpr ⟨beq_iff_eq.mpr hst, by rw [hn]; exact decide_eq_true ht⟩) rfl,
    fun s q e n x hx hbase hadv => becomesOn_event rfl (by simp [hx, hbase, hadv]) rfl,
    fun s q e n half l m hl hm hhalf hp hr hw => ?_,
    fun s p off v hp hd ha => becomes_scaleBankWrite hp hd ha v, fun s p off v hp hd ha => becomes_scaleBankWrite hp hd ha v,
    fun c b i v _ => bankEntry_setBank_self c b i v⟩
  subst hhalf
  exact becomesOn_event rfl (dueMark_of_flushed hl hm hp hr hw) (congrArg react (fireMark_first hl hm))

end Sys2Proof.Machine
end

section
/-! A fill of a fresh frame is a move of the table's Space, and counts among its drains (R79, R162). -/

namespace Sys2Proof.Machine

@[simp] theorem takeFrame_sp (c : Chip) (grain req : Nat) (u : FrameUse) : (takeFrame c grain req u).2.sp = c.sp := by
  unfold takeFrame sweepCheck
  split
  · dsimp only
    split <;> rfl
  · exact stat_sp ..

@[simp] theorem bindBest_sp (c : Chip) (o : Owner) : (bindBest c o).sp = c.sp := by
  obtain ⟨_, h⟩ := bindBest_spec c o
  rw [h]

/-- A set descriptor of Lapidary's own counts in its Space's current generation, like any other (R79). -/
theorem lapSd_sp (c : Chip) (x : LapItem) (sp body : Nat) (src dst : List Entry) :
    (lapSd c x sp body src dst).sp = (drainInc c sp (getSpace c sp).gen).sp := bindBest_sp ..

/-- An open that fills its fresh frame raises the drain counter of the Space's current generation (R79, R162 step 4). -/
theorem grainOpen_filled_sp {c x : Chip} {j : LapJob} {seg g k : Nat} (hj : c.lap.job = some j) (hr : openRoom j = true)
    (hk : takeFrame c (getSeg (getSpace c (tabSpace c j.post.table)) seg).grain 0 (.fresh j.post.table) = (some k, x))
    (hf : fillNeeded x j seg g = true) :
    (grainOpen seg g c).sp = (drainInc c (tabSpace c j.post.table) (getSpace c (tabSpace c j.post.table)).gen).sp := by
  have hx : x.sp = c.sp := by simpa [hk] using takeFrame_sp c (getSeg (getSpace c (tabSpace c j.post.table)) seg).grain 0 (.fresh j.post.table)
  unfold grainOpen
  simp only [hj, hr, hk, hf, Bool.not_true, Bool.false_eq_true, if_false, if_true]
  rw [lapSd_sp]
  simp [drainInc, modSpace, setSpace, getSpace, modJob, setApply, setFresh, putEntry, setEntry, hx]

/-- The job of a manifest of table 9 that is to open grain 3 of the row segment; its open table has room. -/
def jobOpeningGrain : LapJob := { newJob ⟨9, 1, 0x4000, 160⟩ with run := (2 ^ 37, 0x200000), opening := [(0, 3, 0)] }

/-- Table 9 serves in Space 5, whose row segment is Tiered; the job runs, and the one frame list has sixteen free frames. -/
def unitOpeningGrain : Chip :=
  let c := setSpace Chip.reset 5 { Space.reset 5 with state := 2, segs := [(0, { Seg.reset with kind := 3, cls := 2, len := 2 ^ 24, tableId := 9 })] }
  let c := setObj (setObj c 0x3500 1 (pack [(2 ^ 36, 8), (16, 4), (2, 1)])) 0x3809 1 (pack [(5, 2), (0, 1), (0xFF, 1), (3, 1), (0, 1), (16, 2), (32, 4)])
  { c with lap := { c.lap with
      tables := [(9, { Table.reset with state := 2 })], job := some jobOpeningGrain, stat := { c.lap.stat with state := 2, table := 9, mseq := 1 } } }

/-- Refutes O33: its clause on an open that takes a frame asks that the Spaces' state stays as it was, but the fill of the frame is a set descriptor, which counts in the
drain counter of the Space's generation (R79). In `unitOpeningGrain` the counter of Space 5 goes from 0 to 1. -/
theorem not_manifestsAreTakenAndApplied : ¬ Obligations.ManifestsAreTakenAndApplied := by
  unfold Obligations.ManifestsAreTakenAndApplied
  rintro ⟨-, -, -, -, -, -, -, -, -, -, -, -, -, -, -, -, hopen, -⟩
  have hroom : openRoom jobOpeningGrain = true := by decide
  obtain ⟨x, hframe, hfill⟩ : ∃ x, takeFrame unitOpeningGrain 2 0 (.fresh 9) = (some 0, x) ∧ fillNeeded x jobOpeningGrain 0 3 = true :=
    ⟨_, Prod.ext (by decide) rfl, by decide⟩
  obtain ⟨-, -, -, -, -, hkept⟩ := hopen unitOpeningGrain x jobOpeningGrain 0 3 0 rfl hroom hframe
  rw [grainOpen_filled_sp rfl hroom hframe hfill] at hkept
  exact absurd hkept (by decide)

end Sys2Proof.Machine
end

section
/-! What drain marks, frames and counts leave of Lapidary (R80, R103, R168, R175). -/

namespace Sys2Proof.Machine

section LapFrame
variable (c : Chip)

@[simp] theorem mirror_lap (k : MirrorKind) (n : Nat) (rq : Option (Src × Req)) : (mirror c k n rq).lap = c.lap := by
  unfold mirror
  split <;> rfl

@[simp] theorem wpReleaseOpt_lap (b : Option (Nat × Nat)) : (wpReleaseOpt c b).lap = c.lap := by cases b <;> rfl

@[simp] theorem discardSd_lap (i : Nat) : (discardSd c i).lap = c.lap := by
  unfold discardSd
  split
  · rfl
  · dsimp only
    split <;> simp [drainDec]

@[simp] theorem settleSd_lap (i : Nat) : (settleSd c i).lap = c.lap := by
  unfold settleSd
  split
  · split
    · exact discardSd_lap c i
    · rfl
  · rfl

@[simp] theorem markRedo_lap (o : Owner) : (markRedo c o).lap = c.lap := by
  cases o with
  | node q e n => simp [markRedo, leaveChan, unbind]
  | _ => rfl

@[simp] theorem recutSd_lap (i : Nat) : (recutSd c i).lap = c.lap := by
  unfold recutSd
  split
  · split
    · simp [truncateSd]
    · rfl
  · rfl

@[simp] theorem dropCut_lap (q e n : Nat) : (dropCut c q e n).lap = c.lap := by
  unfold dropCut
  dsimp only
  split
  · rfl
  · split
    · split <;> simp
    · simp

@[simp] theorem retranslate_lap (sp : Nat) (ok : Nat → Bool) : (retranslate c sp ok).lap = c.lap :=
  (foldl_keeps Chip.lap recutSd_lap _ _).trans
    (foldl_keeps (f := fun c (x : Nat × Nat × Nat) => dropCut c x.1 x.2.1 x.2.2) Chip.lap (fun d x => dropCut_lap d x.1 x.2.1 x.2.2) _ c)

@[simp] theorem clearOldest_lap (sp : Nat) : (clearOldest c sp).lap = c.lap := by
  unfold clearOldest
  split
  · exact retranslate_lap c sp _
  · rfl

/-- A bump without a mapping change withdraws no table. -/
theorem takeEffect_lap {b : Bump} (hb : b.change = .none) (g : Nat) : (takeEffect c b g).lap = c.lap := by
  unfold takeEffect
  rw [hb]
  dsimp only
  split
  · exact retranslate_lap _ _ _
  · rfl

theorem newBump_lap (sp : Nat) (hard : Bool) (by_ : BumpBy) : (newBump c sp hard by_ .none).lap = c.lap := by
  have happly : (applyBump (withOwnBump c sp hard by_ .none) (freshBump c)).lap = c.lap := by
    rw [applyBump_eq getBump_withOwnBump, clearOldest_lap, takeEffect_lap _ rfl]
    rfl
  unfold newBump
  dsimp only
  split
  · rfl
  · split
    · rw [clearOldest_lap]
      split <;> rfl
    · split
      · exact happly
      · exact (mirror_lap ..).trans happly

theorem joinBump_soft_lap (b : Bump) (by_ : BumpBy) (m : MapChange) : (joinBump c b false by_ m).lap = c.lap := by
  unfold joinBump
  dsimp only
  split
  · split <;> rfl
  · simp [modBump]

@[simp] theorem drainMark_lap (sp : Nat) (by_ : BumpBy) : (drainMark c sp by_).lap = c.lap := by
  unfold drainMark requestBump
  split
  · dsimp only
    split
    · rw [joinBump_soft_lap]
    · rw [mirror_lap, joinBump_soft_lap]
  · exact newBump_lap c sp false by_

@[simp] theorem tellOther_lap (sp seg g : Nat) : (tellOther c sp seg g).lap = c.lap := by
  obtain ⟨_, _, h⟩ := tellOther_spec c sp seg g
  rw [h]

@[simp] theorem tellOther_maps (sp seg g : Nat) : (tellOther c sp seg g).geo.maps = c.geo.maps := by
  obtain ⟨_, _, h⟩ := tellOther_spec c sp seg g
  rw [h]

@[simp] theorem freeFrame_lap (k : Nat) : (freeFrame c k).lap = c.lap := by
  obtain ⟨_, _, _, h⟩ := freeFrame_spec c k
  rw [h]

@[simp] theorem freeFrame_maps (k : Nat) : (freeFrame c k).geo.maps = c.geo.maps := by
  obtain ⟨_, _, _, h⟩ := freeFrame_spec c k
  rw [h]

theorem countWait_spec (t : Nat) : ∃ ob, countWait c t = { c with objs := ob } := by
  unfold countWait
  split
  · split <;> exact ⟨_, rfl⟩
  · exact ⟨_, rfl⟩

@[simp] theorem releaseJob_lap (j : LapJob) (keep : Bool) : (releaseJob c j keep).lap = c.lap := by
  unfold releaseJob
  refine (foldl_keeps (f := fun c (b : Nat × Nat) => wpRelease c b.1) Chip.lap (fun _ _ => rfl) _ _).trans ?_
  split <;> rfl

end LapFrame

theorem getTable_of_tables {c d : Chip} (h : c.lap.tables = d.lap.tables) (t : Nat) : getTable c t = getTable d t := by rw [getTable, h, getTable]

theorem getTable_of_lap {c d : Chip} (h : c.lap = d.lap) (t : Nat) : getTable c t = getTable d t := getTable_of_tables (congrArg LapSt.tables h) t

/-- A cleared bit reads as clear. -/
@[simp] theorem bit_setBit_false (v i : Nat) : bit (setBit v i false) i = false := by
  have hle : 2 ^ i * (v / 2 ^ i % 2) ≤ v := Nat.le_trans (Nat.mul_le_mul_left _ (Nat.mod_le _ _)) (Nat.mul_div_le v _)
  have hdiv : setBit v i false / 2 ^ i = v / 2 ^ i - v / 2 ^ i % 2 := by
    simpa [setBit, setBits, bits, b2n, Nat.mul_comm] using Nat.sub_mul_div v (2 ^ i) (v / 2 ^ i % 2)
  rw [bit, hdiv, beq_eq_false_iff_ne]
  omega

end Sys2Proof.Machine
end

section
/-! Lapidary tables: define, undefine and serve (R154, R155, R157). -/

namespace Sys2Proof.Machine

section TableRows
variable {t : Nat} (h1 : 1 ≤ t) (h2 : t < 256)
include h1 h2

theorem writesBy_tableDefine : WritesBy (fun src tag => .tableDefine src tag t) (0x3800 + t) 2 (leBytes 1 1) (tableDefine t) id :=
  fun _ _ _ hp => becomes_event rfl (by simp [h1, h2, hp]) rfl

theorem writesBy_tableUndefine : WritesBy (fun src tag => .tableUndefine src tag t) (0x3800 + t) 2 (leBytes 1 2) (tableUndefine t) id :=
  fun _ _ _ hp => becomes_event rfl (by simp [h1, h2, hp]) rfl

end TableRows

/-! DEFINE, by its checks and by the escape slots (R154, R155, R157). -/

section Define
variable {c : Chip} {t : Nat}

theorem tableDefine_range (hb : tableDefBad c t = true) : tableDefine t c = (5, c) := by simp [tableDefine, hb]

theorem tableDefine_state (hb : tableDefBad c t = false) (hs : (getTable c t).state ≠ 0) : tableDefine t c = (7, c) := by simp [tableDefine, hb, hs]

variable (hb : tableDefBad c t = false) (hs : (getTable c t).state = 0)
  (hsp : (getSpace c (tabSpace c t)).state = 1 ∨ (getSpace c (tabSpace c t)).state = 2) (hten : c.sec.ten.state = 2)
include hb hs hsp hten

theorem tableDefine_noSlots (he : tabEscSlots c t = 0) : tableDefine t c = (0, setTable c t { getTable c t with state := 1 }) := by
  have hn : roundUp ((0 + 7) / 8) 0x200000 = 0 := by decide
  simpa [tableDefine, hb, hs, hten, he, hn, modTable] using hsp.resolve_left

/-- The bitmap of at least one slot takes a run that is not empty. -/
theorem tableDefine_slots (he : tabEscSlots c t ≠ 0) {a : Nat} {d : Chip} (ha : spAlloc c (roundUp ((tabEscSlots c t + 7) / 8) 0x200000) = some (a, d)) :
    tableDefine t c = (0, modTable d t fun x => { x with state := 1, bitmap := some (a, roundUp ((tabEscSlots c t + 7) / 8) 0x200000) }) := by
  have hn : roundUp ((tabEscSlots c t + 7) / 8) 0x200000 ≠ 0 := by
    unfold roundUp
    omega
  simpa [tableDefine, hb, hs, hten, hn, ha] using hsp.resolve_left

end Define

/-! UNDEFINE (R154). -/

section Undefine
variable {c : Chip} {t : Nat}

theorem tableUndefine_turnedAway (h : (getTable c t).state = 0 ∨ tableCarried c t = true ∨ ∃ p, p ∈ c.lap.posts ∧ p.table = t) :
    tableUndefine t c = (7, c) := by
  have hany : (∃ p, p ∈ c.lap.posts ∧ p.table = t) ↔ c.lap.posts.any (fun p => p.table == t) = true := by simp
  rw [hany] at h
  rcases h with h | h | h <;> simp [tableUndefine, h]

theorem tableUndefine_noBitmap (hs : (getTable c t).state ≠ 0) (hc : tableCarried c t = false) (hp : ∀ p, p ∈ c.lap.posts → p.table ≠ t)
    (hm : (getTable c t).bitmap = none) : tableUndefine t c = (0, setTable c t Table.reset) := by
  have hposts : c.lap.posts.any (fun p => p.table == t) = false := by simpa using hp
  simp [tableUndefine, undefine, hs, hc, hposts, hm]

end Undefine

/-- A DEFINED table whose row segment carries it, and which has no escape segment, serves from its start (R154). -/
theorem getTable_tableServe {c : Chip} {t : Nat} (h0 : t ≠ 0) (hs : (getTable c t).state = 1) (hr : carriesTable c t (tabRowSeg c t) = true)
    (he : tabEscSeg c t = 0xFF) : getTable (tableServe c t) t = { getTable c t with
      state := 2, epoch := 0, newest := 0, older := 0, pins0 := 0, pins1 := 0, lineage := zeros 48, prior := [], relLeft := [] } := by
  simp [tableServe, h0, hs, hr, he, getTable_of_lap (mirror_lap _ _ _ _), modTable]

/-- Settles O32: DEFINE by its checks and its escape slots, UNDEFINE by what still names the table, then the start of service. -/
theorem tablesAreDefinedAndServe : Obligations.TablesAreDefinedAndServe := by
  unfold Obligations.TablesAreDefinedAndServe
  refine ⟨fun t h1 h2 => (writesBy_tableDefine h1 h2).does fun c ⟨hb, hs, hsp, hten, he⟩ => tableDefine_noSlots hb hs hsp hten he,
    fun s src tag t a c h1 h2 ⟨⟨hp, hc⟩, hf⟩ hb hs hsp hten he ha => ?_,
    fun t h1 h2 => (writesBy_tableDefine h1 h2).turnsAway fun c hb => tableDefine_range hb,
    fun t h1 h2 => (writesBy_tableDefine h1 h2).turnsAway fun c ⟨hb, hs⟩ => tableDefine_state hb hs,
    fun t h1 h2 => (writesBy_tableUndefine h1 h2).does fun c ⟨hs, hc, hp, hm⟩ => tableUndefine_noBitmap hs hc hp hm,
    fun t h1 h2 => (writesBy_tableUndefine h1 h2).turnsAway fun c h => tableUndefine_turnedAway h,
    fun c t h0 hs hr he => by simp [getTable_tableServe h0 hs hr he]⟩
  have hserved := writesBy_tableDefine h1 h2 s src tag hp
  rwa [serve_handled hc hf, tableDefine_slots hb hs hsp hten he ha] at hserved

end Sys2Proof.Machine
end

section
/-! Commit, publish and the release of the older epoch (R164 to R169). -/

namespace Sys2Proof.Machine

/-! The commit sweep (R90, R166). -/

@[simp] theorem commitGrain_mode (c : Chip) (t : Nat) (g : OpenGrain) : (commitGrain c t g).mode = c.mode := by
  obtain ⟨_, _, h⟩ := tellOther_spec (modTable _ t _) (tabSpace c t) g.seg g.grain
  unfold commitGrain
  dsimp only
  rw [h]
  split <;> rfl

/-- The sweep writes the grain's entry; what follows leaves the maps. -/
theorem entryOf_commitGrain {c : Chip} {t : Nat} {g : OpenGrain} (hm : (tget c.geo.maps (mapKey (tabSpace c t) g.seg)).isSome = true) :
    entryOf (commitGrain c t g) (tabSpace c t) g.seg g.grain = committedEntry c (entryOf c (tabSpace c t) g.seg g.grain) g.frame := by
  refine Eq.trans (entryOf_of_maps (d := setEntry c (tabSpace c t) g.seg g.grain _) ?_ _ _ _) (entryOf_setEntry hm g.grain _)
  unfold commitGrain
  dsimp only
  rw [tellOther_maps, modTable_geo]
  split <;> rfl

section Sweep
variable {c : Chip} {j : LapJob} {g : OpenGrain} {r : List OpenGrain} (hj : c.lap.job = some j)
include hj

theorem commitStep_more (hl : j.left = g :: r) (hr : r ≠ []) :
    commitStep c = modJob (commitGrain c j.post.table g) fun x => { x with left := r } := by
  simp [commitStep, hj, hl, hr]

theorem commitStep_last (hl : j.left = [g]) : commitStep c =
    if c.mode = .doublet then holdPublish (modJob (commitGrain c j.post.table g) fun x => { x with left := [] })
    else publish (modJob (commitGrain c j.post.table g) fun x => { x with left := [] }) := by
  simp [commitStep, hj, hl, modJob]

end Sweep

theorem becomes_commitSweepStep {s : State} {j : LapJob} {g : OpenGrain} {r : List OpenGrain} (hj : s.lap.job = some j) (hs : s.lap.stat.state = 4)
    (hl : j.left = g :: r) (hm : eMigr (entryOf s.toChip (tabSpace s.toChip j.post.table) g.seg g.grain) = false) {d : Chip}
    (hd : commitStep s.toChip = d) : BecomesOn 6 .commitSweepStep s (react d) :=
  becomesOn_event rfl (by simp [hj, hs, hl, hm]) (congrArg react hd)

theorem holdPublish_lap {c : Chip} (h : c.lap.job ≠ none) : (holdPublish c).lap = { c.lap with holding := true } := by
  obtain ⟨j, hj⟩ := Option.ne_none_iff_exists'.mp h
  simp [holdPublish, hj]

/-! The publish (R164, R166, R169). -/

/-- The table of a manifest with its next epoch published, while its older epoch is still pinned. -/
def publishedTable (c : Chip) (j : LapJob) : Table :=
  let x := getTable c j.post.table
  let e := (x.epoch + 1) % 2 ^ 32
  { x with
    epoch := e, newest := e, older := 1, pins1 := x.pins0, pins0 := 0, lastSeq := j.post.mseq, lineage := sha384 (lineageBytes x j e)
    slots := x.slots.filter (fun n => !j.toFree.contains n), priorRun := j.run, publishTick := now c, alerted := false }

/-- The release of an older epoch that nothing pins begins; its drain mark leaves Lapidary (R168). -/
theorem startRelease_lap (c : Chip) (t : Nat) : (startRelease c t).lap =
    if (getTable c t).older = 1 ∧ (getTable c t).pins1 = 0 then (setTable c t { getTable c t with older := 2 }).lap else c.lap := by
  by_cases h : (getTable c t).older = 1 ∧ (getTable c t).pins1 = 0 <;> simp [startRelease, h]

/-- A publish ends the manifest with its table published; then the older epoch's release begins, if nothing pins it. -/
theorem publish_spec {c : Chip} {j : LapJob} (hj : c.lap.job = some j) : ∃ d, publish c = startRelease d j.post.table
    ∧ getTable d j.post.table = publishedTable c j ∧ d.lap.job = none ∧ d.lap.stat.state = 5 := by
  simp only [publish, hj]
  refine ⟨_, rfl, ?_, rfl, rfl⟩
  exact (getTable_of_tables (congrArg LapSt.tables (releaseJob_lap (setTable c j.post.table (publishedTable c j)) j true)) _).trans (getTable_setTable ..)

theorem getTable_publish {c : Chip} {j : LapJob} (hj : c.lap.job = some j) : getTable (publish c) j.post.table =
    { publishedTable c j with older := if (getTable c j.post.table).pins0 = 0 then 2 else 1 } := by
  obtain ⟨d, hd, ht, -, -⟩ := publish_spec hj
  have hlap := startRelease_lap d j.post.table
  rw [ht] at hlap
  rw [hd]
  by_cases hp : (getTable c j.post.table).pins0 = 0
  · rw [if_pos ⟨rfl, hp⟩] at hlap
    rw [getTable_of_lap hlap, getTable_setTable, if_pos hp]
  · rw [if_neg fun h => hp h.2] at hlap
    rw [getTable_of_lap hlap, ht, if_neg hp]
    rfl

theorem publish_ends {c : Chip} {j : LapJob} (hj : c.lap.job = some j) : (publish c).lap.job = none ∧ (publish c).lap.stat.state = 5 := by
  obtain ⟨d, hd, -, hjob, hstat⟩ := publish_spec hj
  rw [hd, startRelease_lap]
  split
  · exact ⟨hjob, hstat⟩
  · exact ⟨hjob, hstat⟩

/-! The release of the older epoch (R90, R168). -/

/-- One grain of the prior table is given up: PRIOR clears, a frame that held the prior copy returns, and the grains `r` are left. -/
def releasedGrain (c : Chip) (t : Nat) (g : OpenGrain) (r : List OpenGrain) : Chip :=
  let d := tellOther (clearPrior c (tabSpace c t) g) (tabSpace c t) g.seg g.grain
  modTable (if eRes g.old then freeFrame d (eFrame d g.old) else d) t fun x => { x with relLeft := r, prior := x.prior.filter (· != g) }

theorem releaseStep_eq {c : Chip} {t : Nat} {g : OpenGrain} {r : List OpenGrain} (hl : (getTable c t).relLeft = g :: r) :
    releaseStep t c = if r.isEmpty then releaseEnd (releasedGrain c t g r) t else releasedGrain c t g r := by
  simp only [releaseStep, hl]
  rfl

theorem getTable_releasedGrain (c : Chip) (t : Nat) (g : OpenGrain) (r : List OpenGrain) :
    getTable (releasedGrain c t g r) t = { getTable c t with relLeft := r, prior := (getTable c t).prior.filter (· != g) } := by
  unfold releasedGrain
  dsimp only
  rw [modTable, getTable_setTable, getTable_of_lap (d := c)]
  split <;> simp [clearPrior, putEntry, setEntry]

theorem ePrior_releasedGrain {c : Chip} {t : Nat} {g : OpenGrain} (hm : (tget c.geo.maps (mapKey (tabSpace c t) g.seg)).isSome = true)
    (r : List OpenGrain) : ePrior (entryOf (releasedGrain c t g r) (tabSpace c t) g.seg g.grain) = false := by
  have hmaps : (releasedGrain c t g r).geo.maps = (setEntry c (tabSpace c t) g.seg g.grain (setBit (entryOf c (tabSpace c t) g.seg g.grain) 37 false)).geo.maps := by
    unfold releasedGrain
    dsimp only
    rw [modTable_geo]
    split <;> simp [clearPrior, putEntry]
  rw [entryOf_of_maps hmaps, entryOf_setEntry hm, ePrior, bit_setBit_false]

theorem getTable_releaseEnd (c : Chip) (t : Nat) : getTable (releaseEnd c t) t =
    { getTable c t with older := 0, prior := [], priorRun := (0, 0), relLeft := [], alerted := false } := getTable_setTable ..

@[simp] theorem releaseEnd_maps (c : Chip) (t : Nat) : (releaseEnd c t).geo.maps = c.geo.maps := by
  obtain ⟨_, h⟩ := countWait_spec c t
  unfold releaseEnd
  dsimp only
  rw [h]
  split <;> rfl

/-! The stall alert (R168). -/

theorem stallAlert_epoch {c : Chip} {t : Nat} (he : epochStalled c t (now c) = true) (hj : jobStalled c t (now c) = false) :
    stallAlert c t = raiseEv (modTable c t fun x => { x with alerted := true }) 179 t 2 0 := by
  have hkept : jobStalled (modTable c t fun x => { x with alerted := true }) t (now c) = jobStalled c t (now c) := rfl
  simp [stallAlert, he, hkept, hj]

/-- Settles O34: the sweep step by step, the publish through the table it leaves, then the release grain by grain and its alert. -/
theorem commitsPublishTheNextEpoch : Obligations.CommitsPublishTheNextEpoch := by
  unfold Obligations.CommitsPublishTheNextEpoch
  refine ⟨fun s j now hj hs hfr htick hold => ?_, fun s j g r hj hs hl hm hr => becomes_commitSweepStep hj hs hl hm (commitStep_more hj hl hr),
    fun s j g hj hs hl hmode hm => becomes_commitSweepStep hj hs hl hm ((commitStep_last hj hl).trans (if_neg hmode)),
    fun s j g hj hs hl hmode hm => becomes_commitSweepStep hj hs hl hm ((commitStep_last hj hl).trans (if_pos hmode)),
    fun c h => by simp [holdPublish_lap h], fun s h => becomesOn_event rfl h rfl, fun c t g => entryOf_commitGrain,
    fun c j hj => ?_, fun s t ho hl => becomesOn_event rfl (by simp [ho, hl]) rfl,
    fun c t g r hl hr => ?_, fun c t g hl => ?_, fun c t g r hl hm => ?_, fun s t now he hj => ?_⟩
  · have hcome : j.commitTick ≤ nowAt s.toChip now := htick
    exact becomesOn_event rfl (by simp [hj, hs, hfr, hold, hcome]) (by simp [commitStart, modJob, setApply, hj])
  · have hends := publish_ends hj
    simp [getTable_publish hj, publishedTable, hends]
  · simp [releaseStep_eq hl, hr, getTable_releasedGrain]
  · simp [releaseStep_eq hl, getTable_releaseEnd, getTable_releasedGrain]
  · rw [← ePrior_releasedGrain hm r, releaseStep_eq hl]
    refine congrArg ePrior (entryOf_of_maps ?_ _ _ _)
    split <;> simp
  · exact becomesOn_event rfl (Bool.or_eq_true_iff.mpr (.inl he)) (stallAlert_epoch he hj)

end Sys2Proof.Machine
end

section
/-! A failed ring read returns its entries (R180). -/

namespace Sys2Proof.Machine

/-! A key written twice holds what came last. -/

section TputTwice
variable {α : Type} {t : Tab α} {k : Nat}

theorem tset_tset (v w : α) : tset (tset t k v) k w = tset t k w := by
  induction t with
  | nil => simp [tset]
  | cons x r ih =>
    obtain ⟨j, u⟩ := x
    rcases Nat.lt_trichotomy k j with h | rfl | h
    · simp [tset, h]
    · simp [tset]
    · simp [tset, Nat.lt_asymm h, Nat.ne_of_gt h, ih]

theorem tdel_tset (v : α) : tdel (tset t k v) k = tdel t k := by
  induction t with
  | nil => simp [tset, tdel]
  | cons x r ih =>
    obtain ⟨j, u⟩ := x
    rcases Nat.lt_trichotomy k j with h | rfl | h
    · simp [tset, tdel, h]
    · simp [tset, tdel]
    · simp [tset, tdel, Nat.lt_asymm h, Nat.ne_of_lt h, Nat.ne_of_gt h, ih]

theorem tdel_of_above (h : above k t) : tdel t k = t := by
  induction t with
  | nil => rfl
  | cons x r ih =>
    obtain ⟨j, u⟩ := x
    have hj : k < j := h (j, u) (by simp)
    simp [tdel, Nat.ne_of_gt hj, ih fun y hy => h y (by simp [hy])]

theorem tdel_tdel : tdel (tdel t k) k = tdel t k := by
  induction t with
  | nil => rfl
  | cons x r ih =>
    obtain ⟨j, u⟩ := x
    by_cases h : j = k <;> simp [tdel, h, ih]

theorem tset_of_above (h : above k t) (v : α) : tset t k v = (k, v) :: t := by
  cases t with
  | nil => rfl
  | cons x r => exact if_pos (h x (by simp))

/-- In a table whose keys strictly rise, a key's place does not depend on what it held. -/
theorem tset_tdel (hs : tsorted t = true) (v : α) : tset (tdel t k) k v = tset t k v := by
  induction t with
  | nil => rfl
  | cons x r ih =>
    obtain ⟨j, u⟩ := x
    obtain ⟨habove, hr⟩ := tsorted_cons.mp hs
    rcases Nat.lt_trichotomy k j with h | rfl | h
    · have hk : above k ((j, u) :: r) := by
        intro y hy
        rcases List.mem_cons.mp hy with rfl | hy
        · exact h
        · exact Nat.lt_trans h (habove y hy)
      rw [tdel_of_above hk]
    · simp [tdel, tset, tdel_of_above habove, tset_of_above habove]
    · simp [tdel, tset, Nat.lt_asymm h, Nat.ne_of_lt h, Nat.ne_of_gt h, ih hr]

variable [DecidableEq α] {d : α}

theorem tput_tput_of_ne {v : α} (hv : v ≠ d) (w : α) : tput (tput t d k v) d k w = tput t d k w := by
  simp [tput, hv, tset_tset, tdel_tset]

theorem tput_tput_of_sorted (hs : tsorted t = true) (v w : α) : tput (tput t d k v) d k w = tput t d k w := by
  by_cases hv : v = d
  · simp [tput, hv, tset_tdel hs, tdel_tdel]
  · exact tput_tput_of_ne hv w

end TputTwice

theorem setQueue_setQueue_of_ne {c : Chip} {v : Queue} (hv : v ≠ Queue.reset) (q : Nat) (w : Queue) :
    setQueue (setQueue c q v) q w = setQueue c q w := by
  simp [setQueue, tput_tput_of_ne hv]

theorem setQueue_setQueue_of_sorted {c : Chip} (hs : tsorted c.bel.queues = true) (q : Nat) (v w : Queue) :
    setQueue (setQueue c q v) q w = setQueue c q w := by
  simp [setQueue, tput_tput_of_sorted hs]

theorem becomesOn_ringReadComplete {s : State} {q : Nat} {r : RdResult} (hr : (getQueue s.toChip q).reading ≠ 0)
    (hf : rdFits r (64 * (getQueue s.toChip q).reading) = true) (ha : ringAgrees s.toChip q r = true) :
    BecomesOn 0 (.ringReadComplete q r) s (react (ringRead q r s.toChip)) := becomesOn_event rfl (by simp [hr, hf, ha]) rfl

/-- Where the queue table is as every update of it leaves it, its keys strictly rising, a failed ring read is RING_ERROR, CAUSE 6, with F at its first entry. -/
theorem becomesOn_ringReadComplete_linkDown {s : State} {q : Nat} (hs : tsorted s.bel.queues = true) (hr : (getQueue s.toChip q).reading ≠ 0)
    (h5 : (getQueue s.toChip q).state ≠ 5) :
    BecomesOn 0 (.ringReadComplete q .linkDown) s (react (setQueue s.toChip q { getQueue s.toChip q with
      reading := 0, f := ((getQueue s.toChip q).f + 2 ^ 32 - (getQueue s.toChip q).reading) % 2 ^ 32, state := 3, cause := 6 })) := by
  have hunit := becomesOn_ringReadComplete (r := .linkDown) hr rfl rfl
  simpa [ringRead, logRead, h5, modQueue, setQueue_setQueue_of_sorted hs] using hunit

/-- A queue at its defaults but for a ring read of one entry in flight. -/
def queueReading : Queue := { Queue.reset with reading := 1 }

/-- Belfry runs, and its table names queue 5 twice. -/
def unitNamingTwice : Chip :=
  { Chip.reset with
    clk := { Chip.reset.clk with enables := 1 }
    bel := { Chip.reset.bel with queues := [(5, queueReading), (5, queueReading)] } }

/-- With the read ended the queue holds its defaults, so both of its entries are removed; the write of the ERROR lists it once. -/
theorem ringRead_unitNamingTwice : (react (ringRead 5 .linkDown unitNamingTwice)).bel.queues.length = 1 := by decide

/-- One write of queue 5 changes its first entry and leaves the second. -/
theorem setQueue_unitNamingTwice :
    (react (setQueue unitNamingTwice 5 { queueReading with reading := 0, f := 2 ^ 32 - 1, state := 3, cause := 6 })).bel.queues.length = 2 := by decide

/-- Refutes O35: its clause on a failed ring read asks that in every state the unit end as after ONE write of the queue, which ends the read, sets F back and puts the queue
in ERROR with CAUSE 6. The unit writes the queue twice: it ends the read, and then sets the rest. The two agree where the keys of the queue table strictly rise
(`becomesOn_ringReadComplete_linkDown`), but the clause does not ask for that: in `unitNamingTwice`, whose table holds queue 5 twice, the first write removes both entries and
one is left in the end, where the clause's write leaves two. -/
theorem not_doorbellsAndRingsAreJudged : ¬ Obligations.DoorbellsAndRingsAreJudged := by
  unfold Obligations.DoorbellsAndRingsAreJudged
  rintro ⟨-, -, -, -, -, -, -, hfail, -⟩
  have hruns : blockRuns unitNamingTwice 0 = true := by decide
  have hclause := hfail ⟨unitNamingTwice, []⟩ 5 (by decide) (by decide) hruns
  have hunit : Becomes (.ringReadComplete 5 .linkDown) ⟨unitNamingTwice, []⟩ (react (ringRead 5 .linkDown unitNamingTwice)) :=
    becomesOn_ringReadComplete (by decide) rfl rfl hruns
  have hsame := congrArg (fun t => t.bel.queues.length) (Host.Outcome.next.inj (hunit.symm.trans hclause))
  simp only [put_bel] at hsame
  exact absurd (ringRead_unitNamingTwice.symm.trans (hsame.trans setQueue_unitNamingTwice)) (by decide)

end Sys2Proof.Machine
end

section
/-! What bumps and the end of a launch leave of the unit's place in the pair (R80, R168, R229, R282). -/

namespace Sys2Proof.Machine

/-- What the global number of a queue takes from the unit (R282): its mode, and which unit of the pair it is. -/
def pairPlace (c : Chip) : Mode × Bool := (c.mode, c.unit1)

theorem globalQueue_of_pairPlace {c d : Chip} (h : pairPlace c = pairPlace d) (q : Nat) : globalQueue c q = globalQueue d q := by
  obtain ⟨hmode, hunit⟩ := Prod.mk.inj h
  rw [globalQueue, globalQueue, hmode, hunit]

section PairPlace
variable (c : Chip)

@[simp] theorem pairPlace_mirror (k : MirrorKind) (n : Nat) (rq : Option (Src × Req)) : pairPlace (mirror c k n rq) = pairPlace c := by
  unfold mirror
  split <;> rfl

@[simp] theorem pairPlace_wpReleaseOpt (b : Option (Nat × Nat)) : pairPlace (wpReleaseOpt c b) = pairPlace c := by cases b <;> rfl

@[simp] theorem pairPlace_modNode (q e n : Nat) (f : NodeRt → NodeRt) : pairPlace (modNode c q e n f) = pairPlace c := by simp [pairPlace]

theorem pairPlace_modSlot (s : Nat) (f : Slot → Slot) : pairPlace (modSlot c s f) = pairPlace c := rfl

/-! Set descriptors and cut jobs end. -/

@[simp] theorem pairPlace_discardSd (i : Nat) : pairPlace (discardSd c i) = pairPlace c := by
  have hreleased (a b : Option (Nat × Nat)) : pairPlace (wpReleaseOpt (wpReleaseOpt c a) b) = pairPlace c := by simp
  unfold discardSd
  split
  · rfl
  · dsimp only
    split
    · exact (pairPlace_modNode ..).trans (hreleased _ _)
    · exact hreleased _ _

@[simp] theorem pairPlace_truncateSd (i : Nat) : pairPlace (truncateSd c i) = pairPlace c := by
  unfold truncateSd settleSd
  split
  · split
    · exact pairPlace_discardSd _ i
    · rfl
  · rfl

@[simp] theorem pairPlace_dropCut (q e n : Nat) : pairPlace (dropCut c q e n) = pairPlace c := by
  have hreleased (d : Chip) (a b : Option (Nat × Nat)) : pairPlace (wpReleaseOpt (wpReleaseOpt d a) b) = pairPlace d := by simp
  unfold dropCut
  dsimp only
  split
  · rfl
  · refine (pairPlace_modNode ..).trans ?_
    split
    · split
      · exact (pairPlace_discardSd ..).trans (hreleased _ _ _)
      · exact hreleased _ _ _
    · exact hreleased _ _ _

@[simp] theorem pairPlace_abortOwner (o : Owner) : pairPlace (abortOwner c o) = pairPlace c := by
  unfold abortOwner
  refine (foldl_keeps pairPlace pairPlace_truncateSd _ _).trans ?_
  cases o with
  | node q e n => exact pairPlace_dropCut (unbind c (.node q e n)) q e n
  | _ => rfl

/-! Drain marks (R80). -/

@[simp] theorem pairPlace_markRedo (o : Owner) : pairPlace (markRedo c o) = pairPlace c := by
  cases o with
  | node q e n => exact (pairPlace_modNode ..).trans (pairPlace_modNode (unbind c (.node q e n)) q e n _)
  | _ => rfl

@[simp] theorem pairPlace_recutSd (i : Nat) : pairPlace (recutSd c i) = pairPlace c := by
  unfold recutSd
  split
  · split
    · rw [pairPlace_truncateSd, pairPlace_markRedo]
    · rfl
  · rfl

@[simp] theorem pairPlace_retranslate (sp : Nat) (ok : Nat → Bool) : pairPlace (retranslate c sp ok) = pairPlace c :=
  (foldl_keeps pairPlace pairPlace_recutSd _ _).trans
    (foldl_keeps (f := fun c (x : Nat × Nat × Nat) => dropCut c x.1 x.2.1 x.2.2) pairPlace (fun d x => pairPlace_dropCut d x.1 x.2.1 x.2.2) _ c)

@[simp] theorem pairPlace_clearOldest (sp : Nat) : pairPlace (clearOldest c sp) = pairPlace c := by
  unfold clearOldest
  split
  · exact pairPlace_retranslate c sp _
  · rfl

/-- A bump without a mapping change retranslates at most. -/
theorem pairPlace_takeEffect {b : Bump} (hb : b.change = .none) (g : Nat) : pairPlace (takeEffect c b g) = pairPlace c := by
  unfold takeEffect
  rw [hb]
  dsimp only
  split
  · exact pairPlace_retranslate _ _ _
  · rfl

theorem pairPlace_newBump (sp : Nat) (hard : Bool) (by_ : BumpBy) : pairPlace (newBump c sp hard by_ .none) = pairPlace c := by
  have happly : pairPlace (applyBump (withOwnBump c sp hard by_ .none) (freshBump c)) = pairPlace c := by
    rw [applyBump_eq getBump_withOwnBump, pairPlace_clearOldest, pairPlace_takeEffect _ rfl]
    rfl
  unfold newBump
  dsimp only
  split
  · rfl
  · split
    · rw [pairPlace_clearOldest]
      split <;> rfl
    · split
      · exact happly
      · exact (pairPlace_mirror ..).trans happly

theorem pairPlace_joinBump_soft (b : Bump) (by_ : BumpBy) (m : MapChange) : pairPlace (joinBump c b false by_ m) = pairPlace c := by
  unfold joinBump
  dsimp only
  split
  · split <;> rfl
  · rfl

@[simp] theorem pairPlace_drainMark (sp : Nat) (by_ : BumpBy) : pairPlace (drainMark c sp by_) = pairPlace c := by
  unfold drainMark requestBump
  split
  · dsimp only
    split
    · exact pairPlace_joinBump_soft ..
    · exact (pairPlace_mirror ..).trans (pairPlace_joinBump_soft ..)
  · exact pairPlace_newBump c sp false by_

/-! The end of a launch (R229). -/

@[simp] theorem pairPlace_releasePin (p : Nat × Nat) : pairPlace (releasePin c p) = pairPlace c := by
  unfold releasePin
  dsimp only
  split
  · rfl
  · split
    · rfl
    · split
      · exact pairPlace_drainMark ..
      · rfl

@[simp] theorem pairPlace_patternLeave (p : Nat) : pairPlace (patternLeave c p) = pairPlace c := by
  unfold patternLeave
  dsimp only
  split
  · exact pairPlace_mirror ..
  · rfl

@[simp] theorem pairPlace_abortRuns (q e : Nat) : pairPlace (abortRuns c q e) = pairPlace c := by
  refine (foldl_keeps pairPlace (fun d k => foldl_keeps pairPlace (fun d r => ?_) _ d) _ _).trans rfl
  split <;> rfl

@[simp] theorem pairPlace_setFinal (q e status node : Nat) : pairPlace (setFinal c q e status node) = pairPlace c := by
  unfold setFinal
  split
  · rfl
  · rename_i l _
    split
    · rfl
    · have hpins (d : Chip) : pairPlace (l.pins.foldl releasePin d) = pairPlace d := foldl_keeps pairPlace pairPlace_releasePin _ d
      have hmoves (d : Chip) : pairPlace (l.nodes.foldl (fun c x => if kindMove x.2.kind then abortOwner c (.node q e x.1) else c) d) = pairPlace d :=
        foldl_keeps pairPlace (fun d x => by split <;> simp) _ d
      have hleft (a : Prop) [Decidable a] (d : Chip) (p : Nat) : pairPlace (if a then d else patternLeave d p) = pairPlace d := by split <;> simp
      have hlate (a : Prop) [Decidable a] (d : Chip) : pairPlace (if a then stat d 0x7044 5 1 else d) = pairPlace d := by split <;> rfl
      dsimp only
      generalize hd : abortRuns _ q e = d
      have hended : pairPlace d = pairPlace c := by
        rw [← hd, pairPlace_abortRuns, pairPlace_abortOwner, pairPlace_abortOwner, hmoves, hpins]
        rfl
      split
      · exact hended
      · split
        · exact hended
        · rw [hlate, hleft, hleft, pairPlace_modSlot, hended]

end PairPlace

end Sys2Proof.Machine
end

section
/-! Queue control, completion in order, flush reads and the watchdog (R182, R188, R189, R194, R195, R197, R199). -/

namespace Sys2Proof.Machine

/-! The rows of queue control. -/

section QueueRows
variable {q : Nat} (hq : q < 4096)
include hq

theorem writesBy_queueCreate : WritesBy (fun src tag => .queueCreate src tag q) (0x2000 + q) 2 (leBytes 1 1) (queueCreate q) id :=
  fun _ _ _ hp => becomes_event rfl (by simp [hq, hp]) rfl

theorem writesBy_queueResume : WritesBy (fun src tag => .queueResume src tag q) (0x2000 + q) 2 (leBytes 1 2) (queueResume q) id :=
  fun _ _ _ hp => becomes_event rfl (by simp [hq, hp]) rfl

theorem writesBy_queueDestroy : WritesBy (fun src tag => .queueDestroy src tag q) (0x2000 + q) 2 (leBytes 1 3) (queueDestroy q) react :=
  fun _ _ _ hp => becomes_event rfl (by simp [hq, hp]) rfl

theorem writesBy_queueReattach : WritesBy (fun src tag => .queueReattach src tag q) (0x2000 + q) 2 (leBytes 1 4) (queueReattach q) id :=
  fun _ _ _ hp => becomes_event rfl (by simp [hq, hp]) rfl

end QueueRows

section Control
variable {c : Chip} {q : Nat}

/-! CREATE (R182, R199). -/

theorem queueCreate_range (hb : queueConfBad c q = true) : queueCreate q c = (5, c) := by simp [queueCreate, hb]

theorem queueCreate_taken (hb : queueConfBad c q = false) (h0 : (getQueue c q).state ≠ 0) (h6 : (getQueue c q).state ≠ 6) :
    queueCreate q c = (7, c) := by simp [queueCreate, hb, h0, h6]

theorem queueCreate_fresh (hb : queueConfBad c q = false) (hs : (getQueue c q).state = 0 ∨ (getQueue c q).state = 6)
    (hp : ¬ (homePort c q = .b ∧ (getPort c .b).pool = true)) (ht : q = 0 ∨ c.sec.ten.state = 2) (hn : isSilent c q = false) :
    queueCreate q c = (0, setQueue c q { Queue.reset with state := 1, space := qSpace c q }) := by
  have hopen : (!((getQueue c q).state == 0 || (getQueue c q).state == 6) || (homePort c q == .b && (getPort c .b).pool)
      || (q != 0 && c.sec.ten.state != 2)) = false := by
    simp only [Bool.or_eq_false_iff]
    exact ⟨⟨by rcases hs with h | h <;> simp [h], by simpa using hp⟩, by rcases ht with h | h <;> simp [h]⟩
  have hplain (x : Queue) : isSilent (setQueue c q x) q = false := hn
  rw [queueCreate, if_neg (by simp [hb]), if_neg (Bool.eq_false_iff.mp hopen)]
  simp [hn, hplain]

/-! RESUME (R182): with no OVERRUN pending, the idle check that follows finds nothing to change. -/

theorem queueResume_turnedAway (hs : (getQueue c q).state ≠ 3) : queueResume q c = (7, c) := by simp [queueResume, hs]

/-- The state that RESUME gives a queue. -/
def resumed (x : Queue) : Queue := { x with state := if x.f = x.p then 1 else 2 }

theorem resumed_ne_reset (x : Queue) : resumed x ≠ Queue.reset := by
  intro h
  have hstate := congrArg Queue.state h
  simp only [resumed, Queue.reset] at hstate
  split at hstate <;> contradiction

theorem idleCheck_resumed {x : Queue} (ho : x.overrun = false) : idleCheck (setQueue c q (resumed x)) q = setQueue c q (resumed x) := by
  rw [idleCheck, modQueue, getQueue_setQueue, setQueue_setQueue_of_ne (resumed_ne_reset x)]
  by_cases h : x.f = x.p <;> simp [resumed, ho, h]

theorem queueResume_resumed (hs : (getQueue c q).state = 3) (ho : (getQueue c q).overrun = false) :
    queueResume q c = (0, setQueue c q (resumed (getQueue c q))) := by
  rw [queueResume, if_neg (by simp [hs])]
  exact congrArg (Prod.mk 0) (idleCheck_resumed ho)

/-! DESTROY (R192) and REATTACH (R197). -/

theorem queueDestroy_starts (h0 : q ≠ 0) (h1 : 1 ≤ (getQueue c q).state) (h4 : (getQueue c q).state ≤ 4) :
    queueDestroy q c = (0, startDestroy c q 8 false) := by
  simp [queueDestroy, h0, Nat.not_lt_of_le h1, Nat.not_lt_of_le h4]

theorem queueDestroy_turnedAway (h : q = 0 ∨ (getQueue c q).state = 0 ∨ 4 < (getQueue c q).state) : queueDestroy q c = (7, c) := by
  rcases h with h | h | h <;> simp [queueDestroy, h]

theorem queueReattach_returns (hs : (getQueue c q).state = 4) (ha : (getPort c (homePort c q)).attached = true)
    (he : (getQueue c q).heldEpoch < (getPort c (homePort c q)).epoch) :
    queueReattach q c = (0, showMirror (setQueue ((getQueue c q).held.foldl (fun c r => writeRecord c q r true) c) q
      { getQueue c q with state := 1, p := (getQueue c q).f, held := [], shown := (getQueue c q).completed }) q) := by
  simp [queueReattach, hs, ha, Nat.not_le_of_lt he]

theorem queueReattach_turnedAway (h : (getQueue c q).state ≠ 4 ∨ (getPort c (homePort c q)).attached = false
    ∨ (getPort c (homePort c q)).epoch ≤ (getQueue c q).heldEpoch) : queueReattach q c = (7, c) := by
  rcases h with h | h | h <;> simp [queueReattach, h]

end Control

/-! What completion leaves of Belfry (R188, R191). -/

section Completion
variable (c : Chip) (q : Nat) (r : Record)

@[simp] theorem unitWrite_bel (p : HPort) (a : Nat) (bs : Bytes) : (unitWrite c p a bs).bel = c.bel := by
  unfold unitWrite plainWrite
  split
  · rfl
  · split <;> rfl

@[simp] theorem writeRecord_bel (held : Bool) : (writeRecord c q r held).bel = c.bel := by
  unfold writeRecord
  split
  · exact unitWrite_bel ..
  · rfl

@[simp] theorem showMirror_bel : (showMirror c q).bel = c.bel := by
  unfold showMirror
  split
  · rfl
  · exact unitWrite_bel ..

@[simp] theorem estimateUpdate_bel (l : Launch) : (estimateUpdate c l).bel = c.bel := by
  unfold estimateUpdate
  split
  · rfl
  · rfl

theorem getQueue_of_bel {c d : Chip} (h : c.bel = d.bel) (q : Nat) : getQueue c q = getQueue d q := by rw [getQueue, h, getQueue]

theorem getQueue_modQueue (f : Queue → Queue) : getQueue (modQueue c q f) q = f (getQueue c q) := getQueue_setQueue ..

theorem getQueue_showCompleted : getQueue (showCompleted c q) q = { getQueue c q with shown := (getQueue c q).completed } := by
  unfold showCompleted
  dsimp only
  split
  next h => exact congrArg (fun n => { getQueue c q with shown := n }) h
  next => rw [getQueue_of_bel (showMirror_bel ..), getQueue_setQueue]

/-- The internal count moves first (R188 step 3). -/
theorem getQueue_markDone : getQueue (modQueue (stat c 0x7020 6 1) q fun x => markDone x r.entry) q = markDone (getQueue c q) r.entry :=
  getQueue_modQueue ..

theorem getQueue_completeEntry_held (h : (getQueue c q).state = 4 ∨ (getQueue c q).state = 5) : getQueue (completeEntry c q r) q =
    { markDone (getQueue c q) r.entry with held := (getQueue c q).held ++ [r] } := by
  have hstate : (markDone (getQueue c q) r.entry).state = 4 ∨ (markDone (getQueue c q) r.entry).state = 5 := h
  simp only [completeEntry, getQueue_markDone]
  rw [if_pos (by simpa using hstate), getQueue_modQueue, getQueue_markDone]
  rfl

theorem getQueue_completeEntry_shown (h4 : (getQueue c q).state ≠ 4) (h5 : (getQueue c q).state ≠ 5) : getQueue (completeEntry c q r) q =
    { markDone (getQueue c q) r.entry with shown := (markDone (getQueue c q) r.entry).completed } := by
  have hstate : ¬ ((markDone (getQueue c q) r.entry).state = 4 ∨ (markDone (getQueue c q) r.entry).state = 5) := not_or.mpr ⟨h4, h5⟩
  simp only [completeEntry, getQueue_markDone]
  rw [if_neg (by simpa using hstate), getQueue_showCompleted, getQueue_of_bel (writeRecord_bel ..), getQueue_markDone]

/-- The next entry in order lengthens the row of completed entries. -/
theorem markDone_next {x : Queue} {e : Nat} (hd : x.doneSet = []) (he : e = x.completed % 2 ^ 32) :
    markDone x e = { x with completed := x.completed + 1, doneSet := [] } := by
  simp [markDone, prefixDone, hd, he]

/-- A later entry waits for those before it. -/
theorem markDone_ahead {x : Queue} {e : Nat} (hd : x.doneSet = []) (he : e ≠ x.completed % 2 ^ 32) : markDone x e = { x with doneSet := [e] } := by
  simp [markDone, prefixDone, hd, he.symm, -Nat.reducePow]

theorem showCompleted_flush : (showCompleted c q).bel.flush = c.bel.flush := by
  unfold showCompleted
  dsimp only
  split
  · rfl
  · rw [showMirror_bel]
    rfl

theorem completeEntry_flush : (completeEntry c q r).bel.flush = c.bel.flush := by
  unfold completeEntry
  dsimp only
  split
  · rfl
  · rw [showCompleted_flush, writeRecord_bel]
    rfl

end Completion

/-! The flush reads (R189). -/

theorem two_setTwo_ne {α : Type} (t : Two α) {p r : HPort} (h : r ≠ p) (v : α) : two (setTwo t p v) r = two t r := by
  cases p with
  | a =>
    cases r with
    | a => exact absurd rfl h
    | b => rfl
  | b =>
    cases r with
    | a => rfl
    | b => exact absurd rfl h

/-- The flush read in flight on a port returns, if it serves the launch. -/
def flushReturn (q e : Nat) (c : Chip) (p : HPort) : Chip := if inFlush c q e p then modFlush c p fun f => { f with cur := [] } else c

section Flush
variable (c : Chip) (q e : Nat)

theorem inFlush_flushReturn_self (p : HPort) : inFlush (flushReturn q e c p) q e p = false := by
  unfold flushReturn
  split
  next => simp [inFlush, modFlush]
  next h => simpa using h

theorem inFlush_flushReturn_other {p r : HPort} (h : r ≠ p) : inFlush (flushReturn q e c p) q e r = inFlush c q e r := by
  unfold flushReturn
  split
  · simp [inFlush, modFlush, two_setTwo_ne _ h]
  · rfl

/-- Both flush reads that may serve a launch return. -/
def flushesReturned : Chip := flushReturn q e (flushReturn q e c .a) .b

theorem inFlush_flushesReturned (p : HPort) : inFlush (flushesReturned c q e) q e p = false := by
  cases p with
  | a => exact (inFlush_flushReturn_other _ q e (by decide)).trans (inFlush_flushReturn_self c q e .a)
  | b => exact inFlush_flushReturn_self _ q e .b

theorem flushDone_eq : flushDone c q e = if nextFlush (flushesReturned c q e) q e .a || nextFlush (flushesReturned c q e) q e .b
    then flushesReturned c q e
    else match getLaunch (flushesReturned c q e) q e with | some l => finishEntry (flushesReturned c q e) l | none => flushesReturned c q e := rfl

theorem finishEntry_flush (l : Launch) : (finishEntry c l).bel.flush = c.bel.flush :=
  (completeEntry_flush (estimateUpdate c l) l.q (launchRecord l)).trans (congrArg BelfrySt.flush (estimateUpdate_bel c l))

theorem flushDone_flush : (flushDone c q e).bel.flush = (flushesReturned c q e).bel.flush := by
  rw [flushDone_eq]
  split
  · rfl
  · split
    · exact finishEntry_flush ..
    · rfl

theorem inFlush_flushDone (p : HPort) : inFlush (flushDone c q e) q e p = false := by
  rw [inFlush, flushDone_flush]
  exact inFlush_flushesReturned c q e p

variable {c q e}

/-- A launch that no flush read serves completes. -/
theorem flushDone_served {l : Launch} (hl : getLaunch c q e = some l) (h : ∀ p, inFlush c q e p = false ∧ nextFlush c q e p = false) :
    flushDone c q e = finishEntry c l := by
  have hreturn (p : HPort) : flushReturn q e c p = c := if_neg (by simp [(h p).1])
  have hreturned : flushesReturned c q e = c := by rw [flushesReturned, hreturn, hreturn]
  simp [flushDone_eq, hreturned, (h _).2, hl]

theorem becomesOn_completionFlushReadComplete {s : State} {l : Launch} (hl : getLaunch s.toChip q e = some l) (ha : l.asked = true)
    (hm : mayFinish s.toChip l = true) (hf : (inFlush s.toChip q e .a || inFlush s.toChip q e .b) = true
      ∨ (nextFlush s.toChip q e .a || nextFlush s.toChip q e .b) = false) :
    BecomesOn 0 (.completionFlushReadComplete q e) s (react (flushDone s.toChip q e)) := by
  have hdue : dueFlush s.toChip q e = true := by
    rcases hf with hf | hf <;> simp [dueFlush, hl, ha, hm, hf]
  exact becomesOn_event rfl hdue rfl

/-- A port that issues sends one flush read for all launches that wait. -/
theorem startFlush_issues {p : HPort} (hi : canIssue c p = true) (hc : (two c.bel.flush p).cur = []) (hn : (two c.bel.flush p).next ≠ [])
    (hl : ∀ x, x ∈ (two c.bel.flush p).next → (getLaunch c x.1 x.2).isSome = true) :
    startFlush c p = emit (stat (modFlush c p fun _ => ⟨(two c.bel.flush p).next, []⟩) 0x7020 7 1) (.flushRead p) := by
  have hlive : (two c.bel.flush p).next.filter (fun x => (getLaunch c x.1 x.2).isSome) = (two c.bel.flush p).next := List.filter_eq_self.mpr hl
  simp [startFlush, hi, hc, hlive, hn]

end Flush

/-! The watchdog (R194). -/

section Watchdog
variable {s : State} {q e now : Nat} {l : Launch}

theorem becomesOn_watchdogExpiry (hl : getLaunch s.toChip q e = some l) (hf : l.final = 0xFF) (h0 : l.expiry ≠ 0)
    (ht : l.expiry ≤ max s.clk.carillon (now % 2 ^ 64)) {c : Chip} (hc : watchdog q e (advance s.toChip now) = c) :
    BecomesOn 0 (.watchdogExpiry q e now) s (react c) := by
  have hdue : dueWatchdog q e now s.toChip = true := by
    have hnow : l.expiry ≤ nowAt s.toChip now := ht
    simp [dueWatchdog, hl, hf, noFinal, h0, hnow]
  exact becomesOn_event rfl hdue (congrArg react hc)

/-- The event names the queue as before the launch ended. -/
theorem watchdog_eq (c : Chip) (q e : Nat) : watchdog q e c =
    if q = 0 then raiseEv (setFinal c q e 2 0xFFFF) 180 (globalQueue (setFinal c q e 2 0xFFFF) q) 1 0
    else destroyQueue (stat (raiseEv (setFinal c q e 2 0xFFFF) 180 (globalQueue (setFinal c q e 2 0xFFFF) q) 1 0) 0x7020 8 1) q 7 := by
  rw [globalQueue_of_pairPlace (pairPlace_setFinal c q e 2 0xFFFF) q]
  rfl

end Watchdog

/-- Settles O36: the four rows of queue control by their handlers, completion in order or held, the flush reads that launches share, and the watchdog. -/
theorem queuesAreControlledAndComplete : Obligations.QueuesAreControlledAndComplete := by
  unfold Obligations.QueuesAreControlledAndComplete
  refine ⟨fun q hq => (writesBy_queueCreate hq).does fun c ⟨hb, hs, hp, ht, hn⟩ => queueCreate_fresh hb hs hp ht hn,
    fun q hq => (writesBy_queueCreate hq).turnsAway fun c hb => queueCreate_range hb,
    fun q hq => (writesBy_queueCreate hq).turnsAway fun c ⟨hb, h0, h6⟩ => queueCreate_taken hb h0 h6,
    fun q hq => (writesBy_queueResume hq).does fun c ⟨hs, ho⟩ => queueResume_resumed hs ho,
    fun q hq => (writesBy_queueResume hq).turnsAway fun c hs => queueResume_turnedAway hs,
    fun q hq h0 => (writesBy_queueDestroy hq).does fun c ⟨h1, h4⟩ => queueDestroy_starts h0 h1 h4,
    fun q hq => (writesBy_queueDestroy hq).turnsAway fun c h => queueDestroy_turnedAway h,
    fun q hq => (writesBy_queueReattach hq).does fun c ⟨hs, ha, he⟩ => queueReattach_returns hs ha he,
    fun q hq => (writesBy_queueReattach hq).turnsAway fun c h => queueReattach_turnedAway h,
    fun c q r hd h4 h5 => ⟨fun he => ?_, fun he => ?_⟩, fun c q r h => ?_,
    fun s q e l hl ha hm hf => becomesOn_completionFlushReadComplete hl ha hm hf, fun c q e l hl h => flushDone_served hl h,
    fun c q e p _ => inFlush_flushDone c q e p, fun c p hi hc hn hl => startFlush_issues hi hc hn hl,
    fun s e now l hl hf h0 ht => becomesOn_watchdogExpiry hl hf h0 ht ((watchdog_eq ..).trans (if_pos rfl)),
    fun s q e now l hq hl hf h0 ht => becomesOn_watchdogExpiry hl hf h0 ht ((watchdog_eq ..).trans (if_neg hq))⟩
  · simp [getQueue_completeEntry_shown c q r h4 h5, markDone_next hd he]
  · simp [getQueue_completeEntry_shown c q r h4 h5, markDone_ahead hd he]
  · rw [getQueue_completeEntry_held c q r h]
    exact ⟨rfl, rfl⟩

end Sys2Proof.Machine
end

section
/-! Run nodes, Wait-until-tick nodes and Fence nodes (R211, R212, R224 to R228, R249). -/

namespace Sys2Proof.Machine

/-! The clusters: a free core, a dispatch, an arbiter's grant (R224, R227, R249). -/

section Dispatch
variable {c : Chip} {k core : Nat}

theorem becomesOn_runDispatch {s : State} (hk : k < 16) (h : runDispatch s.toChip k = some c) :
    BecomesOn (clusterBlock k) (.runDispatch k) s (react c) :=
  becomesOn_event rfl (by simp [hk, h]) (by simp [hk, h])

theorem runDispatch_redispatch {r : Staged2} (hb : bootRun c k = none) (hp : pickCore c k = some core) (hr : redispatch c k = some r) :
    runDispatch c k = some (dispatchNode (stat c 0x7040 6 1) r.q r.e r.n k core) := by
  simp [runDispatch, hb, hp, hr]

theorem coreFree_of_pickCore (h : pickCore c k = some core) : core < 16 ∧ coreFree c k core = true := rotate_some h

theorem coreFree_iff : coreFree c k core = true ↔ coreUp c k core = true ∧ tget (getClu c k).cores core = none := by
  simp [coreFree]

/-- An arbiter grants one of its requesters: with credits renewed or held, a credit belongs to a request. -/
theorem cadence_grants {old : Tab Nat} {ptr n : Nat} {reqs : List (Nat × Nat)} (h : (cadence old ptr n reqs).1 = some k) : ∃ w, (k, w) ∈ reqs := by
  unfold cadence at h
  dsimp only at h
  split at h
  next j hj =>
    obtain rfl : j = k := Option.some.inj h
    obtain ⟨-, hany⟩ := rotate_some hj
    obtain ⟨r, hr, hcred⟩ := List.any_eq_true.mp hany
    obtain ⟨rfl, -⟩ : r.1 = j ∧ 1 ≤ r.2 := by simpa using hcred
    split at hr
    · exact ⟨r.2, hr⟩
    · obtain ⟨x, hx, rfl⟩ := List.mem_map.mp hr
      exact ⟨x.2, hx⟩
  next => exact absurd h (by simp)

end Dispatch

/-! Results of cores, and cores that do not answer (R226 to R228). -/

section Cores
variable {s : State} {k core word : Nat} {r : CoreRun}

theorem becomesOn_runResult (hr : tget (getClu s.toChip k).cores core = some r) {c : Chip} (hc : runResult (coreDone s.toChip k core) r word = c) :
    BecomesOn (clusterBlock k) (.runResult k core word) s (react c) :=
  becomesOn_event rfl (by simp [hr]) (by simp [hr, hc])

section RunResult
variable {c : Chip} {l : Launch} (hl : getLaunch c r.q r.e = some l) (hf : l.final = 0xFF)
include hl hf

theorem runResult_ok (hw : bits word 0 8 = 0) :
    runResult c r word = completeNode (modNode c r.q r.e r.n fun x => { x with value := bits word 16 16 }) r.q r.e r.n := by
  simp [runResult, hl, hf, noFinal, hw]

theorem runResult_failed (hw : bits word 0 8 ≠ 0) : runResult c r word = setFinal c r.q r.e 5 (r.n % 4096) := by
  simp [runResult, hl, hf, noFinal, hw]

end RunResult

theorem becomesOn_abortWaitExpiry {now : Nat} (hr : tget (getClu s.toChip k).cores core = some r) (ha : r.aborted = true)
    (ht : r.abortAt ≤ max s.clk.carillon (now % 2 ^ 64)) : BecomesOn (clusterBlock k) (.abortWaitExpiry k core now) s
      (react (if k < 8 then raiseEv (fenceCore (advance s.toChip now) k core) (120 + k) core 2 0 else fenceCore (advance s.toChip now) k core)) := by
  have hnow : r.abortAt ≤ nowAt s.toChip now := ht
  exact becomesOn_event rfl (by simp [hr, ha, hnow]) rfl

/-- The first terminal event of a launch is its last (R229). -/
theorem setFinal_final {c : Chip} {q e : Nat} {l : Launch} (hl : getLaunch c q e = some l) (hf : l.final ≠ 0xFF) (status node : Nat) :
    setFinal c q e status node = c := by
  simp [setFinal, hl, noFinal, hf]

end Cores

/-! Nodes that wait (R211, R212). -/

section Waiting
variable {s : State} {q e n : Nat} {l : Launch} {x : NodeRt}

theorem readyNode_some {c : Chip} {kind : Nat} (h : readyNode c q e n kind = some (l, x)) : x.kind = kind ∧ x.st = .ready := by
  cases hl : getLaunch c q e with
  | none => simp [readyNode, hl] at h
  | some m =>
    cases hx : getNode m n with
    | none => simp [readyNode, hl, hx] at h
    | some y =>
      simp only [readyNode, hl, hx, Option.ite_none_right_eq_some, Option.some.injEq, Prod.mk.injEq, Bool.and_eq_true, decide_eq_true_eq, beq_iff_eq] at h
      obtain ⟨⟨⟨-, hkind⟩, hst⟩, -, rfl⟩ := h
      exact ⟨hkind, hst⟩

theorem becomesOn_waitTickReached {now : Nat} (hr : readyNode s.toChip q e n 7 = some (l, x)) (ht : waitTarget l x ≤ max s.clk.carillon (now % 2 ^ 64)) :
    BecomesOn 1 (.waitTickReached q e n now) s (react (completeNode (advance s.toChip now) q e n)) := by
  have hnow : waitTarget l x ≤ nowAt s.toChip now := ht
  exact becomesOn_event rfl (by simp [hr, hnow]) rfl

theorem becomesOn_fenceNodeComplete (hr : readyNode s.toChip q e n 8 = some (l, x)) (hx : x.covers = some []) (ha : x.asked = true)
    (hw : waitsLink s.toChip l = false) : BecomesOn 1 (.fenceNodeComplete q e n) s (react (completeNode s.toChip q e n)) := by
  obtain ⟨hkind, hst⟩ := readyNode_some hr
  exact becomesOn_event rfl (by simp [dueFence, fenceOver, hr, hkind, hst, hx, ha, hw]) rfl

end Waiting

/-! The flush reads of a Fence node (R212). -/

/-- Does a Fence node ask for a flush read of a port: of the home port where it says so, of another that its move nodes wrote? -/
def fenceAsks (c : Chip) (l : Launch) (x : NodeRt) (p : HPort) : Bool :=
  if p = homePort c l.q then bit (fld x.body 0 1) 0 else x.ports / portBit p % 2 == 1

theorem fenceAsks_iff {c : Chip} {l : Launch} {x : NodeRt} {p : HPort} : fenceAsks c l x p = true ↔
    if p = homePort c l.q then bit (fld x.body 0 1) 0 = true else x.ports / portBit p % 2 = 1 := by
  unfold fenceAsks
  split <;> simp

section Fence
variable (c : Chip) (l : Launch) (n : Nat) (x : NodeRt)

theorem foldl_emit_out {α : Type} (f : α → Emit) (as : List α) : (as.foldl (fun d a => emit d (f a)) c).out = (as.map f).reverse ++ c.out := by
  induction as generalizing c with
  | nil => rfl
  | cons a as ih =>
    rw [List.foldl_cons, ih]
    simp [emit]

theorem fenceFlush_out : (fenceFlush c l n x).out =
    ((([HPort.a, .b].filter (fenceAsks c l x)).filter (canIssue c)).map Emit.flushRead).reverse ++ c.out :=
  (modNode_out ..).trans (foldl_emit_out c Emit.flushRead _)

variable {c l x}

theorem flushRead_mem_fenceFlush {p : HPort} (hi : canIssue c p = true) (ha : fenceAsks c l x p = true) :
    Emit.flushRead p ∈ (fenceFlush c l n x).out := by
  have hp : p = .a ∨ p = .b := by cases p <;> simp
  simp [fenceFlush_out, hi, ha, hp]

theorem fenceAsks_none (hp : x.ports = 0) (hb : bit (fld x.body 0 1) 0 = false) (p : HPort) : fenceAsks c l x p = false := by
  simp [fenceAsks, hp, hb]

/-- A Fence node hears of a node that it waits for. -/
theorem fenceHeard_covered {m ports : Nat} {ns : List Nat} (hc : x.covers = some ns) (hm : m ∈ ns) :
    fenceHeard m ports x = { x with covers := some (ns.filter (· != m)), ports := x.ports ||| ports } := by
  simp [fenceHeard, hc, hm]

theorem fenceHeard_plain {m ports : Nat} (hc : x.covers = none) : fenceHeard m ports x = x := by simp [fenceHeard, hc]

end Fence

/-! A node that completes (R207). -/

section Complete
variable {c : Chip} {q e n : Nat} {l : Launch} {x : NodeRt}

theorem tget_map {α β : Type} (f : α → β) (t : Tab α) (k : Nat) : tget (t.map fun y => (y.1, f y.2)) k = (tget t k).map f := by
  induction t with
  | nil => rfl
  | cons y t ih =>
    obtain ⟨j, v⟩ := y
    by_cases h : j = k
    · simp [tget, h]
    · simpa [tget, h] using ih

theorem getLaunch_setLaunch (c : Chip) (l : Launch) : getLaunch (setLaunch c l) l.q l.e = some l := tget_tset_self ..

/-- The launch of a node that completes: the node is COMPLETE, and every node hears of it. -/
theorem getLaunch_completeNode (hl : getLaunch c q e = some l) (hx : getNode l n = some x) (hq : l.q = q) (he : l.e = e) :
    ∃ y, getLaunch (completeNode c q e n) q e = some y
      ∧ y.nodes = (tmod l.nodes n fun z => { z with st := .complete }).map fun z => (z.1, fenceHeard n x.ports z.2) := by
  subst hq he
  simp only [completeNode, hl, hx, Option.bind_some, Option.map_some]
  split
  · exact ⟨_, getLaunch_setLaunch c _, rfl⟩
  · exact ⟨_, getLaunch_setLaunch c _, rfl⟩

theorem getNode_completeNode (hl : getLaunch c q e = some l) (hx : getNode l n = some x) (hq : l.q = q) (he : l.e = e) :
    ((getLaunch (completeNode c q e n) q e).bind fun y => getNode y n) = some (fenceHeard n x.ports { x with st := .complete }) := by
  obtain ⟨y, hy, hnodes⟩ := getLaunch_completeNode hl hx hq he
  have hx' : tget l.nodes n = some x := hx
  rw [hy, Option.bind_some, getNode, hnodes, tget_map, tget_tmod_self, hx', Option.map_some, Option.map_some]

end Complete

/-- Settles O39: a dispatch and an arbiter's grant, each end of a Run node, the nodes that wait, and what a Fence node issues and hears. -/
theorem runWaitAndFenceNodesEnd : Obligations.RunWaitAndFenceNodesEnd := by
  unfold Obligations.RunWaitAndFenceNodesEnd
  refine ⟨fun s k c hk h => becomesOn_runDispatch hk h, fun c k core r hb hp hr => runDispatch_redispatch hb hp hr, fun c k core h => ?_,
    fun s k core word r l hr hl hf => ⟨fun hw => becomesOn_runResult hr (runResult_ok hl hf hw), fun hw => becomesOn_runResult hr (runResult_failed hl hf hw)⟩,
    fun s q e n now h => becomesOn_event rfl h rfl, fun s k core now r hr ha ht => ⟨fun hk => ?_, fun hk => ?_⟩,
    fun old ptr n k reqs h => cadence_grants h, fun c q e status node l hl hf => setFinal_final hl hf status node,
    fun s q e n now l x hr ht => becomesOn_waitTickReached hr ht, fun s q e n l x hr hx ha hw => becomesOn_fenceNodeComplete hr hx ha hw,
    fun c l n x p hi h => flushRead_mem_fenceFlush n hi (fenceAsks_iff.mpr h), fun c l n x hp hb => ?_, fun c q e n l x hl hx hq he => getNode_completeNode hl hx hq he,
    fun n ports x ns hc hn => fenceHeard_covered hc hn, fun n ports x _ hc => fenceHeard_plain hc⟩
  · obtain ⟨hcore, hfree⟩ := coreFree_of_pickCore h
    exact ⟨hcore, coreFree_iff.mp hfree⟩
  · simpa only [if_pos hk] using becomesOn_abortWaitExpiry hr ha ht
  · simpa only [if_neg (Nat.not_lt.mpr hk)] using becomesOn_abortWaitExpiry hr ha ht
  · have hasks : [HPort.a, .b].filter (fenceAsks c l x) = [] := List.filter_eq_nil_iff.mpr fun p _ => by simp [fenceAsks_none hp hb p]
    rw [fenceFlush_out, hasks]
    rfl

end Sys2Proof.Machine
end

section
/-! Patterns: the rows of their control, and the check of an image (R215, R217, R246). -/

namespace Sys2Proof.Machine

/-! The rows of Pattern control. -/

section PatternRows
variable {p : Nat} (hp : p < 1024)
include hp

theorem writesBy_patternRegister : WritesBy (fun src tag => .patternRegister src tag p) (0x4000 + p) 2 (leBytes 1 1) (patternRegister p) id :=
  fun _ _ _ h => becomes_event rfl (by simp [hp, h]) rfl

theorem writesBy_patternRetire : WritesBy (fun src tag => .patternRetire src tag p) (0x4000 + p) 2 (leBytes 1 2) (patternRetire p) id :=
  fun _ _ _ h => becomes_event rfl (by simp [hp, h]) rfl

theorem writesBy_patternClear : WritesBy (fun src tag => .patternClear src tag p) (0x4000 + p) 2 (leBytes 1 3) (patternClear p) id :=
  fun _ _ _ h => becomes_event rfl (by simp [hp, h]) rfl

end PatternRows

section PatternControl
variable {c : Chip} {p : Nat}

theorem patternRegister_free (hs : (getPat c p).state = 0) (ht : c.sec.ten.state = 2) :
    patternRegister p c = (0, setPat c p { getPat c p with state := 1, check := 0 }) := by
  simp [patternRegister, modPat, hs, ht]

theorem patternRegister_turnedAway (h : (getPat c p).state ≠ 0 ∨ c.sec.ten.state ≠ 2) : patternRegister p c = (7, c) := by
  simp [patternRegister, h]

theorem patternRetire_registered (hs : (getPat c p).state = 2) : patternRetire p c =
    (0, if (getPat c p).running = 0 then freePattern (patternsChanged (setPat c p { getPat c p with state := 4 })) p
      else patternsChanged (setPat c p { getPat c p with state := 4 })) := by
  simp [patternRetire, hs]

theorem patternRetire_turnedAway (hs : (getPat c p).state ≠ 2) : patternRetire p c = (7, c) := by simp [patternRetire, hs]

theorem patternClear_failed (hs : (getPat c p).state = 3) : patternClear p c = (0, patternGone c p) := by simp [patternClear, hs]

theorem patternClear_turnedAway (hs : (getPat c p).state ≠ 3) : patternClear p c = (7, c) := by simp [patternClear, hs]

end PatternControl

/-! What a Pattern that is freed, and a staging run that returns, leave. -/

section PatternFrame
variable (c : Chip) (p : Nat)

@[simp] theorem mirror_pat (k : MirrorKind) (n : Nat) (rq : Option (Src × Req)) : (mirror c k n rq).pat = c.pat := by
  unfold mirror
  split <;> rfl

theorem getPat_freePattern : getPat (freePattern c p) p = Pattern.reset := by
  rw [freePattern, getPat_of_pat (mirror_pat ..), getPat_setPat]

theorem getPat_freeRun_ne {r : Nat} (h : r ≠ p) : getPat (freeRun c p) r = getPat c r := by
  unfold freeRun
  split
  · exact getPat_setPat_ne c p _ h
  · rfl

@[simp] theorem freeRun_objs : (freeRun c p).objs = c.objs := by unfold freeRun; split <;> rfl

@[simp] theorem freeRun_bel : (freeRun c p).bel = c.bel := by unfold freeRun; split <;> rfl

end PatternFrame

/-! The check of an image (R215, R246). -/

/-- What the check of a Pattern's image finds: its reason, 0 for a sound image, and where. -/
def imageCheck (c : Chip) (p : Nat) : Nat × Nat × Nat := checkImage (getPat c p).image (obj c 0x44F0 1) (c.mode == .doublet)

/-- The granules of the store that a Pattern's image takes. -/
def imageGranules (c : Chip) (p : Nat) : Nat := ((getPat c p).image.length + 255) / 256

/-- A REGISTERED Pattern at its place in the store, with the seed estimate. -/
def registeredAt (c : Chip) (p g : Nat) (x : Pattern) : Pattern :=
  { x with state := 2, gran := g, granLen := imageGranules c p, est := obj c 0x4402 4 * 1000 }

section ImageCheck
variable {c : Chip} {p : Nat}

theorem checkDone_bad (h : (imageCheck c p).1 ≠ 0) : checkDone p c = checkFailed c p (imageCheck c p) := by
  unfold imageCheck at *
  simp [checkDone, h]

theorem checkDone_noRoom (h : (imageCheck c p).1 = 0) (hf : firstFit 0 32768 (imageGranules c p) (storeUsed c) = none) :
    checkDone p c = checkFailed c p (10, 0, 0) := by
  unfold imageCheck at h
  unfold imageGranules at hf
  simp [checkDone, storeGranules, h, hf]

theorem checkDone_fits {g : Nat} (h : (imageCheck c p).1 = 0) (hf : firstFit 0 32768 (imageGranules c p) (storeUsed c) = some g) :
    checkDone p c = patternsChanged (modPat (freeRun c p) p (registeredAt c p g)) := by
  have hobj : obj (freeRun c p) 0x4402 4 = obj c 0x4402 4 := by simp only [obj, freeRun_objs]
  unfold imageCheck at h
  unfold imageGranules at hf
  simp only [checkDone, storeGranules, h, hf, hobj, bne_self_eq_false, Bool.false_eq_true, if_false]
  rfl

/-- The reason of a failed check is its first byte (R233). -/
theorem getPat_checkFailed (c : Chip) (p : Nat) (r : Nat × Nat × Nat) : (getPat (checkFailed c p r) p).state = 3
    ∧ (getPat (checkFailed c p r) p).check % 256 = r.1 % 256 ∧ (getPat (checkFailed c p r) p).image = (getPat c p).image := by
  refine ⟨?_, ?_, ?_⟩ <;> rw [checkFailed, modPat, getPat_setPat]
  simp [pack]

/-- The Pattern's measurement leaves the Patterns. -/
theorem getPat_patternsChanged (c : Chip) (r : Nat) : getPat (patternsChanged c) r = getPat c r := rfl

theorem getPat_checkDone_fits {g : Nat} (h : (imageCheck c p).1 = 0) (hf : firstFit 0 32768 (imageGranules c p) (storeUsed c) = some g) :
    getPat (checkDone p c) p = registeredAt c p g (getPat (freeRun c p) p) := by
  rw [checkDone_fits h hf, getPat_patternsChanged, modPat, getPat_setPat]

theorem getPat_checkDone_fits_ne {g r : Nat} (h : (imageCheck c p).1 = 0) (hf : firstFit 0 32768 (imageGranules c p) (storeUsed c) = some g)
    (hr : r ≠ p) : getPat (checkDone p c) r = getPat c r := by
  rw [checkDone_fits h hf, getPat_patternsChanged, modPat, getPat_setPat_ne _ _ _ hr, getPat_freeRun_ne _ _ hr]

end ImageCheck

/-- Settles O37: the three rows by their handlers, and the end of a check by what it found and by the room in the store. -/
theorem patternsAreRegisteredAndRetired : Obligations.PatternsAreRegisteredAndRetired := by
  unfold Obligations.PatternsAreRegisteredAndRetired
  refine ⟨fun p hp => (writesBy_patternRegister hp).does fun c ⟨hs, ht⟩ => patternRegister_free hs ht,
    fun p hp => (writesBy_patternRegister hp).turnsAway fun c h => patternRegister_turnedAway h,
    fun s p hs => becomes_event rfl (beq_iff_eq.mpr hs) rfl, fun c p h => ?_, fun c p g h hf => ?_, fun c p h hf => ?_,
    fun p hp => (writesBy_patternRetire hp).does fun c ⟨hs, hr⟩ => (patternRetire_registered hs).trans (by rw [if_neg hr]),
    fun p hp => (writesBy_patternRetire hp).does fun c ⟨hs, hr⟩ => (patternRetire_registered hs).trans (by rw [if_pos hr]),
    fun p hp => (writesBy_patternRetire hp).turnsAway fun c hs => patternRetire_turnedAway hs,
    fun p hp => (writesBy_patternClear hp).does fun c hs => patternClear_failed hs, fun c p => getPat_freePattern (freeRun c p) p,
    fun p hp => (writesBy_patternClear hp).turnsAway fun c hs => patternClear_turnedAway hs⟩
  · rw [checkDone_bad h]
    obtain ⟨hstate, hreason, himage⟩ := getPat_checkFailed c p (imageCheck c p)
    exact ⟨hstate, hreason, himage, fun r hr => getPat_setPat_ne c p _ hr, rfl, rfl, rfl⟩
  · rw [getPat_checkDone_fits h hf]
    refine ⟨rfl, rfl, rfl, rfl, image_freeRun c p p, fun r hr => getPat_checkDone_fits_ne h hf hr, ?_, ?_⟩
    · rw [checkDone_fits h hf]
      exact freeRun_objs c p
    · rw [checkDone_fits h hf]
      exact freeRun_bel c p
  · rw [checkDone_noRoom h hf]
    obtain ⟨hstate, hreason, -⟩ := getPat_checkFailed c p (10, 0, 0)
    exact ⟨hstate, hreason⟩

end Sys2Proof.Machine
end

section
/-! The Bootstrap queue: how a command starts, and what it waits for (R218, R231, R232). -/

namespace Sys2Proof.Machine

/-! The head of queue 0 starts (R231). -/

/-- A Bootstrap command that is next becomes its effect. -/
theorem becomesOn_bootEvent {i : Instr} {s : State} {name : String} {cmd e v : Nat} {f : Nat → Nat → Chip → Chip} {c : Chip}
    (he : exec i s = bootEvent name cmd f s) (hn : bootNext s.toChip cmd = some (e, v)) (hc : f e v s.toChip = c) : BecomesOn 1 i s (react c) :=
  becomesOn_event he (by simp [hn]) (by simp [hn, hc])

section Start
variable {c : Chip} {e v : Nat}

theorem bootFill_zero (h : bit (fld v 9 1) 0 = true) : bootFill e v c = bootStart c e v (bootNode 2 (contigBody 1 0 (bA v) (bC v))) := by
  rw [bootFill, if_pos h]

theorem bootFill_pattern (h : bit (fld v 9 1) 0 = false) : bootFill e v c = bootStart c e v (bootNode 2 (contigBody 2 (bD v) (bA v) (bC v))) := by
  simp [bootFill, h]

@[simp] theorem bootStart_mode (nodes : Tab NodeRt) : (bootStart c e v nodes).mode = c.mode := rfl

theorem bootRunStart_rough (hm : c.mode = .rough) : bootRunStart e v c = reject (bootStart c e v []) 0 e 7 0 := by
  simp [bootRunStart, hm]

theorem bootRunStart_reads {w : Nat} (hm : c.mode ≠ .rough) (hw : progWord (bootStart c e v []) 0 (bA v) = some w)
    (hu : coreUp (bootStart c e v []) (fld v 32 1) (fld v 33 1) = true) : bootRunStart e v c =
      emit (bootWait (bootStart c e v []) 4) (.hostRead (homePort (bootStart c e v []) 0) (bB v) 192) := by
  simp only [bootRunStart, bootStart_mode, hm, hw, hu, Option.isNone_some, Bool.not_true, Bool.false_eq_true, if_false]

end Start

/-! The command that waits (R232). -/

section Waits
variable {c : Chip} {k : Nat} {l : Launch}

theorem bootWaits_of_pat {d : Chip} (h : c.pat = d.pat) (k : Nat) : bootWaits c k = bootWaits d k := by
  simp only [bootWaits, queueLaunches, h]

theorem boot_of_bootWaits (h : bootWaits c k = some l) : c.pat.boot = some k := by
  unfold bootWaits at h
  split at h
  next hb => exact hb
  next => cases h

theorem bootWaits_other (h : bootWaits c k = some l) {j : Nat} (hj : j ≠ k) : bootWaits c j = none := by
  simp [bootWaits, boot_of_bootWaits h, hj.symm]

theorem bootWaits_or (hk : k = 3 ∨ k = 4) (h : bootWaits c k = some l) : (bootWaits c 3).or (bootWaits c 4) = some l := by
  rcases hk with rfl | rfl
  · simp [h]
  · simp [h, bootWaits_other h (j := 3) (by decide)]

end Waits

/-! The digest (R232). -/

section Digest
variable {c : Chip} {l : Launch} (hl : digestReady c = some l)
include hl

theorem digestDone_written (hi : canIssue c (homePort c 0) = true) : digestDone c =
    setFinal (plainWrite (bootGo c) (homePort c 0) (bB l.entry) (sha384 (digestBytes c))) 0 l.e 0 0xFFFF := by
  simp [digestDone, hl, hi]

theorem digestDone_unissued (hi : canIssue c (homePort c 0) = false) : digestDone c =
    setFinal (bootGo c) 0 l.e (if linkIsUp c (homePort c 0) then 9 else 7) 0xFFFF := by
  simp [digestDone, hl, hi]

end Digest

theorem becomesOn_bootstrapDigestComplete {s : State} {l : Launch} {c : Chip} (hl : digestReady s.toChip = some l) (hc : digestDone s.toChip = c) :
    BecomesOn 1 .bootstrapDigestComplete s (react c) :=
  becomesOn_event rfl (by simp [hl]) (congrArg react hc)

/-! The read of a descriptor or of an argument block (R218, R232). -/

@[simp] theorem logRead_pat (c : Chip) (p : HPort) (r : RdResult) : (logRead c p r).pat = c.pat := by cases r <;> rfl

/-- How many bytes the read has for which a Bootstrap command waits. -/
def bootReadLen (k : Nat) : Nat := if k = 3 then 128 else 192

theorem becomesOn_bootstrapReadComplete {s : State} {k : Nat} {l : Launch} {r : RdResult} {c : Chip} (hk : k = 3 ∨ k = 4) (hl : bootWaits s.toChip k = some l)
    (hr : rdFits r (bootReadLen k) = true) (hc : bootRead r s.toChip = c) : BecomesOn 1 (.bootstrapReadComplete r) s (react c) := by
  refine becomesOn_event rfl ?_ (congrArg react hc)
  rcases hk with rfl | rfl
  · have h128 : rdFits r 128 = true := hr
    simp [hl, h128]
  · have h192 : rdFits r 192 = true := hr
    simp [hl, h192]

section BootRead
variable {c : Chip} {k : Nat} {l : Launch}

/-- The port's log leaves which command waits. -/
theorem bootWaits_logRead (hk : k = 3 ∨ k = 4) (hl : bootWaits c k = some l) (p : HPort) (r : RdResult) :
    (bootWaits (logRead c p r) 3).or (bootWaits (logRead c p r) 4) = some l :=
  bootWaits_or hk ((bootWaits_of_pat (logRead_pat c p r) k).trans hl)

theorem bootRead_descriptor {bs : Bytes} (hl : bootWaits c 3 = some l) : bootRead (.data bs) c =
    if dOp (leNat bs) = 0 || !descOk (leNat bs) then setFinal (bootGo (logRead c (homePort c 0) (.data bs))) 0 l.e 5 0xFFFF
    else modLaunch (bootGo (logRead c (homePort c 0) (.data bs))) 0 l.e fun x => { x with nodes := bootNode (dOp (leNat bs) + 1) (leNat bs) } := by
  simp only [bootRead, bootWaits_logRead (.inl rfl) hl, logRead_pat, boot_of_bootWaits hl, if_true]

theorem bootRead_arguments {bs : Bytes} (hl : bootWaits c 4 = some l) : bootRead (.data bs) c =
    bootFenced (modLaunch { logRead c (homePort c 0) (.data bs) with pat := { (logRead c (homePort c 0) (.data bs)).pat with boot := none, bootArg := bs } } 0 l.e
      fun x => { x with nodes := bootNode 1 (pack [(bA l.entry, 8), (fld l.entry 32 1, 1), (fld l.entry 33 1, 1)]) }) := by
  simp only [bootRead, bootWaits_logRead (.inr rfl) hl, logRead_pat, boot_of_bootWaits hl]
  rfl

/-- A read that brings no data ends the command (R218). -/
theorem bootRead_failed {r : RdResult} (hk : k = 3 ∨ k = 4) (hl : bootWaits c k = some l) (hr : readStatus r ≠ 0) :
    bootRead r c = setFinal (bootGo (logRead c (homePort c 0) r)) 0 l.e (readStatus r) 0xFFFF := by
  cases r
  case data bs => exact absurd rfl hr
  all_goals simp only [bootRead, bootWaits_logRead hk hl]

end BootRead

/-- Settles O40: how the head of queue 0 starts, command by command, and how what it waited for ends. -/
theorem bootstrapCommandsRun : Obligations.BootstrapCommandsRun := by
  unfold Obligations.BootstrapCommandsRun
  refine ⟨fun s e v hn => becomesOn_bootEvent rfl hn rfl, fun s e v hn hb => becomesOn_bootEvent rfl hn (bootFill_zero hb),
    fun s e v hn hb => becomesOn_bootEvent rfl hn (bootFill_pattern hb), fun s e v hn => becomesOn_bootEvent rfl hn rfl,
    fun s e v hn hm => becomesOn_bootEvent rfl hn (bootRunStart_rough hm),
    fun s e v w hn hm hw hu => becomesOn_bootEvent rfl hn (bootRunStart_reads hm hw hu), fun s e v hn => becomesOn_bootEvent rfl hn rfl,
    fun s e v hn => becomesOn_bootEvent rfl hn rfl,
    fun s l hl => ⟨fun hi => becomesOn_bootstrapDigestComplete hl (digestDone_written hl hi),
      fun hi => becomesOn_bootstrapDigestComplete hl (digestDone_unissued hl hi)⟩,
    fun s l bs hl hlen => ⟨fun hbad => ?_, fun hop hok => ?_⟩, fun s c l bs hl hlen hc => ?_,
    fun s l hl => becomesOn_bootstrapReadComplete (.inr rfl) hl rfl (bootRead_failed (.inr rfl) hl (by decide)),
    fun s l hl => becomesOn_bootstrapReadComplete (.inl rfl) hl rfl (bootRead_failed (.inl rfl) hl (by decide))⟩
  · exact becomesOn_bootstrapReadComplete (.inl rfl) hl (beq_iff_eq.mpr hlen) ((bootRead_descriptor hl).trans (if_pos (by simpa using hbad)))
  · exact becomesOn_bootstrapReadComplete (.inl rfl) hl (beq_iff_eq.mpr hlen) ((bootRead_descriptor hl).trans (if_neg (by simp [hop, hok])))
  · subst hc
    exact becomesOn_bootstrapReadComplete (.inr rfl) hl (beq_iff_eq.mpr hlen) (bootRead_arguments hl)

end Sys2Proof.Machine
end

section
/-! Peer windows, their commit, inbound packets and their answers (R257 to R262, R264). -/

namespace Sys2Proof.Machine

/-! The commit of peer windows (R257 to R259). -/

theorem writesBy_peerWindowCommit (v : Nat) :
    WritesBy (fun src tag => .peerWindowCommit src tag v) 0x12F0 1 (leBytes 1 v) (peerCommit (v % 256)) id :=
  fun _ _ _ hp => becomes_event rfl hp rfl

section Commit
variable {c : Chip}

theorem peerCommit_range {v : Nat} (hv : v ≠ 1) : peerCommit v c = (5, c) := by simp [peerCommit, hv]

theorem peerCommit_busy (ht : c.sec.ten.state = 2) (hs : c.peer.status = 1) : peerCommit 1 c = (6, c) := by simp [peerCommit, ht, hs]

/-- A commit whose first failing shadow is that of window `w` (R258). -/
theorem peerCommit_failed {w : Nat} (ht : c.sec.ten.state = 2) (hs : c.peer.status ≠ 1)
    (hw : (c.peer.wins.map (·.1)).find? (fun w => commitReason c w != 0) = some w) :
    peerCommit 1 c = (0, { c with peer := { c.peer with status := 3, reason := commitReason c w, window := w } }) := by
  simp only [peerCommit, ht, hs, hw, bne_self_eq_false, Bool.false_and, Bool.false_eq_true, if_false]

theorem peerCommit_sound (ht : c.sec.ten.state = 2) (hs : c.peer.status ≠ 1) (hw : ∀ x ∈ c.peer.wins, commitReason c x.1 = 0) :
    peerCommit 1 c = (0, flipSet c) := by
  have hnone : (c.peer.wins.map (·.1)).find? (fun w => commitReason c w != 0) = none := by simpa using fun w x hx => hw (w, x) hx
  simp only [peerCommit, ht, hs, hnone, bne_self_eq_false, Bool.false_and, Bool.false_eq_true, if_false]

/-- A commit that finds no packet on the way is over at once (R258). -/
theorem flipSet_drained (hp : c.peer.packets = []) : flipSet c = stat { c with peer := { c.peer with
    wins := c.peer.wins.map (fun x => (x.1, { x.2 with active := x.2.shadow })), setNo := (c.peer.setNo + 1) % 2 ^ 32, status := 2, reason := 0, window := 0 } }
      0x7048 6 1 := by
  simp [flipSet, commitDrained, hp]

end Commit

/-! Writes of a shadow record (R257). -/

theorem peerShadow_sound {v : Nat} (w : Nat) (c : Chip) (hv : shadowBad v = false) :
    peerShadow w v c = (0, modWin c w fun x => { x with shadow := keepBits winFields v }) := by simp [peerShadow, hv]

theorem peerShadow_refused {v : Nat} (w : Nat) (c : Chip) (hv : shadowBad v = true) : peerShadow w v c = (5, c) := by simp [peerShadow, hv]

theorem shadowBad_of_data {v : Nat} (hk : wKind v = 1) (h : wBase v % 4096 ≠ 0 ∨ wLen v = 0 ∨ wSpace v = 0 ∨ 2 ^ 60 < wBase v + wLen v) :
    shadowBad v = true := by
  rcases h with h | h | h | h <;> simp_all [shadowBad]

/-! A packet header arrives (R260 to R262). -/

theorem becomes_inboundPacket {s : State} {node fab len : Nat} {op : PktOp} {bs : Bytes} {c : Chip} (hroom : s.peer.packets.length < 1024)
    (hbs : op ≠ .write ∨ bs.length = len) (hc : inbound node fab len op bs s.toChip = c) : Becomes (.inboundPacket node fab len op bs) s c :=
  becomes_event rfl (by simpa [hroom] using hbs) hc

theorem packetBad_iff {fab len : Nat} {op : PktOp} : packetBad fab len op = true ↔ len = 0 ∨ 2048 < len ∨ 4096 < fab % 4096 + len ∨ op = .other := by
  simp [packetBad, or_assoc]

section Inbound
variable {c : Chip} {node fab len w v : Nat} {op : PktOp} {bs : Bytes}

theorem inbound_disabled (h : serving c = false ∨ enabled c 7 = false) :
    inbound node fab len op bs c = refuse c node 5 0 ((winMatch c node fab len).map (·.1)) := by
  rw [inbound, if_pos (by simpa using h)]

section On
variable (hs : serving c = true) (he : enabled c 7 = true)
include hs he

theorem inbound_misformed (hb : packetBad fab len op = true) :
    inbound node fab len op bs c = refuse c node 3 0 ((winMatch c node fab len).map (·.1)) := by simp [inbound, hs, he, hb]

variable (hb : packetBad fab len op = false)
include hb

theorem inbound_unmatched (hm : winMatch c node fab len = none) : inbound node fab len op bs c = refuse c node 1 0 none := by
  simp [inbound, hs, he, hb, hm]

theorem inbound_data (hm : winMatch c node fab len = some (w, v)) (hk : wKind v = 1) :
    inbound node fab len op bs c = dataPacket c w v node fab len (op == .write) bs := by simp [inbound, hs, he, hb, hm, hk]

theorem inbound_post (hm : winMatch c node fab len = some (w, v)) (hk : wKind v ≠ 1) :
    inbound node fab len op bs c = postPacket c w v node fab len (op == .write) bs := by simp [inbound, hs, he, hb, hm, hk]

end On

/-! DATA packets (R260, R261). -/

/-- What is sent one after another is all that a fold of `emit` changes. -/
theorem foldl_emit_spec {α : Type} (f : α → Emit) (as : List α) (c : Chip) : ∃ o, as.foldl (fun d a => emit d (f a)) c = { c with out := o } := by
  induction as generalizing c with
  | nil => exact ⟨c.out, rfl⟩
  | cons a as ih => exact ih (emit c (f a))

theorem dataPacket_uncovered {write : Bool} (hg : fixedSeg c (wSpace v) (wDva v + (fab - wBase v)) len = none) :
    dataPacket c w v node fab len write bs = refuse c node 2 0 (some w) := by simp [dataPacket, hg]

/-- An accepted DATA packet counts in its Space's generation and is tracked; beyond that its lines go out. -/
theorem dataPacket_covered {write : Bool} {g : Seg} (hg : fixedSeg c (wSpace v) (wDva v + (fab - wBase v)) len = some g) :
    ∃ o, dataPacket c w v node fab len write bs =
      { track (drainInc (acceptStats c w len) (wSpace v) (getSpace c (wSpace v)).gen)
          ⟨c.peer.nextPkt, w, c.peer.setNo, node, write, wSpace v, (getSpace c (wSpace v)).gen, true, g.target + (wDva v + (fab - wBase v) - g.start), len⟩
        with out := o } := by
  simp only [dataPacket, hg]
  cases write
  · exact foldl_emit_spec _ _ _
  · exact foldl_emit_spec _ _ _

/-! POST packets (R264). -/

theorem postPacket_read : postPacket c w v node fab len false bs =
    emit (acceptStats c w len) (.peerResponse node 0 0 (postRead (acceptStats c w len) v (fab - wBase v) len)) := rfl

theorem postPacket_misplaced (h : fab ≠ wBase v ∨ len ≠ 32) (hle : wBase v ≤ fab) :
    postPacket c w v node fab len true bs = refuse c node 3 0 (some w) := by
  have hoff : ¬ (fab - wBase v = 0 ∧ len = 32) := by omega
  simpa [postPacket] using fun h₁ h₂ => absurd ⟨h₁, h₂⟩ hoff

theorem postPacket_record : postPacket c w v node (wBase v) 32 true bs = postWrite c w v node bs := by simp [postPacket]

theorem postWrite_otherTable (h : bfld bs 0 1 ≠ wTable v) : postWrite c w v node bs = refuse c node 4 7 (some w) := by simp [postWrite, h]

theorem postRead_elsewhere {off : Nat} (h₁ : off ≠ 0x40) (h₂ : off ≠ 0x60) : postRead c v off len = zeros len := by simp [postRead, h₁, h₂]

end Inbound

/-! The answers: of the dictionary service to a post (R264), of a DATA packet's lines (R262). -/

section PeerAnswer
variable {c : Chip} {rec : Bytes} {id tick : Nat} {r : List (Nat × Nat × Bytes)} {x : Inbound}

/-- The oldest post with the record is answered: its packet leaves the tracker with an ACK or POST_REFUSED. -/
theorem peerAnswer_oldest (hp : c.peer.posts = (id, tick, rec) :: r) (hx : getPacket c id = some x) (st : Nat) :
    peerAnswer c rec st = untrack (if st = 0 then emit { c with peer := { c.peer with posts := r } } (.peerResponse x.node 0 0 [])
      else refuse { c with peer := { c.peer with posts := r } } x.node 4 st (some x.win)) id := by
  have hleft : getPacket { c with peer := { c.peer with posts := r } } id = some x := hx
  simp [peerAnswer, hp, ldel, hleft]

end PeerAnswer

theorem becomesOn_inboundResponse {s : State} {x : Inbound} {a : ReqAnswer} (hx : getPacket s.toChip x.id = some x) (hfit : packetFits x a = true) :
    BecomesOn 7 (.inboundResponse x.id a) s (inboundDone s.toChip x a) :=
  becomesOn_event rfl (by simp [hx, hfit]) (by simp [hx])

/-- Settles O41: a commit by what `peerCommit` answers, a packet by the checks in their order and then by its window's kind, an answer by what it is. -/
theorem peerWindowsAndPackets : Obligations.PeerWindowsAndPackets := by
  unfold Obligations.PeerWindowsAndPackets
  refine ⟨(writesBy_peerWindowCommit 1).does fun c ⟨ht, hs, hw, hp⟩ => ?_, (writesBy_peerWindowCommit 1).turnsAway fun c ⟨ht, hs⟩ => peerCommit_busy ht hs,
    fun v hv => (writesBy_peerWindowCommit v).turnsAway fun c _ => peerCommit_range hv,
    fun w => (writesBy_peerWindowCommit 1).does fun c ⟨ht, hs, x, r, hwins, hw⟩ => peerCommit_failed ht hs (by simp [hwins, hw]),
    fun w v c => peerShadow_sound w c, fun w v c hk h => peerShadow_refused w c (shadowBad_of_data hk h),
    fun s node fab len op bs hroom hbs => ⟨fun hoff => becomes_inboundPacket hroom hbs (inbound_disabled hoff),
      fun hs he => ⟨fun hb => becomes_inboundPacket hroom hbs (inbound_misformed hs he (packetBad_iff.mpr hb)), fun h₁ h₂ h₃ h₄ => ?_⟩⟩,
    fun c rec id tick st r x hp hx => ⟨fun h => ?_, fun h => ?_⟩,
    fun s x bs hx hc hw hlen => becomesOn_inboundResponse hx (by simp [packetFits, hc, hw, hlen]),
    fun s x hx hc hw => becomesOn_inboundResponse hx (by simp [packetFits, hc, hw]),
    fun s x k hx hc => becomesOn_inboundResponse hx (by simp [packetFits, hc]), fun c v off len => postRead_elsewhere⟩
  · rw [peerCommit_sound ht hs hw, flipSet_drained hp]
  · have hgood : packetBad fab len op = false := by
      rw [Bool.eq_false_iff, Ne, packetBad_iff]
      rintro (h | h | h | h)
      · omega
      · omega
      · omega
      · exact h₄ h
    refine ⟨fun hm => becomes_inboundPacket hroom hbs (inbound_unmatched hs he hgood hm), fun w v g hm hk hg => ?_, fun w v hm hk hg => ?_,
      fun w v hm hk hop => ?_, fun w v hm hk hop hoff hle => ?_, fun w v hm hk hop hfab hlen ht => ?_, fun w v hm hk hop hfab hlen ht => ?_⟩
    · obtain ⟨o, ho⟩ := dataPacket_covered (w := w) (node := node) (bs := bs) (write := op == .write) hg
      refine (becomes_inboundPacket hroom hbs ((inbound_data hs he hgood hm hk).trans ho)).answers ⟨⟨_, congrArg PeerSt.packets (put_peer _ s), rfl, rfl, rfl, rfl, rfl⟩, ?_⟩
      simp [track, drainInc, acceptStats, modWin]
    · exact becomes_inboundPacket hroom hbs ((inbound_data hs he hgood hm hk).trans (dataPacket_uncovered hg))
    all_goals subst hop
    · exact becomes_inboundPacket hroom hbs (inbound_post hs he hgood hm hk)
    · exact becomes_inboundPacket hroom hbs ((inbound_post hs he hgood hm hk).trans (postPacket_misplaced hoff hle))
    all_goals subst hfab hlen
    · exact becomes_inboundPacket hroom hbs ((inbound_post hs he hgood hm hk).trans (postPacket_record.trans (postWrite_otherTable ht)))
    · exact becomes_inboundPacket hroom hbs ((inbound_post hs he hgood hm hk).trans postPacket_record)
  · rw [peerAnswer_oldest hp hx, if_pos h]
  · rw [peerAnswer_oldest hp hx, if_neg h]

end Sys2Proof.Machine
end

section
/-! Coherent windows, their lines, snoops and suspension (R268 to R272). -/

namespace Sys2Proof.Machine

/-! ENABLE and DISABLE (R268, R271). -/

section WindowRows
variable {w : Nat} (hw : w < 64)
include hw

theorem writesBy_windowEnable : WritesBy (fun src tag => .windowEnable src tag w) (0x4840 + w) 2 (leBytes 1 1) (windowEnable w) id :=
  fun _ _ _ hp => becomes_event rfl (by simp [hw, hp]) rfl

theorem writesBy_windowDisable : WritesBy (fun src tag => .windowDisable src tag w) (0x4840 + w) 2 (leBytes 1 2) (windowDisable w) id :=
  fun _ _ _ hp => becomes_event rfl (by simp [hw, hp]) rfl

end WindowRows

section Enable
variable {c : Chip} {w : Nat}

theorem windowEnable_bad (hb : cohBad c w = true) : windowEnable w c = (5, c) := by simp [windowEnable, hb]

theorem windowEnable_taken (hb : cohBad c w = false) (h : tgetD c.coh.wins w 0 ≠ 0) : windowEnable w c = (7, c) := by simp [windowEnable, hb, h]

theorem windowEnable_sound (hb : cohBad c w = false) (hproto : (getPort c (cohPort c w)).proto = 1)
    (hpool : ¬ (cohPort c w = .b ∧ (getPort c .b).pool = true)) (hoff : tgetD c.coh.wins w 0 = 0) (ht : c.sec.ten.state = 2) :
    windowEnable w c = (0, if cacheUp c (cohPort c w) then watchRings (setCoh c w 1) (cohPort c w) else setCoh c w 2) := by
  have hp : (cohPort c w == .b && (getPort c (cohPort c w)).pool) = false := by
    cases hport : cohPort c w
    · rfl
    · simpa [hport] using hpool
  simp [windowEnable, hb, hproto, hp, hoff, ht]

end Enable

/-! Snoops (R270, R272). -/

section Snoop
variable {c : Chip} {k : Nat} {inv : Bool} {l : Line}

theorem snoopLine_absent (h : tget c.coh.lines k = none) : snoopLine c k inv = c := by simp [snoopLine, h]

theorem snoopLine_reading (h : tget c.coh.lines k = some l) (hr : l.reading = true) :
    snoopLine c k inv = modLine c k fun x => { x with again := true } := by simp [snoopLine, h, hr]

theorem snoopLine_shares (h : tget c.coh.lines k = some l) (hr : l.reading = false) : snoopLine c k false = c := by simp [snoopLine, h, hr]

theorem snoopLine_unwatched (h : tget c.coh.lines k = some l) (hr : l.reading = false) (hw : l.watched = false) (hp : l.pinned = false) :
    snoopLine c k true = modLine c k fun x => { x with shared := false } := by simp [snoopLine, h, hr, hw, hp]

theorem snoopLine_watched (h : tget c.coh.lines k = some l) (hr : l.reading = false) (hw : l.watched = true ∨ l.pinned = true) :
    snoopLine c k true = readLine (countAgain (modLine c k fun x => { x with shared := false }) l) k := by simp [snoopLine, h, hr, hw]

end Snoop

/-! Line reads (R186, R270, R272). -/

theorem becomesOn_lineReadComplete {s : State} {p : HPort} {a : Nat} {bs : Bytes}
    (h : (tgetD s.coh.lines (lineKey p a) Line.reset).reading = true ∨ ∃ x, x ∈ s.coh.late ∧ x.1 = lineKey p a) (hlen : bs.length = 64)
    (hl : lanesTake s.toChip (valueQueues s.toChip (lineKey p a)) = true) :
    BecomesOn 8 (.lineReadComplete p a bs) s (lineReadDone s.toChip (lineKey p a) bs) := by
  refine becomesOn_event rfl ?_ rfl
  have hflying : (s.coh.late.any (fun x => x.1 == lineKey p a) || (tgetD s.coh.lines (lineKey p a) Line.reset).reading) = true := by
    simpa [or_comm] using h
  simp [hflying, hlen, hl]

section LineRead
variable {c : Chip} {k : Nat} {bs : Bytes}

/-- Which queues take a value from a line hangs on the windows, not on the lines. -/
theorem valueQueues_modLine (j : Nat) (f : Line → Line) : valueQueues (modLine c j f) k = valueQueues c k := rfl

theorem lineArrives_unvalued (hv : valueQueues c k = []) : lineArrives c k bs = modLine c k fun x =>
    { x with shared := cohActive c (linePort k) (lineAddr k) 64, reading := false, wanted := false, data := leNat bs } := by
  rw [lineArrives, silentValues, valueQueues_modLine, hv, List.foldl_nil]

theorem lineReadDone_held (hlate : ∀ x ∈ c.coh.late, x.1 ≠ k) : lineReadDone c k bs =
    if (tgetD c.coh.lines k Line.reset).again then
      emit (countAgain (modLine c k fun x => { x with again := false }) (tgetD c.coh.lines k Line.reset)) (.cacheRead (linePort k) (lineAddr k))
    else lineArrives c k bs := by
  have hnone : c.coh.late.find? (fun x => x.1 == k) = none := by simpa using hlate
  simp only [lineReadDone, hnone]

theorem demandLine_hit (h : (tgetD c.coh.lines k Line.reset).shared = true) : demandLine c k = stat c 0x7049 1 1 := by simp [demandLine, h]

theorem demandLine_miss (h : (tgetD c.coh.lines k Line.reset).shared = false) :
    demandLine c k = modLine (readLine (stat c 0x7049 2 1) k) k fun l => { l with wanted := true } := by simp [demandLine, h]

end LineRead

/-! What lines that are read, watched and pinned leave: the states of the windows. -/

section Windows
variable (c : Chip)

@[simp] theorem modLine_wins (k : Nat) (f : Line → Line) : (modLine c k f).coh.wins = c.coh.wins := rfl

@[simp] theorem lineRoom_wins : (lineRoom c).coh.wins = c.coh.wins := by
  unfold lineRoom
  dsimp only
  split <;> rfl

@[simp] theorem readLine_wins (k : Nat) : (readLine c k).coh.wins = c.coh.wins := by
  unfold readLine
  dsimp only
  split
  · rfl
  · split <;> simp

@[simp] theorem watchLine_wins (k : Nat) : (watchLine c k).coh.wins = c.coh.wins := by
  unfold watchLine
  dsimp only
  rw [modLine_wins]
  split
  · rfl
  · exact readLine_wins c k

@[simp] theorem pinSilent_wins (q : Nat) : (pinSilent c q).coh.wins = c.coh.wins := by
  unfold pinSilent
  dsimp only
  rw [modLine_wins]
  split
  · rfl
  · exact readLine_wins (modQueue c q fun x => { x with silent := true }) _

@[simp] theorem unwatchRing_wins (q : Nat) (keep : List Nat) : (unwatchRing c q keep).coh.wins = c.coh.wins :=
  foldl_keeps (fun c => c.coh.wins) (fun c k => modLine_wins c k _) _ c

@[simp] theorem watchRing_wins (q : Nat) : (watchRing c q).coh.wins = c.coh.wins := by
  unfold watchRing
  rw [← unwatchRing_wins c q (ringKeys c q)]
  refine foldl_keeps (fun c => c.coh.wins) (fun d k => ?_) _ _
  split
  · exact watchLine_wins d k
  · rfl

@[simp] theorem watchRings_wins (p : HPort) : (watchRings c p).coh.wins = c.coh.wins := foldl_keeps (fun c => c.coh.wins) watchRing_wins _ c

end Windows

/-! Resumption (R271). -/

theorem setCoh_wins_self (c : Chip) (w st : Nat) : tgetD (setCoh c w st).coh.wins w 0 = st := tgetD_tput_self _ _ _ _

theorem setCoh_wins_ne (c : Chip) {w v : Nat} (st : Nat) (h : v ≠ w) : tgetD (setCoh c w st).coh.wins v 0 = tgetD c.coh.wins v 0 := tgetD_tput_ne _ _ _ _ h

/-- Windows that are all set to one state have it, and a window that had it keeps it. -/
theorem foldl_setCoh_wins (st : Nat) {x : Nat × Nat} (xs : List (Nat × Nat)) (c : Chip) (h : x ∈ xs ∨ tgetD c.coh.wins x.1 0 = st) :
    tgetD (xs.foldl (fun c y => setCoh c y.1 st) c).coh.wins x.1 0 = st := by
  induction xs generalizing c with
  | nil => simpa using h
  | cons y ys ih =>
    refine ih (setCoh c y.1 st) ?_
    by_cases hy : x.1 = y.1
    · exact .inr (hy ▸ setCoh_wins_self c y.1 st)
    · rw [setCoh_wins_ne c st hy]
      exact h.imp_left fun hx => (List.mem_cons.mp hx).resolve_left fun he => hy (congrArg Prod.fst he)

theorem resumeWindows_wins {c : Chip} {p : HPort} {x : Nat × Nat} (hx : x ∈ portWindows c p) : tgetD (resumeWindows c p).coh.wins x.1 0 = 1 := by
  unfold resumeWindows
  dsimp only
  rw [watchRings_wins, foldl_keeps (fun c => c.coh.wins) pinSilent_wins]
  exact foldl_setCoh_wins 1 _ c (.inl hx)

theorem becomes_windowResume {s : State} {p : HPort} (hup : cacheUp s.toChip p = true) (hs : serving s.toChip = true)
    (hx : ∃ x, x ∈ portWindows s.toChip p ∧ x.2 = 2) : Becomes (.windowResume p) s (resumeWindows s.toChip p) :=
  becomes_event rfl (by simpa [hup, hs] using hx) rfl

/-- Settles O42: ENABLE and DISABLE by what their handlers answer, a snoop and a line that arrives by the state of the line, and resumption. -/
theorem coherentWindowsKeepTheirLines : Obligations.CoherentWindowsKeepTheirLines := by
  unfold Obligations.CoherentWindowsKeepTheirLines
  refine ⟨fun w hw => (writesBy_windowEnable hw).does fun c ⟨hb, hproto, hpool, hoff, ht, hup⟩ => ?_,
    fun w hw => (writesBy_windowEnable hw).does fun c ⟨hb, hproto, hpool, hoff, ht, hup⟩ => ?_,
    fun w hw => (writesBy_windowEnable hw).turnsAway fun c => windowEnable_bad,
    fun w hw => (writesBy_windowEnable hw).turnsAway fun c ⟨hb, hon⟩ => windowEnable_taken hb hon,
    fun w hw => (writesBy_windowDisable hw).does fun c _ => rfl,
    fun s p a inv hup ha => becomesOn_event rfl (by simpa [hup] using ha) rfl,
    fun c k inv => snoopLine_absent, fun c k inv l => snoopLine_reading, fun c k l => snoopLine_unwatched, fun c k l => snoopLine_watched,
    fun c k l => snoopLine_shares, fun s p a bs => becomesOn_lineReadComplete,
    fun c k bs hlate => ⟨fun ha hv => ?_, fun ha => ?_⟩, fun c k => ⟨demandLine_hit, demandLine_miss⟩,
    fun s p => becomes_windowResume, fun c p x => resumeWindows_wins⟩
  · rw [windowEnable_sound hb hproto hpool hoff ht, if_pos hup]
    rfl
  · rw [windowEnable_sound hb hproto hpool hoff ht, if_neg (by simp [hup])]
    rfl
  · rw [lineReadDone_held hlate, if_neg (by simp [ha]), lineArrives_unvalued hv]
  · rw [lineReadDone_held hlate, if_pos ha]

end Sys2Proof.Machine
end

section
/-! The Doublet's join, its flushes and keepalives, and the split (R276 to R281, R292 to R296). -/

namespace Sys2Proof.Machine

theorem linkedUp_iff (c : Chip) : linkedUp c = true ↔ c.dbl.bridge = 2 := by simp [linkedUp]

theorem joining_of_state {c : Chip} (h : c.dbl.state = 1) : joining c = true := by simp [joining, h]

/-- A join that runs ends as FAILED with the reason (R281). -/
theorem joinFail_joining {c : Chip} (h : joining c = true) (reason : Nat) :
    joinFail c reason = { c with dbl := { c.dbl with state := 3, reason := reason, joinStep := 0, tick := c.clk.carillon } } := if_pos h

@[simp] theorem joinFail_bridge (c : Chip) (reason : Nat) : (joinFail c reason).dbl.bridge = c.dbl.bridge := by
  unfold joinFail
  split <;> rfl

/-! The bridge comes up (R280 step 2). -/

theorem bridgeTrained_noJoin {c : Chip} (h : c.dbl.state ≠ 1 ∨ c.dbl.joinStep ≠ 1) : bridgeTrained c =
    { c with clk := { c.clk with enables := setBit c.clk.enables 18 true }, dbl := { c.dbl with bridge := 2 } } := by
  rcases h with h | h <;> exact if_neg (by simp [modDbl, modClk, h])

theorem bridgeTrained_join {c : Chip} (hstate : c.dbl.state = 1) (hstep : c.dbl.joinStep = 1) : bridgeTrained c =
    emit { c with clk := { c.clk with enables := setBit c.clk.enables 18 true }, dbl := { c.dbl with bridge := 2, joinStep := 2 } }
      (.bridge 10 (leBytes 5 (pack [(stepping c, 1), (c.sec.fw.runVersion, 4)]))) :=
  if_pos (by simp [modDbl, modClk, hstate, hstep])

/-- The link trains once both units have bit 18 set; unit 1 takes the join's step 1 with it (R60, R280). -/
theorem becomes_bridgeUp {s : State} (hdown : s.dbl.bridge ≠ 2) (hm : s.mode ≠ .boot)
    (h : bit s.clk.enables 18 = true ∨ (s.unit1 = true ∧ s.mode = .rough ∧ s.rough.kind = 1 ∧ joinRequest s.toChip = true)) :
    Becomes .bridgeUp s (bridgeTrained s.toChip) :=
  becomes_event rfl (by simpa [dueBridgeUp, linkedUp, enabled, firstRough, hdown, hm, and_assoc] using h) rfl

/-! JOIN and its answer (R280 steps 3 to 5, R281). -/

/-- Unit 1 answers READY exactly in the first Rough entry with its own Join request, for its own stepping and firmware (R281). -/
theorem joinReason_eq_zero_iff (c : Chip) (step version : Nat) : joinReason c step version = 0 ↔
    c.mode = .rough ∧ c.rough.kind = 1 ∧ joinRequest c = true ∧ step = stepping c ∧ version = c.sec.fw.runVersion := by
  rw [← and_assoc, ← firstRough_iff, ← and_assoc]
  by_cases hready : firstRough c = true ∧ joinRequest c = true
  · rw [joinReason, if_neg (by simp [hready])]
    split_ifs with hstep hversion
    · simp [show step ≠ stepping c by simpa using hstep]
    · simp [show version ≠ c.sec.fw.runVersion by simpa using hversion]
    · simpa [hready] using ⟨by simpa using hstep, by simpa using hversion⟩
  · rw [joinReason, if_pos (by simpa [imp_iff_not_or] using hready)]
    simp [hready]

theorem joinMessage_ready {c : Chip} {step version : Nat} (h : joinReason c step version = 0) : joinMessage c step version =
    emit (modDbl c fun d => { d with joinStep := 4, joinStart := c.clk.carillon }) (.bridge 11 [0]) := by
  rw [joinMessage, h]
  rfl

theorem joinMessage_refused {c : Chip} {step version : Nat} (h : joinReason c step version ≠ 0) : joinMessage c step version =
    emit (modDbl c fun d => { d with state := 3, reason := joinReason c step version, tick := c.clk.carillon })
      (.bridge 11 (leBytes 1 (joinReason c step version))) := if_neg h

theorem becomes_joinMessage {s : State} {step version : Nat} (hu : s.unit1 = true) (hup : s.dbl.bridge = 2) (hj : joining s.toChip = false)
    (hm : s.mode = .rough ∨ s.mode = .normal) (hw : s.dbl.wasJoined = false) :
    Becomes (.joinMessage step version) s (joinMessage s.toChip step version) :=
  becomes_event rfl (by simpa [linkedUp_iff, hu, hup, hj, hw] using hm) rfl

theorem joinTakeTime_lt {t : Nat} (ht : t < 2 ^ 64) (c : Chip) : joinTakeTime c t =
    { c with clk := { c.clk with carillon := t }, dbl := { c.dbl with joinStep := 6, joinTick := t + 10000, seqs := [], partner := [] } } := by
  rw [joinTakeTime, Nat.mod_eq_of_lt ht]
  rfl

/-- Unit 0 of a running join takes the answer to its JOIN. -/
theorem dueJoinReady_unit0 {c : Chip} (hu : c.unit1 = false) (hup : c.dbl.bridge = 2) (hstate : c.dbl.state = 1) (hstep : c.dbl.joinStep = 2)
    {reason : Nat} (hr : reason < 7) : dueJoinReady c reason = true := by simp [dueJoinReady, linkedUp_iff, hu, hup, hstate, hstep, hr]

/-- Unit 1 that has answered READY takes unit 0's word. -/
theorem dueJoinReady_unit1 {c : Chip} (hu : c.unit1 = true) (hup : c.dbl.bridge = 2) (hstep : c.dbl.joinStep = 4)
    {reason : Nat} (hr : reason < 7) : dueJoinReady c reason = true := by simp [dueJoinReady, linkedUp_iff, hu, hup, hstep, hr]

/-- The copies go out with sequence 1 and leave the Doublet's state alone: step 6, the join tick, no sequence of another value (R280). -/
theorem joinCopy_dbl (c : Chip) :
    (joinCopy c).dbl = { c.dbl with seqs := [], partner := [], joinStep := 6, joinTick := c.clk.carillon + 10000 } :=
  foldl_keeps (f := fun c (x : MirrorKind × Nat) => sendMirror c x.1 x.2 1 true) Chip.dbl (fun _ _ => rfl) _ _

theorem becomes_joinTick {s : State} {t : Nat} (hm : s.mode = .rough) (hk : s.rough.kind = 1) (hstep : s.dbl.joinStep = 6) (hup : s.dbl.bridge = 2)
    (ht : s.dbl.joinTick ≤ max s.clk.carillon (t % 2 ^ 64)) : Becomes (.joinTick t) s (joinAtTick (advance s.toChip t)) :=
  becomes_event rfl (by simpa [linkedUp_iff, firstRough, nowAt, hm, hk, hstep, hup] using ht) rfl

/-! The end of the join timeout (R281). -/

section JoinTimeout
variable {s : State} {t : Nat} (hstate : s.dbl.state = 1) (ht : s.dbl.joinStart + obj s.toChip 0x4900 3 ≤ max s.clk.carillon (t % 2 ^ 64))
include hstate ht

theorem becomes_joinTimeout {c : Chip} (hc : (if linkedUp (joinFail (advance s.toChip t) 5) then
    emit (joinFail (advance s.toChip t) 5) (.bridge 11 (leBytes 1 5)) else joinFail (advance s.toChip t) 5) = c) : Becomes (.joinTimeout t) s c :=
  becomes_event rfl (by simpa [nowAt, hstate] using ht) hc

/-- With the link UP the partner is told. -/
theorem becomes_joinTimeout_told (hup : s.dbl.bridge = 2) : Becomes (.joinTimeout t) s (emit (joinFail (advance s.toChip t) 5) (.bridge 11 [5])) :=
  becomes_joinTimeout hstate ht (if_pos (by simpa [linkedUp_iff] using hup))

theorem becomes_joinTimeout_alone (hdown : s.dbl.bridge ≠ 2) : Becomes (.joinTimeout t) s (joinFail (advance s.toChip t) 5) :=
  becomes_joinTimeout hstate ht (if_neg (by simpa [linkedUp_iff] using hdown))

end JoinTimeout

/-! Flushes and keepalives (R277, R292). -/

theorem paired_of {c : Chip} (hup : c.dbl.bridge = 2) (hw : c.dbl.wasJoined = true) : paired c = true := by simp [paired, linkedUp_iff, hup, hw]

/-! The bridge is lost (R281, R292). -/

section BridgeLost
variable {c : Chip}

theorem bridgeLost_joining (h : joining c = true) :
    bridgeLost c = { c with dbl := { c.dbl with bridge := 0, state := 3, reason := 1, joinStep := 0, tick := c.clk.carillon } } := by
  have hj : joining (modDbl c fun d => { d with bridge := 0 }) = true := h
  exact (if_pos hj).trans (joinFail_joining hj 1)

variable (hj : joining c = false)
include hj

theorem bridgeLost_notJoining : bridgeLost c = if c.mode = .doublet then splitEnter (modDbl c fun d => { d with bridge := 0 }) 2
    else if c.mode = .split && c.dbl.kind = 1 then react (isolate (modDbl c fun d => { d with bridge := 0 })) else modDbl c fun d => { d with bridge := 0 } :=
  if_neg (ne_true_of_eq_false hj)

theorem bridgeLost_doublet (hm : c.mode = .doublet) : bridgeLost c = splitEnter (modDbl c fun d => { d with bridge := 0 }) 2 := by
  rw [bridgeLost_notJoining hj, if_pos hm]

/-- A pair split by the partner's Fatal becomes ISOLATED. -/
theorem bridgeLost_split (hm : c.mode = .split) (hk : c.dbl.kind = 1) : bridgeLost c = react (isolate (modDbl c fun d => { d with bridge := 0 })) := by
  rw [bridgeLost_notJoining hj, if_neg (by simp [hm]), if_pos (by simp [hm, hk])]

theorem bridgeLost_normal (hm : c.mode = .normal) : bridgeLost c = modDbl c fun d => { d with bridge := 0 } := by
  rw [bridgeLost_notJoining hj, if_neg (by simp [hm]), if_neg (by simp [hm])]

end BridgeLost

theorem becomes_bridgeLossTimeout {s : State} {t : Nat} {c : Chip} (hup : s.dbl.bridge = 2) (hc : bridgeLost (advance s.toChip t) = c) :
    Becomes (.bridgeLossTimeout t) s c := becomes_event rfl (by simp [linkedUp_iff, hup]) hc

/-! The partner's Fatal and DRAINED (R292, R293, R296). -/

theorem partnerFatal_joining {c : Chip} (h : joining c = true) :
    partnerFatal c = { c with dbl := { c.dbl with state := 3, reason := 6, joinStep := 0, tick := c.clk.carillon } } :=
  (if_pos h).trans (joinFail_joining h 6)

theorem partnerFatal_doublet {c : Chip} (h : joining c = false) (hm : c.mode = .doublet) :
    partnerFatal c = splitEnter (modDbl c fun d => { d with partnerRough := true }) 1 := by
  rw [partnerFatal, if_neg (by simp [h])]
  exact if_pos hm

theorem partnerFatal_noted {c : Chip} (h : joining c = false) (hm : c.mode ≠ .doublet) :
    partnerFatal c = modDbl c fun d => { d with partnerRough := true } := by
  rw [partnerFatal, if_neg (by simp [h])]
  exact if_neg hm

theorem becomes_partnerFatal {s : State} {c : Chip} (hup : s.dbl.bridge = 2) (h : joining s.toChip = true ∨ s.dbl.wasJoined = true)
    (hc : partnerFatal s.toChip = c) : Becomes .partnerFatal s c := becomes_event rfl (by simpa [linkedUp_iff, hup] using h) hc

/-! The partner's die is out of reach (R294). -/

/-- What the loss of the partner's grains leaves alone. -/
def lossFrame (c : Chip) : BelfrySt × PatSt × DblSt := (c.bel, c.pat, c.dbl)

/-- Lost grains turn FAR, are counted and raise an Alert; Belfry, the launches and the pair stay as they are. -/
theorem lossFrame_lostGrains (c : Chip) : lossFrame (lostGrains c) = lossFrame c := by
  have hfar (l : List (Nat × Nat × Nat)) : lossFrame (l.foldl (fun c x => putEntry c (x.1 / 16) (x.1 % 16) x.2.1 (toFar x.2.2)) c) = lossFrame c :=
    foldl_keeps (f := fun c (x : Nat × Nat × Nat) => putEntry c (x.1 / 16) (x.1 % 16) x.2.1 (toFar x.2.2)) lossFrame (fun _ _ => rfl) l c
  unfold lostGrains
  dsimp only
  split
  · exact hfar _
  · exact (show lossFrame (raiseEv (stat _ 0x704A 6 _) 183 0 2 0) = lossFrame _ from rfl).trans (hfar _)

/-- Settles O56: each message and timeout of the pair is due by the pair's state, and becomes what its handler leaves in that state. -/
theorem unitsJoinAndSplit : Obligations.UnitsJoinAndSplit := by
  unfold Obligations.UnitsJoinAndSplit
  refine ⟨fun s hdown hm h hj => ?_, fun s hdown hm h hstate hstep => ?_,
    fun s step version hu hup hj hm hw => ⟨fun hr => ?_, fun hr => ?_⟩, joinReason_eq_zero_iff,
    fun s t hu hup hstate hstep => ?_, fun s t hu hup hstep ht => ?_, fun s reason t hu hup hstate hstep h1 h7 => ?_, fun c => ?_,
    fun s t hm hk hstep hup ht => ?_, fun s t hstate ht hup => becomes_joinTimeout_told hstate ht hup, fun s t hstate ht hdown => becomes_joinTimeout_alone hstate ht hdown,
    fun s hup hw => becomes_event rfl (paired_of hup hw) rfl,
    fun s hf hup => becomes_event rfl (by simp [linkedUp_iff, hf, hup]) rfl,
    fun s t hup hw ht => becomes_event rfl (by simpa [paired_of hup hw, nowAt] using ht) rfl,
    fun s t hup hj hm => becomes_bridgeLossTimeout hup (bridgeLost_doublet hj hm),
    fun s t hup hj => becomes_bridgeLossTimeout hup (bridgeLost_joining hj),
    fun s t hup hj hm hk => becomes_bridgeLossTimeout hup (bridgeLost_split hj hm hk),
    fun s t hup hj hm => becomes_bridgeLossTimeout hup (bridgeLost_normal hj hm),
    fun s hup hj => becomes_partnerFatal hup (.inl hj) (partnerFatal_joining hj),
    fun s hup hj hw hm => becomes_partnerFatal hup (.inr hw) (partnerFatal_doublet hj hm),
    fun s hup hj hw hm => becomes_partnerFatal hup (.inr hw) (partnerFatal_noted hj hm),
    fun c kind => rfl, fun c => ?_, fun s hup hm hk hd => becomes_event rfl (by simp [linkedUp_iff, hup, hm, hk, hd]) rfl⟩
  · exact bridgeTrained_noJoin hj ▸ becomes_bridgeUp hdown hm h
  · exact bridgeTrained_join hstate hstep ▸ becomes_bridgeUp hdown hm (.inl h)
  · exact joinMessage_ready hr ▸ becomes_joinMessage hu hup hj hm hw
  · exact joinMessage_refused hr ▸ becomes_joinMessage hu hup hj hm hw
  · exact becomes_event rfl (dueJoinReady_unit0 hu hup hstate hstep (by decide)) (by simp [hu])
  · exact becomes_event rfl (dueJoinReady_unit1 hu hup hstep (by decide)) (by simp [hu, joinTakeTime_lt ht])
  · refine becomes_event rfl (dueJoinReady_unit0 hu hup hstate hstep h7) ?_
    rw [if_pos (by simpa using Nat.ne_of_gt h1)]
    exact joinFail_joining (joining_of_state hstate) reason
  · rw [joinCopy_dbl]
    exact ⟨rfl, rfl, fun x _ => by rw [seqOf, joinCopy_dbl]; rfl⟩
  · exact (becomes_joinTick hm hk hstep hup ht).answers (by simp [joinAtTick, modDbl, now, advance])
  · simpa [lossFrame] using lossFrame_lostGrains c

end Sys2Proof.Machine
end

section
/-! The level-sensitive outputs after every step (R309, R358). -/

namespace Sys2Proof.Machine

/-- Every command and the passing of a cycle end in `put`, and that is where the outputs settle. -/
theorem step_next_put {s t : State} (h : step s = .next t) : ∃ r c, t = put r c := by
  unfold step at h
  split at h
  · cases h
    exact ⟨_, _, rfl⟩
  · next i rest _ =>
    obtain ⟨n, d, c, he⟩ := exec_event i { s with pending := rest }
    rw [he, event] at h
    split at h
    · cases h
      exact ⟨_, _, rfl⟩
    · cases h

/-- Settles O4: a step answers what `put` leaves, and `put` leaves the outputs settled. -/
theorem everyStepSettlesOutputs : Obligations.EveryStepSettlesOutputs := by
  intro s t h
  obtain ⟨r, c, rfl⟩ := step_next_put h
  exact put_settled r c

end Sys2Proof.Machine
end

section
/-! Resets, training and link power of a port (R300, R311, R318, R319, R322). -/

namespace Sys2Proof.Machine

/-! A port's record after a change of it. -/

section PortRecord
variable (c : Chip) (p : HPort)

@[simp] theorem getPort_modPort_self (f : Port → Port) : getPort (modPort c p f) p = f (getPort c p) := two_setTwo_self ..

@[simp] theorem getPort_emit (e : Emit) : getPort (emit c e) p = getPort c p := rfl

/-- Two changes of one port's record are one. -/
theorem modPort_modPort (f g : Port → Port) : modPort (modPort c p f) p g = modPort c p fun x => g (f x) := by cases p <;> rfl

end PortRecord

/-! Bits of a field that is cleared. -/

/-- A cleared field reads as clear, bit by bit. -/
theorem bit_setBits_zero (v lo : Nat) {w k : Nat} (hk : k < w) : bit (setBits v lo w 0) (lo + k) = false := by
  have hfield : setBits v lo w 0 / 2 ^ lo = 2 ^ w * (v / 2 ^ lo / 2 ^ w) := by
    rw [setBits, bits, Nat.zero_mod, Nat.zero_mul, Nat.add_zero, Nat.mul_comm, Nat.sub_mul_div]
    have := Nat.mod_add_div (v / 2 ^ lo) (2 ^ w)
    omega
  have hpow : 2 ^ w = 2 ^ k * (2 * 2 ^ (w - k - 1)) := by
    rw [← Nat.pow_succ', ← Nat.pow_add]
    congr 1
    omega
  rw [bit, Nat.pow_add, ← Nat.div_div_eq_div_mul, hfield, hpow, Nat.mul_assoc, Nat.mul_div_cancel_left _ (Nat.two_pow_pos k), Nat.mul_assoc, Nat.mul_mod_right]
  rfl

/-! What a reset column clears (R318). -/

section ResetColumn
variable (c : Chip) (p : HPort)

theorem getPort_portRegisters : getPort (portRegisters c p) p = { getPort c p with intxEn := 0, mgmt := false, attached := false, latched := false } :=
  getPort_modPort_self c p fun x => { x with intxEn := 0, mgmt := false, attached := false, latched := false }

theorem portRegisters_mbox : (two (portRegisters c p).dict.mbox p).state = .idle := by simp [portRegisters, resetMbox, setMbox, Mbox.reset]

theorem resetPri_priOff : two (resetPri c p).sp.priOff p = false := two_setTwo_self ..

theorem resetPri_priOut : two (resetPri c p).sp.priOut p = 0 := two_setTwo_self ..

theorem endStreams_sessions : (endStreams c p).sec.spdm.sessions.getD (portNo p) 0 = 0 := by
  simp only [endStreams, List.getD_eq_getElem?_getD, List.getElem?_set_self']
  cases c.sec.spdm.sessions[portNo p]? <;> rfl

theorem endStreams_streams {k : Nat} (hk : k < 5) : bit (endStreams c p).sec.spdm.streams (5 * portNo p + k) = false := bit_setBits_zero _ _ hk

end ResetColumn

/-! Training (R300, R319). -/

theorem linkUp_trained {rate : Nat} (hr : rate ≠ 0) (p : HPort) (width : Nat) (c : Chip) : linkUp p rate width c =
    modPort c p fun x => { x with link := 2, rate := rate, width := width, flitRefused := false, ready := c.mode != .boot } := if_neg hr

section Training
variable {s : State} {p : HPort} (hperst : (getPort s.toChip p).perst = false) (hlink : (getPort s.toChip p).link ≤ 1) (hm : s.boot.mclkRuns = true)
  (hpll : pllState s.toChip 1 = 2) (hd : domainRuns s.toChip (3 + portNo p) = true)
include hperst hlink hm hpll hd

theorem canTrain_of : canTrain s.toChip p = true := by simp [canTrain, hperst, hlink, hm, hpll, hd]

theorem becomes_linkUp {rate width : Nat} (hw : widthOk width = true) (hr : rate ∈ [2, 5, 8, 16, 32, 64] ∨ (rate = 128 ∧ (getPort s.toChip p).proto = 0)) :
    Becomes (.linkUp p rate width) s (modPort s.toChip p fun x =>
      { x with link := 2, rate := rate, width := width, flitRefused := false, ready := s.mode != .boot }) := by
  have hr0 : rate ≠ 0 := by
    rintro rfl
    simp at hr
  have hok : rateOk (getPort s.toChip p).proto rate = true := by simpa [rateOk, and_comm] using hr
  exact becomes_event rfl (by rw [canTrain_of hperst hlink hm hpll hd, hok, hw, Bool.and_self, Bool.or_true, Bool.and_self]) (linkUp_trained hr0 p width _)

theorem becomes_linkUp_flitRefused (width : Nat) :
    Becomes (.linkUp p 0 width) s (modPort s.toChip p fun x => { x with link := 1, flitRefused := true }) :=
  becomes_event rfl (by simp [canTrain_of hperst hlink hm hpll hd]) rfl

end Training

/-! Link power (R311). -/

section LinkPower
variable {s : State} {p : HPort} {t : Nat}

theorem becomes_l0pEntry (hl : (getPort s.toChip p).link = 2) (ha : bit (getPort s.toChip p).cfg.aspm 0 = true) (hw : 4 < (getPort s.toChip p).width)
    (ht : obj s.toChip (0x1210 + portNo p) 5 ≤ nowAt s.toChip t) : Becomes (.l0pEntry p t) s (modPort (advance s.toChip t) p fun x => { x with link := 3 }) :=
  becomes_event rfl (by simp [hl, ha, hw, ht]) rfl

theorem becomes_l1Entry (hl : (getPort s.toChip p).link = 2 ∨ (getPort s.toChip p).link = 3) (ha : bit (getPort s.toChip p).cfg.aspm 1 = true)
    (ht : obj s.toChip (0x1210 + portNo p) 6 ≤ nowAt s.toChip t) (hr : readsOn s.toChip p = 0) (hq : activeQueue s.toChip p = false)
    (hp : ptmDue s.toChip p (nowAt s.toChip t) = false) :
    Becomes (.l1Entry p t) s (modPort (stat (advance s.toChip t) (0x7012 + portNo p) 5 1) p fun x => { x with link := 4 }) :=
  becomes_event rfl (by simp [hl, ha, ht, hr, hq, hp]) rfl

/-- A port with a read outstanding or an ACTIVE queue is not idle. -/
theorem l1Entry_notDue (h : readsOn s.toChip p ≠ 0 ∨ activeQueue s.toChip p = true) : exec (.l1Entry p t) s = .fault (.notDue "L1_ENTRY") := by
  refine if_neg ?_
  rcases h with h | h <;> simp [h]

end LinkPower

/-- Settles O43: the resets by their columns, training by the partner's rate, link power by what keeps a port awake. -/
theorem portsResetTrainAndSleep : Obligations.PortsResetTrainAndSleep := by
  unfold Obligations.PortsResetTrainAndSleep
  exact ⟨fun s p h => becomes_event rfl (by simp [h]) rfl,
    fun s p h => becomes_event rfl h (by rw [portStrap, modPort_modPort]),
    fun s p h => becomes_event rfl h rfl,
    fun s p h => becomes_event rfl h rfl,
    fun s p t h hd ht => becomes_event rfl (by simpa [h, hd, nowAt] using ht) rfl,
    fun s p rate width hperst hlink hm hpll hd hw hr => becomes_linkUp hperst hlink hm hpll hd hw hr,
    fun s p width hperst hlink hm hpll hd => becomes_linkUp_flitRefused hperst hlink hm hpll hd width,
    fun s p h => becomes_event rfl h rfl,
    fun c p => ⟨getPort_portRegisters c p, portRegisters_mbox c p, resetPri_priOff c p, resetPri_priOut c p, endStreams_sessions c p,
      fun k hk => endStreams_streams c p hk⟩,
    fun g => ⟨rfl, rfl, rfl, rfl, rfl, rfl⟩,
    fun s p t hl ha hw ht => becomes_l0pEntry hl ha hw ht,
    fun s p t hl ha ht hr hq hp => becomes_l1Entry hl ha ht hr hq hp,
    fun s p h => becomes_event rfl (by simpa using h) rfl,
    fun s p t h => l1Entry_notDue h⟩

end Sys2Proof.Machine
end

section
/-! Configuration requests, FLR, shutdowns and attach (R303, R317, R319 to R321). -/

namespace Sys2Proof.Machine

/-! A configuration request is answered, or held with RRS (R319, R320). -/

section Answering
variable {c : Chip} {p : HPort}

theorem cfgWrite_answered (h : cfgAnswers c p = true) (f : Chip → Chip) : cfgWrite c p f = f (emit c (.completion p 0 [])) := if_pos h

theorem cfgWrite_unanswered (h : cfgAnswers c p = false) (f : Chip → Chip) : cfgWrite c p f = sendRrs c p := if_neg (by simp [h])

end Answering

/-! Its effects (R303, R321). -/

section Effects
variable {c : Chip} {p : HPort}

theorem bmeClear_set (hb : (getPort c p).cfg.bme = true) (hs : (getPort c p).shut = 0) :
    bmeClear p c = startShut (modCfg c p fun g => { g with bme := false }) p 2 := by simp [bmeClear, modCfg, hb, hs]

theorem bmeClear_clear (hb : (getPort c p).cfg.bme = false) : bmeClear p c = c := by simp [bmeClear, hb]

theorem d3hotEntry_enters (hd : (getPort c p).cfg.d3 = false) (hs : (getPort c p).shut = 0) :
    d3hotEntry p c = startShut (modCfg c p fun g => { g with d3 := true }) p 3 := by simp [d3hotEntry, modCfg, hd, hs]

theorem writeCommand_masters {v : Nat} (h : bit v 2 = true) : writeCommand p v c =
    modCfg c p fun g => { g with mse := bit v 1, parity := bit v 6, serr := bit v 8, intDisable := bit v 10, bme := true } := by
  simp [writeCommand, h, modCfg, modPort_modPort]

end Effects

section ConfigWrite
variable {s : State} {p : HPort} {reg : CfgReg} {v : Nat} (hup : linkIsUp s.toChip p = true)
include hup

theorem becomes_configWrite_heldOff (hh : heldOff s.toChip p reg v = true) : Becomes (.configWrite p reg v) s (sendRrs s.toChip p) :=
  becomes_event rfl hup (if_pos hh)

theorem becomes_configWrite_answered (hh : heldOff s.toChip p reg v = false) (ha : cfgAnswers s.toChip p = true) :
    Becomes (.configWrite p reg v) s (configWrite p reg v (emit s.toChip (.completion p 0 []))) :=
  becomes_event rfl hup ((if_neg (by simp [hh])).trans (cfgWrite_answered ha _))

theorem becomes_configWrite_unanswered (ha : cfgAnswers s.toChip p = false) : Becomes (.configWrite p reg v) s (sendRrs s.toChip p) := by
  cases hh : heldOff s.toChip p reg v with
  | true => exact becomes_configWrite_heldOff hup hh
  | false => exact becomes_event rfl hup ((if_neg (by simp [hh])).trans (cfgWrite_unanswered ha _))

end ConfigWrite

/-! Attach (R317). -/

section Attach
variable {c : Chip} {src : Src} {p : HPort}

theorem portAttach_allowed (hm : (getPort c p).cfg.mse = true) (hb : (getPort c p).cfg.bme = true) (hd : (getPort c p).cfg.d3 = false)
    (hs : (getPort c p).shut = 0) (hp : (getPort c p).pool = false) (ha : (getPort c p).attached = false) (hi : ideShut c p = false) :
    portAttach (.mbox p) p c = (0, modPort c p fun x => { x with attached := true, epoch := (x.epoch + 1) % 2 ^ 32 }) := by
  simp [portAttach, hm, hb, hd, hs, hp, ha, hi]

theorem portAttach_turnedAway (h : src ≠ .mbox p ∨ (getPort c p).cfg.mse = false ∨ (getPort c p).cfg.bme = false ∨ (getPort c p).cfg.d3 = true
    ∨ (getPort c p).pool = true ∨ (getPort c p).attached = true) : portAttach src p c = (7, c) := by
  refine if_pos ?_
  rcases h with h | h | h | h | h | h <;> simp [h]

variable (p) in
theorem writesBy_portDetach : WritesBy (fun src tag => .portDetach src tag p) (0x1210 + portNo p) 8 (leBytes 1 2) (portDetach p) id :=
  fun _ _ _ hp => becomes_event rfl hp rfl

theorem becomes_portAttach {s : State} {tag st : Nat} (h : Serves s src (writeReq tag (0x1210 + portNo p) 8 (leBytes 1 1)))
    (hh : portAttach src p s.toChip = (st, c)) :
    Becomes (.portAttach src tag p) s (finishWrite c src (writeReq tag (0x1210 + portNo p) 8 (leBytes 1 1)) st 0) := by
  obtain ⟨⟨hp, hc⟩, hf⟩ := h
  exact becomes_event rfl hp (by rw [serve_handled hc hf, hh])

end Attach

/-- Settles O44: each request by whether it is answered and what it finds, the registers by their fields, attach by its conditions. -/
theorem configurationAndAttach : Obligations.ConfigurationAndAttach := by
  unfold Obligations.ConfigurationAndAttach
  exact ⟨fun s p hup ha => becomes_event rfl hup (cfgWrite_answered ha _),
    fun s p hup ha hb hs => becomes_event rfl hup ((cfgWrite_answered ha _).trans (bmeClear_set hb hs)),
    fun s p hup ha hb => becomes_event rfl hup ((cfgWrite_answered ha _).trans (bmeClear_clear hb)),
    fun s p hup ha hd hs => becomes_event rfl hup ((cfgWrite_answered ha _).trans (d3hotEntry_enters hd hs)),
    fun s p hup ha => ⟨becomes_event rfl hup (cfgWrite_unanswered ha _), becomes_event rfl hup (cfgWrite_unanswered ha _),
      becomes_event rfl hup (cfgWrite_unanswered ha _), fun reg v => becomes_configWrite_unanswered hup ha⟩,
    fun s p reg v hup hh => becomes_configWrite_heldOff hup hh,
    fun s p reg v hup hh ha => becomes_configWrite_answered hup hh ha,
    fun c p v => ⟨rfl, rfl, rfl, rfl⟩,
    fun c p v h => writeCommand_masters h,
    fun s p tag h hm hb hd hs hp ha hi => becomes_portAttach h (portAttach_allowed hm hb hd hs hp ha hi),
    fun s src p tag h hx => becomes_portAttach h (portAttach_turnedAway hx),
    fun p => (writesBy_portDetach p).does fun c _ => rfl⟩

end Sys2Proof.Machine
end

section
/-! Port errors and the accesses of a host (R302, R305 to R310, R312, R315, R316, R322, R326, R327). -/

namespace Sys2Proof.Machine

/-! The error log (R315). -/

section ErrorLog
variable (c : Chip) (p : HPort)

theorem aerUncorrectable_logs (b msg : Nat) : bit (getPort (aerUncorrectable c p b msg) p).cfg.aerUnc b = true := by simp [aerUncorrectable]

theorem aerCorrectable_logs (b : Nat) : bit (getPort (aerCorrectable c p b) p).cfg.aerCor b = true := by simp [aerCorrectable]

/-- An advisory error is logged among the uncorrectable ones too. -/
theorem aerAdvisory_logs (b : Nat) : bit (getPort (aerAdvisory c p b) p).cfg.aerUnc b = true := by simp [aerAdvisory, aerCorrectable]

end ErrorLog

/-! A read past its limit (R315, R316). -/

theorem becomes_completionTimeout {s : State} {id t : Nat} {r : XReq} {p : HPort} (hr : tget s.xf.reqs id = some r) (hp : routePort r.route = some p)
    (hw : r.write = false) (ht : r.limit ≤ nowAt s.toChip t) : Becomes (.completionTimeout id t) s (completionTimeout r p (advance s.toChip t)) :=
  becomes_event rfl (by simp [hr, hp, hw, ht]) (by simp [hr, hp])

/-! The optical engine (R302). -/

section OpticalEngine
variable {s : State} {p : HPort} (hm : s.boot.mclkRuns = true) (hd : domainRuns s.toChip (9 + portNo p) = true)
include hm hd

theorem becomes_opticalPoll {light faults temp st t : Nat} (hn : (getPort s.toChip p).oeNext ≤ nowAt s.toChip t) (hl : light < 65536)
    (hf : faults < 65536) (ht : temp < 256) (hst : st < 3) :
    Becomes (.opticalPoll p light faults temp st t) s (modPort (advance s.toChip t) p fun x => { x with
      oeLight := light, oeFault := faults, oeTemp := temp, oeState := st, oeNext := nowAt s.toChip t + 100000 }) :=
  becomes_event rfl (by simp [hm, hd, hn]) (by simp only [Nat.mod_eq_of_lt, hl, hf, ht, hst])

/-- A fault that leaves no lane is due whenever the engine's report can come. -/
theorem becomes_opticalEngineFault {lanes : Nat} {c : Chip} (hc : opticalFault p lanes 0 s.toChip = c) : Becomes (.opticalEngineFault p lanes 0) s c :=
  becomes_event rfl (by simp [hm, hd]) hc

end OpticalEngine

/-- The engine's fault as the unit notes and reports it. -/
def opticalFaultNoted (c : Chip) (p : HPort) (lanes : Nat) : Chip :=
  raiseEv (modPort c p fun x => { x with oeFault := x.oeFault ||| lanes, oeState := 2, oeTick := c.clk.carillon }) (18 + 8 * portNo p) 0 2 lanes

section OpticalFault
variable {c : Chip} {p : HPort} {lanes : Nat}

theorem linkIsUp_opticalFaultNoted : linkIsUp (opticalFaultNoted c p lanes) p = linkIsUp c p := by cases p <;> rfl

theorem opticalFault_dark (hl : lanes < 65536) : opticalFault p lanes 0 c =
    if !linkIsUp c p then opticalFaultNoted c p lanes else portReset (opticalFaultNoted c p lanes) p 0 hotConfig := by
  rw [← linkIsUp_opticalFaultNoted (lanes := lanes)]
  simp only [opticalFault, Nat.mod_eq_of_lt hl, if_true]
  rfl

theorem opticalFault_linkDown (hup : linkIsUp c p = false) (hl : lanes < 65536) : opticalFault p lanes 0 c = opticalFaultNoted c p lanes := by
  simp [opticalFault_dark hl, hup]

theorem opticalFault_linkLost (hup : linkIsUp c p = true) (hl : lanes < 65536) :
    opticalFault p lanes 0 c = portReset (opticalFaultNoted c p lanes) p 0 hotConfig := by simp [opticalFault_dark hl, hup]

end OpticalFault

/-! A host access that the port takes, and one that it does not (R307). -/

section Accesses
variable {c : Chip} {p : HPort}

theorem hostWrite_undecoded (hd : hostDecodes c p = false) (n : Nat) (ok : Bool) (f : Chip → Chip) : hostWrite c p n ok f = urWrite (received c p n) p := by
  have hd' : hostDecodes (received c p n) p = false := hd
  simp [hostWrite, hd']

theorem hostWrite_disallowed (n : Nat) (f : Chip → Chip) : hostWrite c p n false f = urWrite (received c p n) p := by simp [hostWrite]

theorem hostRead_decoded (hd : hostDecodes c p = true) (f : Chip → Bytes × Chip) : hostRead c p true f = complete (f c).2 p 0 (f c).1 := by
  simp [hostRead, hd]

theorem hostRead_undecoded (hd : hostDecodes c p = false) (ok : Bool) (f : Chip → Bytes × Chip) : hostRead c p ok f = urRead c p := by
  simp [hostRead, hd]

end Accesses

/-! A write of a register (R306, R307, R312). -/

section RegisterWrite
variable {s : State} {p : HPort} {off size v : Nat} (hp : hostPosts s.toChip p = true)
include hp

theorem becomes_registerWrite {b : Bar} {c : Chip} (ho : off < barSize b) (h : registerWrite p b off size v s.toChip = c) :
    Becomes (.registerWrite p b off size v) s c := becomes_event rfl (by simp [dueRegisterWrite, hp, ho]) h

theorem becomes_registerWrite_rom (ho : off < 0x1000000) : Becomes (.registerWrite p .rom off size v) s (urWrite (received s.toChip p size) p) :=
  becomes_registerWrite hp ho (hostWrite_disallowed size id)

theorem becomes_registerWrite_undecoded {b : Bar} (hd : hostDecodes s.toChip p = false) (ho : off < barSize b) :
    Becomes (.registerWrite p b off size v) s (urWrite (received s.toChip p size) p) := by
  refine becomes_registerWrite hp ho ?_
  cases b <;> simp only [registerWrite, hostWrite_undecoded hd]

theorem becomes_bar0Write_disallowed (ho : off < 0x100000) (ha : bar0Allowed s.toChip off size = false) :
    Becomes (.registerWrite p .bar0 off size v) s (urWrite (received s.toChip p size) p) :=
  becomes_registerWrite hp ho (by rw [registerWrite, ha, hostWrite_disallowed])

variable (hd : hostDecodes s.toChip p = true)
include hd

theorem becomes_bar0Write (ho : off < 0x100000) (ha : bar0Allowed s.toChip off size = true) :
    Becomes (.registerWrite p .bar0 off size v) s (bar0Write (received s.toChip p size) p off size v) :=
  becomes_registerWrite hp ho (by rw [registerWrite, ha, hostWrite_decoded hd])

theorem becomes_pageWrite (ho : off < 0x1000000) (hs : sizeOk off size = true) (ha : pageAllowed s.toChip p (off / 4096) (off % 4096) size = true) :
    Becomes (.registerWrite p .bar2 off size v) s (pageWrite (received s.toChip p size) p (off / 4096) (off % 4096) v) :=
  becomes_registerWrite hp ho (by rw [registerWrite, hs, ha, Bool.and_self, hostWrite_decoded hd])

theorem becomes_intxEnableWrite : Becomes (.registerWrite p .bar0 0x1054 4 v) s (modPort (received s.toChip p 4) p fun x => { x with intxEn := v % 4 }) :=
  becomes_bar0Write hp hd (by decide) rfl

/-- UNIT_STATUS is read-only: a write of it is discarded without UR. -/
theorem becomes_unitStatusWrite : Becomes (.registerWrite p .bar0 0x1000 4 v) s (received s.toChip p 4) := becomes_bar0Write hp hd (by decide) rfl

end RegisterWrite

/-! A read of the ROM window (R308). -/

section Rom
variable {c : Chip} {p : HPort} {off n : Nat}

theorem romRead_intact (h : ∀ k, k ∈ romBlocks c off n → blockOk c.sec.fw.running k = true) :
    romRead p off n c = complete c p 0 ((upFrom off n).map (romByte c)) := by
  have hnone : ((romBlocks c off n).find? fun k => !blockOk c.sec.fw.running k) = none := List.find?_eq_none.mpr fun k hk => by simp [h k hk]
  rw [romRead, hnone]

theorem romRead_poisoned {k : Nat} {r : List Nat} (h : (romBlocks c off n).filter (fun k => !blockOk c.sec.fw.running k) = k :: r) :
    romRead p off n c = complete (raiseEv c 186 k 2 0) p 3 ((upFrom off n).map (romByte c)) := by
  have hfirst : ((romBlocks c off n).find? fun k => !blockOk c.sec.fw.running k) = some k := by rw [← List.head?_filter, h, List.head?_cons]
  rw [romRead, hfirst]

theorem becomes_romRead {s : State} (hr : hostReach s.toChip p = true) (hd : hostDecodes s.toChip p = true)
    (he : bit (getPort s.toChip p).cfg.rom 0 = true) (h0 : 0 < n) (hn : n ≤ 4096) (hin : off + n ≤ 0x1000000) (ha : off % n = 0)
    (h : romRead p off n s.toChip = c) : Becomes (.romRead p off n) s c := by
  have hok : romAllowed s.toChip p off n = true := by simp [romAllowed, he, h0, hn, hin, ha]
  exact becomes_event rfl hr ((if_pos (by simp [hd, hok])).trans h)

theorem becomes_romRead_undecoded {s : State} (hr : hostReach s.toChip p = true) (hd : hostDecodes s.toChip p = false) :
    Becomes (.romRead p off n) s (urRead s.toChip p) := becomes_event rfl hr (if_neg (by simp [hd]))

end Rom

/-- Settles O45: a link error by its kind, the engine's report and fault, then an access by whether the port decodes it and the register takes it. -/
theorem hostAccessesAndPortErrors : Obligations.HostAccessesAndPortErrors := by
  unfold Obligations.HostAccessesAndPortErrors
  refine ⟨fun s id t r p hr hp hw ht => becomes_completionTimeout hr hp hw ht, fun s p hup => ?_,
    fun c p b msg => ⟨aerUncorrectable_logs c p b msg, rfl, aerCorrectable_logs c p b, rfl⟩,
    fun s p light faults temp st t hm hd hn hl hf ht hst => becomes_opticalPoll hm hd hn hl hf ht hst,
    fun s p lanes hm hd hup hl => becomes_opticalEngineFault hm hd (opticalFault_linkDown hup hl),
    fun s p lanes hm hd hup hl => becomes_opticalEngineFault hm hd (opticalFault_linkLost hup hl),
    fun s p hr hd => ⟨becomes_event rfl hr (hostRead_decoded hd _), becomes_event rfl hr (hostRead_decoded hd _),
      fun off n he h0 hn hin ha hok => becomes_romRead hr hd he h0 hn hin ha (romRead_intact hok),
      fun off n k r he h0 hn hin ha hbad => becomes_romRead hr hd he h0 hn hin ha (romRead_poisoned hbad)⟩,
    fun s p hp hd => ⟨becomes_event rfl hp (hostWrite_decoded hd 4 _), fun off size v ho ha => becomes_bar0Write hp hd ho ha,
      fun off size v ho ha => becomes_bar0Write_disallowed hp ho ha, fun off size v ho hs ha => becomes_pageWrite hp hd ho hs ha,
      fun v => becomes_intxEnableWrite hp hd, fun v => becomes_unitStatusWrite hp hd⟩,
    fun s p hr hd => ⟨becomes_event rfl hr (hostRead_undecoded hd ..), becomes_event rfl hr (hostRead_undecoded hd ..),
      fun off n => becomes_romRead_undecoded hr hd⟩,
    fun s p hp hd => ⟨becomes_event rfl hp (hostWrite_undecoded hd ..), fun b off size v ho => becomes_registerWrite_undecoded hp hd ho⟩,
    fun s p off size v hp ho => becomes_registerWrite_rom hp ho,
    fun c p => ⟨rfl, rfl, aerUncorrectable_logs c p 20 0x31, aerAdvisory_logs c p 20⟩⟩
  exact ⟨becomes_event rfl hup rfl, becomes_event rfl hup rfl, becomes_event rfl hup rfl, becomes_event rfl hup rfl, becomes_event rfl hup rfl,
    fun hs => becomes_event rfl hup (if_neg (by simp [hs])), fun hs => becomes_event rfl hup (if_pos (by simp [hs]))⟩

end Sys2Proof.Machine
end

section
/-! The machine as a whole (R326). -/

namespace Sys2Proof.Machine

/-- Settles O1: a step answers what `exec` answers on the queue's rest, and the rest of the longer queue is the queue. -/
theorem stepRunsFrontCommand : Obligations.StepRunsFrontCommand := fun _ _ => rfl

theorem step_empty {s : State} (h : s.pending = []) : step s = .next (put s (kclkCycle s.toChip)) := by rw [step, h]

/-- KCLK that is clocked from PLL-K counts one tick a cycle. -/
theorem kclkCycle_onPll {c : Chip} (hf : c.boot.fircOn = true) (hd : domainRuns c 22 = true) (hk : kclkOnFirc c = false) :
    kclkCycle c = { c with clk := { c.clk with carillon := (c.clk.carillon + 1) % 2 ^ 64 } } := by simp [kclkCycle, hf, hd, hk]

/-- Settles O2: on an empty queue the step is one cycle of KCLK. -/
theorem emptyQueuePassesOneTick : Obligations.EmptyQueuePassesOneTick := by
  unfold Obligations.EmptyQueuePassesOneTick
  refine ⟨fun s h => ⟨_, step_empty h, h⟩, fun s h hf hd hk => ?_⟩
  rw [step_empty h, kclkCycle_onPll hf hd hk]

/-- Settles O3: a command is one event, which is due or not. -/
theorem commandsCompleteOrAreNotDue : Obligations.CommandsCompleteOrAreNotDue := by
  intro i s
  obtain ⟨n, due, c, he⟩ := exec_event i s
  rw [he]
  cases due with
  | true => exact .inl ⟨put s c, rfl, rfl⟩
  | false => exact .inr ⟨n, rfl⟩

end Sys2Proof.Machine
end

section
/-! Time samples, the discipline and steps of Carillon (R330 to R333). -/

namespace Sys2Proof.Machine

/-! The periods and answers of PTM, and its timeouts (R330). -/

section Ptm
variable {s : State} {p : HPort} {t : Nat} (hp : timeSource s.toChip = portNo p + 1)
include hp

theorem ptmPort_of_timeSource : ptmPort s.toChip = some p := by cases p <;> simp [ptmPort, hp, portNo]

theorem becomes_ptmRequest {c : Chip} (hl : (getPort s.toChip p).link ≠ 4) (hm : s.boot.mclkRuns = true) (hk : kclkFirc s.toChip = false)
    (hf : followsPartner s.toChip = false) (ht : s.clk.disc.ptmNext ≤ nowAt s.toChip t) (hc : ptmRequest (advance s.toChip t) p = c) :
    Becomes (.ptmRequest t) s c :=
  becomes_event rfl (by simp [ptmPort_of_timeSource hp, hl, hm, hk, hf, ht]) (by rw [ptmPort_of_timeSource hp]; exact hc)

theorem ptmResponse_usable (hu : ptmUsable s.toChip p = true) (hk : kclkFirc s.toChip = false) (master : Nat) :
    ptmResponse (advance s.toChip t) master = validSample (modDisc (advance s.toChip t) fun d => { d with ptmOut := false })
      (ptmOffset (advance s.toChip t) master) := by
  have hport : ptmPort (modDisc (advance s.toChip t) fun d => { d with ptmOut := false }) = some p := ptmPort_of_timeSource hp
  have hgood : (ptmUsable (modDisc (advance s.toChip t) fun d => { d with ptmOut := false }) p
    && !kclkFirc (modDisc (advance s.toChip t) fun d => { d with ptmOut := false })) = true := by
    rw [show ptmUsable (modDisc (advance s.toChip t) fun d => { d with ptmOut := false }) p = true from hu,
      show kclkFirc (modDisc (advance s.toChip t) fun d => { d with ptmOut := false }) = false from hk]
    rfl
  simp only [ptmResponse, hport, hgood, if_true]
  rfl

end Ptm

theorem ptmUsable_of_link {c : Chip} {p : HPort} (hl : (getPort c p).link = 2 ∨ (getPort c p).link = 3) (he : (getPort c p).cfg.ptmEn = true) :
    ptmUsable c p = true := by simp [ptmUsable, hl, he]

theorem ptmRequest_usable {c : Chip} {p : HPort} (hu : ptmUsable c p = true) : ptmRequest c p =
    modDisc (emit (modDisc c fun d => { d with ptmNext := now c + obj c 0x1300 0xA }) (.ptmRequest p)) fun d => { d with ptmOut := true, ptmSent := now c } :=
  if_pos hu

theorem ptmRequest_unusable {c : Chip} {p : HPort} (hu : ptmUsable c p = false) : ptmRequest c p =
    stat (modDisc c fun d => { d with ptmNext := now c + obj c 0x1300 0xA }) 0x7014 5 1 := if_neg (Bool.eq_false_iff.mp hu)

/-! PPS edges (R331). -/

/-- A run of PPS edges goes on with this one. -/
abbrev ppsTaken (c : Chip) : Chip :=
  modDisc c fun x => { x with ppsLast := now c, ppsOpen := true, ppsNext := (c.clk.disc.ppsNext + 1000000000) % 2 ^ 64 }

theorem becomes_ppsEdge {s : State} {t : Nat} {c : Chip} (hf : s.boot.fircOn = true)
    (hc : (if timeSource s.toChip = 3 && !kclkFirc s.toChip && !followsPartner s.toChip then ppsEdge (advance s.toChip t) else advance s.toChip t) = c) :
    Becomes (.ppsEdge t) s c := becomes_event rfl hf hc

theorem becomes_ppsEdge_judged {s : State} {t : Nat} {c : Chip} (hf : s.boot.fircOn = true) (hs : timeSource s.toChip = 3)
    (hk : kclkFirc s.toChip = false) (hp : followsPartner s.toChip = false) (hc : ppsEdge (advance s.toChip t) = c) : Becomes (.ppsEdge t) s c :=
  becomes_ppsEdge hf ((if_pos (by simp [hs, hk, hp])).trans hc)

section PpsEdge
variable {c : Chip}

theorem ppsEdge_unset (hs : c.clk.disc.ppsSet = false) : ppsEdge c = stat c 0x7014 5 1 := by simp [ppsEdge, hs, invalidSample]

variable (hs : c.clk.disc.ppsSet = true)
include hs

theorem ppsEdge_early (ho : c.clk.disc.ppsOpen = true) (ht : now c < c.clk.disc.ppsLast + 900000000) : ppsEdge c = stat c 0x7014 5 1 := by
  simp [ppsEdge, hs, ho, ht, invalidSample]

theorem ppsEdge_opens (h : c.clk.disc.ppsOpen = false ∨ c.clk.disc.ppsLast + 1100000000 < now c) : ppsEdge c = ppsTaken c := by
  rcases h with ho | ht
  · simp [ppsEdge, hs, ho, ppsTaken, modDisc, modClk]
  · have hearly : ¬ now c < c.clk.disc.ppsLast + 900000000 := by omega
    simp [ppsEdge, hs, hearly, Nat.not_le.mpr ht, ppsTaken, modDisc, modClk]

theorem ppsEdge_inRun (ho : c.clk.disc.ppsOpen = true) (hlo : c.clk.disc.ppsLast + 900000000 ≤ now c) (hhi : now c ≤ c.clk.disc.ppsLast + 1100000000) :
    ppsEdge c = validSample (ppsTaken c) ((c.clk.disc.ppsNext : Int) - (now c : Int)) := by
  simp [ppsEdge, hs, ho, Nat.not_lt.mpr hlo, hhi, ppsTaken, modDisc, modClk]

end PpsEdge

/-! The end of the entry time (R333). -/

theorem becomes_holdoverEntryExpiry {s : State} {t : Nat} {c : Chip} (hs : s.clk.disc.state = 1 ∨ s.clk.disc.state = 2)
    (ht : s.clk.disc.since + obj s.toChip 0x1300 9 ≤ nowAt s.toChip t) (hc : holdoverExpiry (advance s.toChip t) = c) :
    Becomes (.holdoverEntryExpiry t) s c := becomes_event rfl (by simp [hs, ht]) hc

theorem holdoverExpiry_acquiring {c : Chip} (hs : c.clk.disc.state = 1) :
    holdoverExpiry c = modDisc c fun d => { d with state := 0, good := 0 } := if_pos hs

theorem enterHoldover_of_ne {c : Chip} (hs : c.clk.disc.state ≠ 3) : enterHoldover c =
    modDisc (stat c 0x7014 3 1) fun d => { d with state := 3, good := 0, holdTick := now c, holdB0 := d.lastOff.natAbs + 20 } := if_neg hs

theorem holdoverExpiry_locked {c : Chip} (hs : c.clk.disc.state = 2) : holdoverExpiry c =
    modDisc (stat c 0x7014 3 1) fun d => { d with state := 3, good := 0, holdTick := now c, holdB0 := d.lastOff.natAbs + 20 } := by
  rw [holdoverExpiry, if_neg (by simp [hs]), enterHoldover_of_ne (by simp [hs])]

/-! The discipline's states (R333). -/

section SampleState
variable {c : Chip} {off : Int}

theorem sampleState_acquiring (hs : c.clk.disc.state = 1) (hg : c.clk.disc.good < 7) (ho : off.natAbs ≤ obj c 0x1300 8) :
    (sampleState c off).clk.disc = { c.clk.disc with good := c.clk.disc.good + 1, state := 1 } := by
  have h8 : c.clk.disc.good ≠ 7 := by omega
  simp [sampleState, hs, ho, h8, modDisc, modClk]

theorem sampleState_locks (hs : c.clk.disc.state = 1) (hg : c.clk.disc.good = 7) (ho : off.natAbs ≤ obj c 0x1300 8) :
    (sampleState c off).clk.disc = { c.clk.disc with good := 0, state := 2 } := by simp [sampleState, hs, ho, hg, modDisc, modClk]

theorem sampleState_far (hs : c.clk.disc.state = 1) (ho : obj c 0x1300 8 < off.natAbs) :
    (sampleState c off).clk.disc = { c.clk.disc with good := 0, state := 1 } := by simp [sampleState, hs, Nat.not_le.mpr ho, modDisc, modClk]

theorem sampleState_locked (hs : c.clk.disc.state = 2) :
    (sampleState c off).clk.disc.state = if 4 * obj c 0x1300 8 < off.natAbs then 1 else 2 := by
  have hstate : sampleState c off = if 4 * obj c 0x1300 8 < off.natAbs then modDisc c fun x => { x with state := 1, good := 0 } else c := by
    simp [sampleState, hs]
  rw [hstate]
  split
  · rfl
  · exact hs

theorem sampleState_holdover (hs : c.clk.disc.state = 3) : (sampleState c off).clk.disc.state = 1 := by
  simp [sampleState, hs, leaveHoldover, modDisc, modClk]

/-- A sample changes the discipline alone, whose Align stays armed and which no sample stops. -/
theorem sampleState_spec (c : Chip) (off : Int) : ∃ d, sampleState c off = modDisc c (fun _ => d) ∧ d.align = c.clk.disc.align
    ∧ (c.clk.disc.state ≠ 0 → d.state ≠ 0) := by
  unfold sampleState
  dsimp only
  split
  · have hrun (a : Prop) [Decidable a] : (if a then 2 else 1) ≠ 0 := by split <;> decide
    exact ⟨_, rfl, rfl, fun _ => hrun _⟩
  · split
    · split
      · exact ⟨_, rfl, rfl, fun _ => Nat.one_ne_zero⟩
      · exact ⟨_, rfl, rfl, id⟩
    · split
      · exact ⟨_, rfl, rfl, fun _ => Nat.one_ne_zero⟩
      · exact ⟨_, rfl, rfl, id⟩

end SampleState

/-! What a valid sample does (R332, R333). -/

/-- A valid sample is counted, and past the Offset alert it raises source 8. -/
def sampleCounted (c : Chip) (off : Int) : Chip :=
  if obj (stat c 0x7014 4 1) 0x1300 0xE < off.natAbs then raiseEv (stat c 0x7014 4 1) 8 0 2 0 else stat c 0x7014 4 1

/-- An armed Align steps Carillon to the source time. -/
def sampleAligned (c : Chip) (off : Int) : Chip :=
  if c.clk.disc.align && firstRough c then
    modDisc (modClk c fun k => { k with carillon := toTwos 64 ((k.carillon : Int) + off) }) fun d => { d with align := false, ppsOpen := false }
  else c

/-- The unit after a valid sample, but for the steering. -/
def sampleNoted (c : Chip) (off : Int) : Chip :=
  let c := sampleAligned (sampleState (sampleCounted c off) off) off
  modDisc c fun d => { d with lastOff := off, lastTick := now c, since := now c }

theorem validSample_eq (c : Chip) (off : Int) : validSample c off = steer (sampleNoted c off) := rfl

/-- Steering changes its own value, PLL-K's configuration and the free values drawn; within the Slew limit. -/
theorem steer_moves {c : Chip} (h : c.clk.disc.state ≠ 0) : ∃ v, steer c = modDisc (setObj (takeFree (takeFree c 32).2 64).2 0x1313 1 v)
    fun d => { d with steer := (((takeFree c 32).1 % (2 * obj c 0x1300 7 + 1) : Nat) : Int) - (obj c 0x1300 7 : Int) } := ⟨_, if_neg h⟩

theorem steer_idle {c : Chip} (h : c.clk.disc.state = 0) : steer c = c := if_pos h

section Steer
variable (c : Chip)

/-- Steering changes its own value of the clock system, within the Slew limit. -/
theorem steer_clk : ∃ x, (steer c).clk = { c.clk with disc := { c.clk.disc with steer := x } } ∧ (c.clk.disc.state ≠ 0 → x.natAbs ≤ obj c 0x1300 7) := by
  by_cases h : c.clk.disc.state = 0
  · exact ⟨_, by rw [steer_idle h], fun hs => absurd h hs⟩
  · obtain ⟨v, hv⟩ := steer_moves h
    have hr : (takeFree c 32).1 % (2 * obj c 0x1300 7 + 1) < 2 * obj c 0x1300 7 + 1 := Nat.mod_lt _ (Nat.succ_pos _)
    exact ⟨_, by rw [hv]; rfl, fun _ => by omega⟩

theorem steer_toc : (steer c).toc = c.toc := by
  by_cases h : c.clk.disc.state = 0
  · rw [steer_idle h]
  · obtain ⟨v, hv⟩ := steer_moves h
    rw [hv]
    rfl

theorem obj_steer {j r : Nat} (hk : objKey j r ≠ objKey 0x1313 1) : obj (steer c) j r = obj c j r := by
  by_cases h : c.clk.disc.state = 0
  · rw [steer_idle h]
  · obtain ⟨v, hv⟩ := steer_moves h
    rw [hv]
    exact obj_setObj_ne _ _ _ _ hk

end Steer

/-- The events that a sample past the Offset alert raises. -/
abbrev offsetAlert (c : Chip) (off : Int) : List TocEvent := if obj c 0x1300 0xE < off.natAbs then [⟨8, 0, 2, 0⟩] else []

section ValidSample
variable (c : Chip) (off : Int)

theorem sampleCounted_spec : ∃ t, sampleCounted c off = { stat c 0x7014 4 1 with toc := t } ∧ t.raised = c.toc.raised ++ offsetAlert c off := by
  rw [sampleCounted, offsetAlert, obj_stat_ne _ _ _ _ (by decide)]
  split
  · exact ⟨_, rfl, rfl⟩
  · exact ⟨_, rfl, (List.append_nil _).symm⟩

theorem sampleAligned_spec : ∃ k, sampleAligned c off = modClk c (fun _ => k) ∧ k.disc.state = c.clk.disc.state ∧
    (c.clk.disc.align = false ∨ firstRough c = false → k.carillon = c.clk.carillon) ∧
    (c.clk.disc.align = true → firstRough c = true → k.carillon = toTwos 64 ((c.clk.carillon : Int) + off) ∧ k.disc.align = false) := by
  unfold sampleAligned
  split
  · next h =>
    obtain ⟨ha, hf⟩ := Bool.and_eq_true_iff.mp h
    exact ⟨_, rfl, rfl, fun hn => by simp [ha, hf] at hn, fun _ _ => ⟨rfl, rfl⟩⟩
  · next h => exact ⟨_, rfl, rfl, fun _ => rfl, fun ha hf => absurd (Bool.and_eq_true_iff.mpr ⟨ha, hf⟩) h⟩

/-- Before the steering, a valid sample has changed its count, Tocsin's events and the clock system. -/
theorem sampleNoted_spec : ∃ t k, sampleNoted c off = { stat c 0x7014 4 1 with toc := t, clk := k } ∧ t.raised = c.toc.raised ++ offsetAlert c off ∧
    k.disc.lastOff = off ∧ (c.clk.disc.state ≠ 0 → k.disc.state ≠ 0) ∧
    (c.clk.disc.align = false ∨ firstRough c = false → k.carillon = c.clk.carillon) ∧
    (c.clk.disc.align = true → firstRough c = true → k.carillon = toTwos 64 ((c.clk.carillon : Int) + off) ∧ k.disc.align = false) := by
  obtain ⟨t, hcount, hraised⟩ := sampleCounted_spec c off
  obtain ⟨d, hstate, halign, hrun⟩ := sampleState_spec (sampleCounted c off) off
  obtain ⟨k, haligned, hkeep, hstill, hstep⟩ := sampleAligned_spec (sampleState (sampleCounted c off) off) off
  rw [hstate, hcount] at haligned hkeep hstill hstep
  rw [hcount] at halign hrun
  refine ⟨t, { k with disc := { k.disc with lastOff := off, lastTick := k.carillon, since := k.carillon } }, ?_, hraised, rfl,
    fun hs => hkeep.symm ▸ hrun hs, fun h => hstill (halign.symm ▸ h), fun ha hf => hstep (halign.trans ha) hf⟩
  rw [sampleNoted, hstate, hcount, haligned]
  rfl

/-- A valid sample: its count, its alert, what it does to Carillon, and the bound of the steering. -/
theorem validSample_spec : (validSample c off).clk.disc.lastOff = off ∧ obj (validSample c off) 0x7014 4 = (obj c 0x7014 4 + 1) % 2 ^ 64 ∧
    (c.clk.disc.align = false ∨ firstRough c = false → (validSample c off).clk.carillon = c.clk.carillon) ∧
    (c.clk.disc.align = true → firstRough c = true →
      (validSample c off).clk.carillon = toTwos 64 ((c.clk.carillon : Int) + off) ∧ (validSample c off).clk.disc.align = false) ∧
    (validSample c off).toc.raised = c.toc.raised ++ offsetAlert c off ∧
    (c.clk.disc.state ≠ 0 → (validSample c off).clk.disc.steer.natAbs ≤ obj c 0x1300 7) := by
  obtain ⟨t, k, hnoted, hraised, hoff, hrun, hstill, hstep⟩ := sampleNoted_spec c off
  obtain ⟨x, hclk, hslew⟩ := steer_clk (sampleNoted c off)
  have hobj {j r : Nat} : obj (sampleNoted c off) j r = obj (stat c 0x7014 4 1) j r := by rw [hnoted]; rfl
  rw [validSample_eq, steer_toc, obj_steer _ (by decide), hclk, hobj, hnoted]
  refine ⟨hoff, obj_setObj_self .., hstill, hstep, hraised, fun hs => ?_⟩
  rw [hnoted] at hslew
  exact (hslew (hrun hs)).trans_eq (obj_stat_ne _ _ _ _ (by decide))

end ValidSample

/-! Steps of Carillon (R332). -/

theorem timeStep_first {c : Chip} {v : Nat} (hv : v < 2 ^ 64) (h : c.mode = .rough ∧ c.rough.kind = 1) :
    timeStep v c = (0, modDisc (modClk c fun k => { k with carillon := v }) fun d => { d with ppsOpen := false }) := by
  simp only [timeStep, (firstRough_iff c).mpr h, Nat.mod_eq_of_lt hv, Bool.not_true, Bool.false_eq_true, if_false]

theorem firstRough_false {c : Chip} (h : ¬ (c.mode = .rough ∧ c.rough.kind = 1)) : firstRough c = false :=
  Bool.eq_false_iff.mpr (mt (firstRough_iff c).mp h)

theorem timeStep_late {c : Chip} (h : ¬ (c.mode = .rough ∧ c.rough.kind = 1)) (v : Nat) : timeStep v c = (7, c) := by
  simp [timeStep, firstRough_false h]

theorem alignWrite_first {c : Chip} (h : c.mode = .rough ∧ c.rough.kind = 1) : alignWrite 1 c = (0, modDisc c fun d => { d with align := true }) := by
  simp [alignWrite, (firstRough_iff c).mpr h]

theorem alignWrite_late {c : Chip} (h : ¬ (c.mode = .rough ∧ c.rough.kind = 1)) : alignWrite 1 c = (7, c) := by
  simp [alignWrite, firstRough_false h]

theorem alignWrite_range {v : Nat} (hv : v ≠ 1) (c : Chip) : alignWrite v c = (5, c) := by simp [alignWrite, hv]

theorem writesBy_timeStep (v : Nat) : WritesBy (fun src tag => .timeStep src tag v) 0x1300 6 (leBytes 8 v) (timeStep v) id :=
  fun _ _ _ hp => becomes_event rfl hp rfl

theorem writesBy_align (v : Nat) : WritesBy (fun src tag => .align src tag v) 0x1300 0xF (leBytes 1 v) (alignWrite (v % 256)) id :=
  fun _ _ _ hp => becomes_event rfl hp rfl

/-- Settles O46: PTM and PPS by what the period, the answer or the edge finds, the discipline state by state, a valid sample, the two steps. -/
theorem timeIsSampledSteeredAndStepped : Obligations.TimeIsSampledSteeredAndStepped := by
  unfold Obligations.TimeIsSampledSteeredAndStepped
  refine ⟨fun s p t hp hl he hm hk hf ht => ?_, fun s p t hp hl hu hm hk hf ht => ?_, fun s p master t ho ht hmaster hp hu hk => ?_,
    fun s t ho ht => becomes_event rfl (Bool.and_eq_true_iff.mpr ⟨ho, decide_eq_true ht⟩) rfl, fun s t hf hs => becomes_ppsEdge hf (if_neg (by simp [hs])),
    fun s t hf hs hk hp hset => becomes_ppsEdge_judged hf hs hk hp (ppsEdge_unset hset), fun s t hf hs hk hp hset =>
      ⟨fun ho ht => becomes_ppsEdge_judged hf hs hk hp (ppsEdge_early hset ho ht), fun h => becomes_ppsEdge_judged hf hs hk hp (ppsEdge_opens hset h),
        fun ho hlo hhi => becomes_ppsEdge_judged hf hs hk hp (ppsEdge_inRun hset ho hlo hhi)⟩,
    fun s t ht => ⟨fun hs => becomes_holdoverEntryExpiry (.inl hs) ht (holdoverExpiry_acquiring hs),
      fun hs => becomes_holdoverEntryExpiry (.inr hs) ht (holdoverExpiry_locked hs)⟩,
    fun c off => sampleState_acquiring, fun c off => sampleState_locks, fun c off => sampleState_far, fun c off => sampleState_locked,
    fun c off => sampleState_holdover, validSample_spec, fun v hv => (writesBy_timeStep v).does fun c => timeStep_first hv,
    fun v => (writesBy_timeStep v).turnsAway fun c h => timeStep_late h v, (writesBy_align 1).does fun c => alignWrite_first,
    (writesBy_align 1).turnsAway fun c => alignWrite_late, fun v hv => (writesBy_align v).turnsAway fun c _ => alignWrite_range hv c⟩
  · exact becomes_ptmRequest hp (by omega) hm hk hf ht (ptmRequest_usable (ptmUsable_of_link hl he))
  · exact becomes_ptmRequest hp hl hm hk hf ht (ptmRequest_unusable hu)
  · refine becomes_event rfl (Bool.and_eq_true_iff.mpr ⟨ho, decide_eq_true ht⟩) ?_
    rw [Nat.mod_eq_of_lt hmaster]
    exact ptmResponse_usable hp hu hk master

end Sys2Proof.Machine
end

section
/-! PLLs, source monitors, forced switches and the multiplexers of domains (R326, R335, R337, R342 to R345). -/

namespace Sys2Proof.Machine

/-! The clock system after a held response is posted. -/

@[simp] theorem post_clk (c : Chip) (src : Src) (rq : Req) (st total : Nat) (p : Bytes) : (post c src rq st total p).clk = c.clk := by
  cases src with
  | mbox q =>
    simp only [post, mboxAnswer]
    split
    · rfl
    · split <;> rfl
  | sideband =>
    simp only [post, sidebandAnswer]
    split <;> rfl
  | peer =>
    obtain ⟨pe, o, ob, h⟩ := peerAnswer_spec { c with dict := { c.dict with
      lastResp := some ⟨rq.op, st, rq.tag, rq.index, rq.sub, total, if st = 0 then p else []⟩ } } rq.payload st
    rw [post, h]
  | forwarded => rfl

/-- Posting a held response takes it from those held. -/
theorem answerHeld_clk (c : Chip) (d : Nat) : ∃ h, (answerHeld c d).clk = { c.clk with held := h } := by
  unfold answerHeld
  split
  · exact ⟨_, post_clk ..⟩
  · exact ⟨_, rfl⟩

@[simp] theorem answerHeld_sel (c : Chip) (d : Nat) : (answerHeld c d).clk.sel = c.clk.sel := by
  obtain ⟨h, hc⟩ := answerHeld_clk c d
  rw [hc]

@[simp] theorem answerHeld_disc (c : Chip) (d : Nat) : (answerHeld c d).clk.disc = c.clk.disc := by
  obtain ⟨h, hc⟩ := answerHeld_clk c d
  rw [hc]

@[simp] theorem setMux_sel (c : Chip) (d : Nat) (fb : Bool) (st : Nat) : (setMux c d fb st).clk.sel = setBit c.clk.sel (d - 1) fb := rfl

@[simp] theorem setMux_disc (c : Chip) (d : Nat) (fb : Bool) (st : Nat) : (setMux c d fb st).clk.disc = c.clk.disc := rfl

theorem answerHeld_front {c : Chip} {d : Nat} {src : Src} {rq : Req} {r : List (Nat × Src × Req)} (h : c.clk.held = (d, src, rq) :: r) :
    answerHeld c d = post (modClk c fun k => { k with held := r.filter fun y => y.1 != d }) src rq 0 0 [] := by simp [answerHeld, h, modClk]

/-! KCLK on FIRC (R326, R335). -/

section KclkCycle
variable {c : Chip} (hf : c.boot.fircOn = true) (hd : domainRuns c 22 = true) (hk : kclkFirc c = true)
include hf hd hk

theorem kclkCycle_firstHalf (hh : c.clk.half = false) : kclkCycle c = { c with clk := { c.clk with half := true } } := by
  have hfirc : kclkOnFirc c = true := hk
  simp [kclkCycle, hf, hd, hfirc, hh]

theorem kclkCycle_secondHalf (hh : c.clk.half = true) :
    kclkCycle c = { c with clk := { c.clk with carillon := (c.clk.carillon + 5) % 2 ^ 64, half := false } } := by
  have hfirc : kclkOnFirc c = true := hk
  simp [kclkCycle, hf, hd, hfirc, hh]

end KclkCycle

theorem ptmRequest_notDue {s : State} (hk : kclkFirc s.toChip = true) (t : Nat) : exec (.ptmRequest t) s = .fault (.notDue "PTM_REQUEST") :=
  if_neg (by simp [hk])

theorem ptmResponse_onFirc {c : Chip} (hk : kclkFirc c = true) (hp : (ptmPort c).isSome = true) (master : Nat) :
    ptmResponse c master = stat (modDisc c fun d => { d with ptmOut := false }) 0x7014 5 1 := by
  obtain ⟨p, hsome⟩ := Option.isSome_iff_exists.mp hp
  have hport : ptmPort (modDisc c fun d => { d with ptmOut := false }) = some p := hsome
  have hfirc : kclkFirc (modDisc c fun d => { d with ptmOut := false }) = true := hk
  simp only [ptmResponse, hport, hfirc, Bool.not_true, Bool.and_false, Bool.false_eq_true, if_false]
  rfl

/-! HOLDOVER by a forced switch, and the way back (R335, R343). -/

theorem enterHoldover_clk (c : Chip) : ∃ d, (enterHoldover c).clk = { c.clk with disc := d } ∧ d.state = 3 := by
  unfold enterHoldover
  split
  · next h => exact ⟨_, rfl, h⟩
  · exact ⟨_, rfl, rfl⟩

theorem leaveHoldover_clk (c : Chip) : ∃ d, (leaveHoldover c).clk = { c.clk with disc := d } ∧ d.state = 1 := ⟨_, rfl, rfl⟩

/-- A domain that is not on its fallback is moved there. -/
theorem forceDomain_kclk {c : Chip} (h : kclkFirc c = false) :
    kclkFirc (forceDomain c 22) = true ∧ (forceDomain c 22).clk.carillon = c.clk.carillon ∧ (forceDomain c 22).clk.disc.state = 3 := by
  have hmoved : onFallback c 22 = false := h
  obtain ⟨x, hforce, hx⟩ : ∃ x, forceDomain c 22 = enterHoldover (answerHeld x 22) ∧ x.clk = (setMux c 22 true 2).clk := by
    simp only [forceDomain, hmoved, Bool.not_false, Bool.true_or, Bool.and_true, if_true, decide_true]
    refine ⟨_, rfl, ?_⟩
    split <;> rfl
  obtain ⟨g, hheld⟩ := answerHeld_clk x 22
  obtain ⟨d, hclk, hstate⟩ := enterHoldover_clk (answerHeld x 22)
  rw [← hforce, hheld, hx] at hclk
  rw [kclkFirc, onFallback, hclk]
  exact ⟨bit_setBit_self .., rfl, hstate⟩

theorem failPll_spec (c : Chip) (k : Nat) : ∃ l, failPll c k = modClk c fun x => { x with pll := l } := by
  unfold failPll
  split <;> exact ⟨_, rfl⟩

theorem monitorEffect_kclk {c : Chip} {m : Nat} (hm : m = 2 ∨ m = 6) (h : kclkFirc c = false) :
    kclkFirc (monitorEffect c m) = true ∧ (monitorEffect c m).clk.carillon = c.clk.carillon ∧ (monitorEffect c m).clk.disc.state = 3 := by
  rcases hm with rfl | rfl
  · obtain ⟨l, hl⟩ := failPll_spec (modClk c fun k => { k with xref1 := false }) 3
    rw [show monitorEffect c 2 = forceDomain (failPll (modClk c fun k => { k with xref1 := false }) 3) 22 from rfl, hl]
    exact forceDomain_kclk h
  · obtain ⟨l, hl⟩ := failPll_spec c 3
    rw [show monitorEffect c 6 = forceDomain (failPll c 3) 22 from rfl, hl]
    exact forceDomain_kclk h

theorem becomes_muxSwitchDone {s : State} {d : Nat} {c : Chip} (h1 : 1 ≤ d) (h25 : d ≤ 25) (hm : muxOf s.toChip d = 1) (hn : normalReady s.toChip d = true)
    (hf : fallbackRuns s.toChip d = true) (hc : muxDone s.toChip d = c) : Becomes (.muxSwitchDone d) s c :=
  becomes_event rfl (by simp [h1, h25, hm, hn, hf]) hc

/-- KCLK's switch back, with its held response posted. -/
abbrev kclkBack (c : Chip) : Chip := answerHeld (setMux c 22 false 0) 22

theorem muxDone_back {c : Chip} (hw : c.clk.want.getD 21 0 = 0) :
    muxDone c 22 = if (kclkBack c).clk.disc.state = 3 then leaveHoldover (kclkBack c) else kclkBack c := by
  simp only [muxDone, kclkBack, Nat.reduceSub, hw, Nat.reduceBEq, decide_true, Bool.true_and, decide_eq_true_eq]

theorem kclkFirc_of_sel {c d : Chip} (h : c.clk.sel = d.clk.sel) : kclkFirc c = kclkFirc d := by rw [kclkFirc, kclkFirc, onFallback, onFallback, h]

theorem kclkBack_clk (c : Chip) : kclkFirc (kclkBack c) = false ∧ (kclkBack c).clk.disc = c.clk.disc := by
  rw [kclkFirc, onFallback, answerHeld_sel, answerHeld_disc, setMux_sel, setMux_disc]
  exact ⟨bit_setBit_false _ _, rfl⟩

/-- KCLK back on PLL-K takes the discipline out of HOLDOVER. -/
theorem muxDone_kclk {c : Chip} (hw : c.clk.want.getD 21 0 = 0) :
    kclkFirc (muxDone c 22) = false ∧ (c.clk.disc.state = 3 → (muxDone c 22).clk.disc.state = 1) := by
  obtain ⟨hsel, hdisc⟩ := kclkBack_clk c
  rw [muxDone_back hw, hdisc]
  split
  · obtain ⟨d, hleft, hstate⟩ := leaveHoldover_clk (kclkBack c)
    exact ⟨(kclkFirc_of_sel (by rw [hleft])).trans hsel, fun _ => by rw [hleft, hstate]⟩
  · next h => exact ⟨hsel, fun hs => absurd hs h⟩

/-! A monitor's window (R342). -/

theorem becomes_monitorWindowEnd {s : State} {m count : Nat} {c : Chip} (hm : m < 7) (ha : bit s.clk.armed m = true) (hf : s.clk.firc = true)
    (hc : (if monitorBad s.toChip m count then monitorFail s.toChip m count else monitorPass s.toChip m) = c) :
    Becomes (.monitorWindowEnd m count) s (react c) := becomes_event rfl (by simp [hm, ha, hf]) (congrArg react hc)

/-- What a failed window leaves in the monitor's registers. -/
def monitorNoted (c : Chip) (m count : Nat) : Chip :=
  modClk c fun k => { k with monFail := setBit k.monFail m true, monPass := k.monPass.set m 0, lastFail := pack [(m, 1), (0, 3), (count, 4), (k.carillon, 8)] }

theorem monitorFail_first {c : Chip} {m : Nat} (h : bit c.clk.monFail m = false) (count : Nat) :
    monitorFail c m count = monitorEffect (raiseEv (stat (monitorNoted c m count) 0x7014 1 1) m 0 3 0) m := if_neg (Bool.eq_false_iff.mp h)

theorem monitorFail_again {c : Chip} {m : Nat} (h : bit c.clk.monFail m = true) (count : Nat) : monitorFail c m count = monitorNoted c m count := if_pos h

theorem monitorPass_sound {c : Chip} {m : Nat} (h : bit c.clk.monFail m = false) : monitorPass c m = c := by simp [monitorPass, h]

theorem monitorPass_failed {c : Chip} {m : Nat} (h : bit c.clk.monFail m = true) :
    bit (monitorPass c m).clk.monFail m = (c.clk.monPass.getD m 0 + 1 != 16) := by
  by_cases h16 : c.clk.monPass.getD m 0 + 1 = 16
  · simp only [monitorPass, modClk, h, h16, Bool.not_true, Bool.false_eq_true, if_false, if_true, bit_setBit_false, bne_self_eq_false]
  · simp only [monitorPass, modClk, h, h16, Bool.not_true, Bool.false_eq_true, if_false, bne_iff_ne.mpr h16]

/-- FIRC's window counts 4000 cycles, XREF0's 1000; 5 % is 200 and 50. -/
theorem monitorBad_iff (c : Chip) (count : Nat) :
    (monitorBad c 0 count = true ↔ count < 3800 ∨ 4200 < count) ∧ (monitorBad c 1 count = true ↔ count < 950 ∨ 1050 < count) := by
  have h0 : monitorExpect c 0 = (4000, 1) := rfl
  have h1 : monitorExpect c 1 = (1000, 1) := rfl
  simp only [monitorBad, h0, h1, decide_eq_true_eq, Nat.mul_one]
  constructor <;> split <;> omega

/-! What the effects of a failed monitor leave of the monitors. -/

section MonFail
variable (c : Chip)

@[simp] theorem enterHoldover_monFail : (enterHoldover c).clk.monFail = c.clk.monFail := by
  obtain ⟨d, h, -⟩ := enterHoldover_clk c
  rw [h]

@[simp] theorem answerHeld_monFail (d : Nat) : (answerHeld c d).clk.monFail = c.clk.monFail := by
  obtain ⟨g, h⟩ := answerHeld_clk c d
  rw [h]

@[simp] theorem failPll_monFail (k : Nat) : (failPll c k).clk.monFail = c.clk.monFail := by
  obtain ⟨l, h⟩ := failPll_spec c k
  rw [h]
  rfl

@[simp] theorem stopDomain_monFail (d : Nat) : (stopDomain c d).clk.monFail = c.clk.monFail := by unfold stopDomain; split <;> rfl

@[simp] theorem forceDomain_monFail (d : Nat) : (forceDomain c d).clk.monFail = c.clk.monFail := by
  have hmoved (b : Bool) (x : Chip) : (if b then stat x 0x7014 2 1 else x).clk.monFail = x.clk.monFail := by cases b <;> rfl
  have hmux (b : Bool) (x : Chip) : (if b then setMux x d true 2 else x).clk.monFail = x.clk.monFail := by cases b <;> rfl
  have hhung (b : Bool) (x : Chip) : (if b then raiseEv (stat x 0x7014 6 1) 9 d 1 0 else x).clk.monFail = x.clk.monFail := by cases b <;> rfl
  unfold forceDomain
  dsimp only
  split
  · rw [enterHoldover_monFail, answerHeld_monFail, hhung, hmux, hmoved]
  · rw [answerHeld_monFail, hhung, hmux, hmoved]

@[simp] theorem fircFails_monFail : (fircFails c).clk.monFail = c.clk.monFail := by
  refine (foldl_keeps (fun x => x.clk.monFail) stopDomain_monFail _ _).trans ?_
  split
  · rfl
  · split <;> simp [modClk]

/-- Outside the two whose failure takes the links down, whose resets go through the whole unit. -/
theorem monitorEffect_monFail {m : Nat} (h7 : m < 7) (h1 : m ≠ 1) (h4 : m ≠ 4) : (monitorEffect c m).clk.monFail = c.clk.monFail := by
  have hm : m = 0 ∨ m = 2 ∨ m = 3 ∨ m = 5 ∨ m = 6 := by omega
  rcases hm with rfl | rfl | rfl | rfl | rfl <;> simp [monitorEffect, modClk]

end MonFail

theorem monitorFail_monFail {m : Nat} (h7 : m < 7) (h1 : m ≠ 1) (h4 : m ≠ 4) (c : Chip) (count : Nat) : bit (monitorFail c m count).clk.monFail m = true := by
  cases h : bit c.clk.monFail m with
  | true =>
    rw [monitorFail_again h]
    exact bit_setBit_self ..
  | false =>
    rw [monitorFail_first h, monitorEffect_monFail _ h7 h1 h4]
    exact bit_setBit_self ..

/-- Settles O47: the forced switch to FIRC, the cycles and the samples on it, and the switch back. -/
theorem kclkOnFircHoldsTime : Obligations.KclkOnFircHoldsTime := by
  unfold Obligations.KclkOnFircHoldsTime
  refine ⟨fun s m count hm ha hf hfirst hbad => ?_, fun c m => monitorEffect_kclk, fun c hf hd hk => ⟨kclkCycle_firstHalf hf hd hk, kclkCycle_secondHalf hf hd hk⟩,
    fun s t hk => ptmRequest_notDue hk t, fun s t hk hf => becomes_ppsEdge hf (if_neg (by simp [hk])), fun s master t hk hp ho ht =>
      becomes_event rfl (Bool.and_eq_true_iff.mpr ⟨ho, decide_eq_true ht⟩) (ptmResponse_onFirc (c := advance s.toChip t) hk hp _),
    fun s hm hn hf => becomes_muxSwitchDone (by decide) (by decide) hm hn hf rfl, fun c => muxDone_kclk⟩
  exact becomes_monitorWindowEnd (by omega) ha hf ((if_pos hbad).trans (monitorFail_first hfirst count))

/-! PLLs (R337). -/

section PllRows
variable {k : Nat} (hk : k < 4)
include hk

theorem writesBy_pllStart : WritesBy (fun src tag => .pllStart src tag k) (0x1310 + k) 2 (leBytes 1 1) (pllStart k) id :=
  fun _ _ _ hp => becomes_event rfl (by simp [hk, hp]) rfl

theorem writesBy_pllStop : WritesBy (fun src tag => .pllStop src tag k) (0x1310 + k) 2 (leBytes 1 2) (pllStop k) id :=
  fun _ _ _ hp => becomes_event rfl (by simp [hk, hp]) rfl

end PllRows

section PllControl
variable {c : Chip} {k : Nat}

theorem pllStart_off (h : pllState c k = 0) :
    pllStart k c = (0, modClk c fun x => { x with pll := x.pll.set k 1, pllAt := x.pllAt.set k x.carillon }) := by
  simp [pllStart, h, setPll, modClk]

theorem pllStart_turnedAway (h : pllState c k ≠ 0) : pllStart k c = (7, c) := by simp [pllStart, h]

theorem pllStop_unused (h : pllInUse c k = false) :
    pllStop k c = (0, modClk c fun x => { x with pll := x.pll.set k 0, armed := setBit x.armed (3 + k) false }) := by
  simp [pllStop, h, setPll, modClk]

theorem pllStop_turnedAway (h : pllInUse c k = true) : pllStop k c = (7, c) := if_pos h

end PllControl

/-- Settles O48: the two rows by their handlers, the lock timeout, a window by what it counted, and what the monitor remembers. -/
theorem pllsStartStopAndAreMonitored : Obligations.PllsStartStopAndAreMonitored := by
  unfold Obligations.PllsStartStopAndAreMonitored
  refine ⟨fun k hk => (writesBy_pllStart hk).does fun c => pllStart_off, fun k hk => (writesBy_pllStart hk).turnsAway fun c => pllStart_turnedAway,
    fun k hk => (writesBy_pllStop hk).does fun c => pllStop_unused, fun k hk => (writesBy_pllStop hk).turnsAway fun c => pllStop_turnedAway,
    fun s k t hk hs ht => becomes_event rfl (by simpa [hk, hs, nowAt] using ht) rfl,
    fun s m count hm ha hf hbad => becomes_monitorWindowEnd hm ha hf (if_pos hbad),
    fun s m count hm ha hf hgood => becomes_monitorWindowEnd hm ha hf (if_neg (Bool.eq_false_iff.mp hgood)), monitorBad_iff,
    fun c m _ => monitorPass_sound, fun c m _ => monitorPass_failed, fun c m count h7 h1 h4 => monitorFail_monFail h7 h1 h4 c count,
    fun c m count _ hagain => ?_⟩
  rw [monitorFail_again hagain]
  exact ⟨rfl, rfl, rfl, rfl⟩

end Sys2Proof.Machine
end

section
/-! What the end of a launch, of a move and of the gateway's strokes leaves of the clock system (R80, R130, R229, R267). -/

namespace Sys2Proof.Machine

section ClkFrame
variable (c : Chip)

@[simp] theorem wpReleaseOpt_clk (b : Option (Nat × Nat)) : (wpReleaseOpt c b).clk = c.clk := by cases b <;> rfl

@[simp] theorem mirror_clk (k : MirrorKind) (n : Nat) (rq : Option (Src × Req)) : (mirror c k n rq).clk = c.clk := by
  unfold mirror
  split <;> rfl

@[simp] theorem drainDec_clk (sp g : Nat) : (drainDec c sp g).clk = c.clk := rfl

@[simp] theorem unbind_clk (o : Owner) : (unbind c o).clk = c.clk := rfl

/-! Set descriptors and cut jobs end. -/

@[simp] theorem discardSd_clk (i : Nat) : (discardSd c i).clk = c.clk := by
  unfold discardSd
  split
  · rfl
  · dsimp only
    split <;> simp

@[simp] theorem truncateSd_clk (i : Nat) : (truncateSd c i).clk = c.clk := by
  unfold truncateSd settleSd
  split
  · split <;> simp
  · rfl

@[simp] theorem dropCut_clk (q e n : Nat) : (dropCut c q e n).clk = c.clk := by
  unfold dropCut
  dsimp only
  split
  · rfl
  · rw [modNode_clk]
    split
    · split <;> simp
    · simp

@[simp] theorem abortOwner_clk (o : Owner) : (abortOwner c o).clk = c.clk := by
  unfold abortOwner
  refine (foldl_keeps Chip.clk truncateSd_clk _ _).trans ?_
  cases o with
  | node q e n => exact dropCut_clk (unbind c (.node q e n)) q e n
  | _ => rfl

/-! Drain marks. -/

@[simp] theorem markRedo_clk (o : Owner) : (markRedo c o).clk = c.clk := by
  cases o with
  | node => simp [markRedo, leaveChan]
  | _ => rfl

@[simp] theorem recutSd_clk (i : Nat) : (recutSd c i).clk = c.clk := by
  unfold recutSd
  split
  · split <;> simp
  · rfl

@[simp] theorem retranslate_clk (sp : Nat) (ok : Nat → Bool) : (retranslate c sp ok).clk = c.clk :=
  (foldl_keeps Chip.clk recutSd_clk _ _).trans (foldl_keeps (f := fun c (x : Nat × Nat × Nat) => dropCut c x.1 x.2.1 x.2.2) Chip.clk (fun d _ => dropCut_clk d ..) _ c)

@[simp] theorem clearOldest_clk (sp : Nat) : (clearOldest c sp).clk = c.clk := by
  unfold clearOldest
  split
  · exact retranslate_clk c sp _
  · rfl

theorem takeEffect_clk {b : Bump} (hb : b.change = .none) (g : Nat) : (takeEffect c b g).clk = c.clk := by
  unfold takeEffect
  rw [hb]
  dsimp only
  split
  · exact retranslate_clk _ _ _
  · rfl

theorem newBump_clk (sp : Nat) (hard : Bool) (by_ : BumpBy) : (newBump c sp hard by_ .none).clk = c.clk := by
  have happly : (applyBump (withOwnBump c sp hard by_ .none) (freshBump c)).clk = c.clk := by
    rw [applyBump_eq getBump_withOwnBump, clearOldest_clk, takeEffect_clk _ rfl]
    rfl
  unfold newBump
  dsimp only
  split
  · rfl
  · split
    · rw [clearOldest_clk]
      split <;> rfl
    · split
      · exact happly
      · exact (mirror_clk ..).trans happly

theorem joinBump_clk_soft (b : Bump) (by_ : BumpBy) (m : MapChange) : (joinBump c b false by_ m).clk = c.clk := by
  unfold joinBump
  dsimp only
  split
  · split <;> rfl
  · rfl

@[simp] theorem drainMark_clk (sp : Nat) (by_ : BumpBy) : (drainMark c sp by_).clk = c.clk := by
  unfold drainMark requestBump
  split
  · dsimp only
    split
    · exact joinBump_clk_soft ..
    · exact (mirror_clk ..).trans (joinBump_clk_soft ..)
  · exact newBump_clk c sp false by_

/-! The end of a launch, and of what a stroke works for. -/

@[simp] theorem releasePin_clk (p : Nat × Nat) : (releasePin c p).clk = c.clk := by
  unfold releasePin
  dsimp only
  split
  · rfl
  · split
    · rfl
    · split <;> simp

@[simp] theorem patternLeave_clk (p : Nat) : (patternLeave c p).clk = c.clk := by
  unfold patternLeave
  dsimp only
  split
  · exact mirror_clk ..
  · rfl

@[simp] theorem abortRuns_clk (q e : Nat) : (abortRuns c q e).clk = c.clk := by
  refine (foldl_keeps Chip.clk (fun d k => foldl_keeps Chip.clk (fun d r => ?_) _ d) _ _).trans rfl
  split <;> rfl

@[simp] theorem setFinal_clk (q e status node : Nat) : (setFinal c q e status node).clk = c.clk := by
  unfold setFinal
  split
  · rfl
  · rename_i l _
    split
    · rfl
    · have hpins (d : Chip) : (l.pins.foldl releasePin d).clk = d.clk := foldl_keeps Chip.clk releasePin_clk _ d
      have hmoves (d : Chip) : (l.nodes.foldl (fun c x => if kindMove x.2.kind then abortOwner c (.node q e x.1) else c) d).clk = d.clk :=
        foldl_keeps Chip.clk (fun d x => by split <;> simp) _ d
      have hleft (a : Prop) [Decidable a] (d : Chip) (p : Nat) : (if a then d else patternLeave d p).clk = d.clk := by split <;> simp
      dsimp only
      generalize hd : abortRuns _ q e = d
      have hended : d.clk = c.clk := by rw [← hd, abortRuns_clk, abortOwner_clk, abortOwner_clk, hmoves, hpins, setLaunch_clk]
      split
      · exact hended
      · split
        · exact hended
        · split <;> simp only [stat_clk, hleft, modSlot_clk, hended]

@[simp] theorem ownerFail_clk (o : Owner) (status : Nat) : (ownerFail c o status).clk = c.clk := by
  cases o with
  | node => exact setFinal_clk ..
  | save | restore => simp [ownerFail]
  | promote | writeBack | lap => exact abortOwner_clk ..
  | scrub => simp [ownerFail, scrubAgain, modTen]

/-- The gateway's stop ends launches and parts, and no clock. -/
theorem peerHalt_clk (ok : Owner → Bool) : (peerHalt c ok).clk = c.clk := by
  refine foldl_keeps (γ := ClkSt) Chip.clk (fun d x => ?_) _ c
  split
  · split <;> simp [dropFailed, modStroke]
  · rfl

end ClkFrame

end Sys2Proof.Machine
end

section
/-! Switching domains, the frequency meter and the clock enables (R340, R341, R344 to R346). -/

namespace Sys2Proof.Machine

/-! A Domain source write, by what it finds (R344). -/

section DomainSource
variable {c : Chip} {src : Src} {rq : Req} {d v : Nat} (hc : check c src rq = 0)
include hc

theorem domainSourceWrite_turnedAway (hs : domainSourceStatus d v c ≠ 0) :
    domainSourceWrite src rq d v c = respond c src rq (domainSourceStatus d v c) 0 [] := by simp [domainSourceWrite, hc, hs]

variable (hs : domainSourceStatus d v c = 0)
include hs

theorem domainSourceWrite_selected (ho : onFallback c d = (v == 1)) :
    domainSourceWrite src rq d v c = respond (setMux c d (v == 1) 0) src rq 0 0 [] := by simp [domainSourceWrite, hc, hs, ho]

variable (ho : onFallback c d ≠ (v == 1))
include ho

theorem domainSourceWrite_held (h20 : d ≠ 20) : domainSourceWrite src rq d v c =
    modClk (grantTurn (modClk c fun k => { k with mux := k.mux.set (d - 1) 1, want := k.want.set (d - 1) v }) src)
      fun k => { k with held := k.held ++ [(d, src, rq)] } := by simp [domainSourceWrite, hc, hs, ho, h20]

theorem domainSourceWrite_mclk (h20 : d = 20) : domainSourceWrite src rq d v c =
    respond (modClk c fun k => { k with mux := k.mux.set (d - 1) 1, want := k.want.set (d - 1) v }) src rq 0 0 [] := by
  simp only [domainSourceWrite, hc, hs, bne_self_eq_false, Bool.false_eq_true, if_false, beq_eq_false_iff_ne.mpr ho, if_pos h20]

end DomainSource

theorem becomes_domainSourceWrite {s : State} {src : Src} {tag d v : Nat} {c : Chip} (h1 : 1 ≤ d) (h25 : d ≤ 25) (hv : v < 256)
    (hp : presents s.toChip src (writeReq tag (0x1320 + d) 1 (leBytes 1 v)) = true)
    (hc : domainSourceWrite src (writeReq tag (0x1320 + d) 1 (leBytes 1 v)) d v s.toChip = c) : Becomes (.domainSourceWrite src tag d v) s c :=
  becomes_event rfl (by simp [h1, h25, hp]) (by rwa [Nat.mod_eq_of_lt hv])

theorem domainSourceStatus_noFallback {d : Nat} (h : hasMux d = false) (v : Nat) (c : Chip) : domainSourceStatus d v c = 5 := by
  simp [domainSourceStatus, h]

theorem domainSourceStatus_notReady {c : Chip} {d : Nat} (h : hasMux d = true) (hn : normalReady c d = false) : domainSourceStatus d 0 c = 7 := by
  simp [domainSourceStatus, h, hn]

theorem muxDone_stays {c : Chip} {d : Nat} (h : d ≠ 22 ∨ c.clk.want.getD (d - 1) 0 ≠ 0) :
    muxDone c d = answerHeld (setMux c d (c.clk.want.getD (d - 1) 0 == 1) 0) d := by
  have hstay : ¬ (d = 22 ∧ c.clk.want.getD (d - 1) 0 = 0) := by omega
  refine if_neg fun hback => hstay ?_
  obtain ⟨hkclk, -⟩ := Bool.and_eq_true_iff.mp hback
  simpa using hkclk

/-! The frequency meter (R346). -/

section Meter
variable {v : Nat}

theorem meterRequest_range (h : meterCode (fld v 0 1) = false ∨ meterCode (fld v 1 1) = false ∨ fld v 4 4 < 1 ∨ 2 ^ 24 < fld v 4 4) (c : Chip) :
    meterRequest v c = (5, c) := by
  have h24 (h : 2 ^ 24 < fld v 4 4) : 16777216 < fld v 4 4 := h
  rcases h with h | h | h | h
  · simp [meterRequest, h]
  · simp [meterRequest, h]
  · simp [meterRequest, Nat.lt_one_iff.mp h]
  · simp [meterRequest, h24 h]

variable (hm : meterCode (fld v 0 1) = true) (hr : meterCode (fld v 1 1) = true) (h1 : 1 ≤ fld v 4 4) (h24 : fld v 4 4 ≤ 2 ^ 24) {c : Chip}
include hm hr h1 h24

theorem meterRequest_sound : meterRequest v c = if c.clk.meter = 1 then (6, c)
    else (0, modClk c fun k => { k with meter := 1, meterW := fld v 4 4, meterM := fld v 0 1, meterR := fld v 1 1, meterCount := 0 }) := by
  have h0 : fld v 4 4 ≠ 0 := by omega
  have h24' : ¬ 16777216 < fld v 4 4 := by omega
  simp [meterRequest, hm, hr, h0, h24']

theorem meterRequest_runs (h : c.clk.meter ≠ 1) : meterRequest v c =
    (0, modClk c fun k => { k with meter := 1, meterW := fld v 4 4, meterM := fld v 0 1, meterR := fld v 1 1, meterCount := 0 }) :=
  (meterRequest_sound hm hr h1 h24).trans (if_neg h)

theorem meterRequest_busy (h : c.clk.meter = 1) : meterRequest v c = (6, c) := (meterRequest_sound hm hr h1 h24).trans (if_pos h)

end Meter

theorem writesBy_meterRequest (payload : Bytes) :
    WritesBy (fun src tag => .meterRequest src tag payload) 0x1350 1 payload (meterRequest (leNat payload)) id :=
  fun _ _ _ hp => becomes_event rfl hp rfl

/-! The clock enables (R340, R341). -/

theorem writesBy_clockEnableSet (v : Nat) : WritesBy (fun src tag => .clockEnableSet src tag v) 0x1100 3 (leBytes 4 v) (clockEnables v) react :=
  fun _ _ _ hp => becomes_event rfl hp rfl

theorem writesBy_clockEnableClear (v : Nat) : WritesBy (fun src tag => .clockEnableClear src tag v) 0x1100 3 (leBytes 4 v) (clockEnables v) react :=
  fun _ _ _ hp => becomes_event rfl hp rfl

theorem mem_blocks {b : Nat} : b ∈ upFrom 0 20 ↔ b < 20 := by simp [mem_upFrom]

/-- The gateway after a write of the enables: its strokes end if the write gates it. -/
def gatewayAfter (v : Nat) (c : Chip) : Chip := if enabled c 7 && !bit v 7 then peerHalt c fun _ => true else c

/-- The bridge after a write of the enables: it goes down if the write gates its port. -/
def bridgeAfter (v : Nat) (c : Chip) : Chip := if enabled c 18 && !bit v 18 then { c with dbl := { c.dbl with bridge := 0 } } else c

section Gating
variable {v : Nat} {c : Chip}

theorem not_gated {b : Nat} (h : bit c.clk.enables b = true → bit v b = true) : (enabled c b && !bit v b) = false := by
  cases he : enabled c b with
  | true => simp [h he]
  | false => rfl

theorem gated {b : Nat} (he : bit c.clk.enables b = true) (hw : bit v b = false) : (enabled c b && !bit v b) = true := by
  rw [enabled, he, hw]
  rfl

theorem gatewayAfter_kept (h : bit c.clk.enables 7 = true → bit v 7 = true) : gatewayAfter v c = c := if_neg (Bool.eq_false_iff.mp (not_gated h))

theorem gatewayAfter_gated (he : bit c.clk.enables 7 = true) (hw : bit v 7 = false) : gatewayAfter v c = peerHalt c fun _ => true := if_pos (gated he hw)

theorem bridgeAfter_kept (h : bit c.clk.enables 18 = true → bit v 18 = true) : bridgeAfter v c = c := if_neg (Bool.eq_false_iff.mp (not_gated h))

theorem bridgeAfter_gated (he : bit c.clk.enables 18 = true) (hw : bit v 18 = false) : bridgeAfter v c = { c with dbl := { c.dbl with bridge := 0 } } :=
  if_pos (gated he hw)

end Gating

/-- The write gates no busy block. -/
abbrev GatesIdle (v : Nat) (c : Chip) : Prop := ∀ b, b < 20 → bit c.clk.enables b = true → bit v b = false → blockBusy c b = false

section ClockEnables
variable {v : Nat} (hv : v < 2 ^ 20) {c : Chip}
include hv

theorem clockEnables_busy (h : ∃ b, b < 20 ∧ bit c.clk.enables b = true ∧ bit v b = false ∧ blockBusy c b = true) : clockEnables v c = (7, c) := by
  obtain ⟨b, hb, he, hg, hbusy⟩ := h
  have hany : ((upFrom 0 20).any fun b => enabled c b && !bit (v % 2 ^ 20) b && blockBusy c b) = true :=
    List.any_eq_true.mpr ⟨b, mem_blocks.mpr hb, by simp only [Nat.mod_eq_of_lt hv, gated he hg, hbusy]; rfl⟩
  exact if_pos hany

theorem clockEnables_taken (h : GatesIdle v c) : clockEnables v c = (0, modClk (bridgeAfter v (gatewayAfter v c)) fun k => { k with enables := v }) := by
  have hnone : ((upFrom 0 20).any fun b => enabled c b && !bit v b && blockBusy c b) = false := by
    refine List.any_eq_false.mpr fun b hb hbad => ?_
    simp only [enabled, Bool.and_eq_true, Bool.not_eq_true'] at hbad
    obtain ⟨⟨he, hw⟩, hbusy⟩ := hbad
    exact absurd hbusy (by simp [h b (mem_blocks.mp hb) he hw])
  simp only [clockEnables, Nat.mod_eq_of_lt hv, hnone, Bool.false_eq_true, if_false]
  rfl

theorem clockEnables_kept (h : GatesIdle v c) (h18 : bit c.clk.enables 18 = true → bit v 18 = true) (h7 : bit c.clk.enables 7 = true → bit v 7 = true) :
    clockEnables v c = (0, modClk c fun k => { k with enables := v }) := by
  rw [clockEnables_taken hv h, gatewayAfter_kept h7, bridgeAfter_kept h18]

theorem clockEnables_bridge (h : GatesIdle v c) (he : bit c.clk.enables 18 = true) (hw : bit v 18 = false) (h7 : bit c.clk.enables 7 = true → bit v 7 = true) :
    clockEnables v c = (0, { modClk c (fun k => { k with enables := v }) with dbl := { c.dbl with bridge := 0 } }) := by
  rw [clockEnables_taken hv h, gatewayAfter_kept h7, bridgeAfter_gated he hw]
  rfl

theorem clockEnables_gateway (h : GatesIdle v c) (h18 : bit c.clk.enables 18 = true → bit v 18 = true) (he : bit c.clk.enables 7 = true) (hw : bit v 7 = false) :
    clockEnables v c = (0, modClk (peerHalt c fun _ => true) fun k => { k with enables := v }) := by
  rw [clockEnables_taken hv h, gatewayAfter_gated he hw, bridgeAfter_kept (by rwa [peerHalt_clk])]

end ClockEnables

/-- Nothing that is enabled is gated by a write that keeps every enable. -/
theorem gatesIdle_of_keeps {v : Nat} {c : Chip} (h : ∀ b, b < 20 → bit c.clk.enables b = true → bit v b = true) : GatesIdle v c :=
  fun b hb he hw => absurd (h b hb he) (by simp [hw])

/-- Settles O49: a domain's write by what it finds, the meter by its request and its end, the enables by what they gate. -/
theorem domainsMeterAndGates : Obligations.DomainsMeterAndGates := by
  unfold Obligations.DomainsMeterAndGates
  refine ⟨fun s src tag d v h1 h25 hv ⟨hp, hc⟩ hs ho => becomes_domainSourceWrite h1 h25 (by omega) hp (domainSourceWrite_selected hc hs ho),
    fun s src tag d v h1 h25 h20 hv ⟨hp, hc⟩ hs ho => becomes_domainSourceWrite h1 h25 (by omega) hp (domainSourceWrite_held hc hs ho h20),
    fun s src tag v hv ⟨hp, hc⟩ hs ho => becomes_domainSourceWrite (by decide) (by decide) (by omega) hp (domainSourceWrite_mclk hc hs ho rfl),
    fun s src tag d v h1 h25 hv ⟨hp, hc⟩ hs => becomes_domainSourceWrite h1 h25 hv hp (domainSourceWrite_turnedAway hc hs),
    fun c d v => ⟨fun h => domainSourceStatus_noFallback h v c, domainSourceStatus_notReady⟩,
    fun s d h1 h25 hm hn hf hstay => becomes_muxSwitchDone h1 h25 hm hn hf (muxDone_stays hstay),
    fun c d src rq r => answerHeld_front,
    fun payload hm hr h1 h24 => ⟨(writesBy_meterRequest payload).does fun c => meterRequest_runs hm hr h1 h24,
      (writesBy_meterRequest payload).turnsAway fun c => meterRequest_busy hm hr h1 h24⟩,
    fun payload h => (writesBy_meterRequest payload).turnsAway fun c _ => meterRequest_range h c,
    fun s count hm hr hcount => becomes_event rfl (by simp [hm, hr]) ?_, fun s hm => becomes_event rfl (by simp [hm]) rfl, fun v hv =>
      ⟨(writesBy_clockEnableSet v).does fun c h => clockEnables_kept hv (gatesIdle_of_keeps h) (h 18 (by decide)) (h 7 (by decide)),
      (writesBy_clockEnableClear v).does fun c ⟨h, h18, h7⟩ => clockEnables_kept hv h h18 h7,
      (writesBy_clockEnableClear v).does fun c ⟨h, he, hw, h7⟩ => clockEnables_bridge hv h he hw h7,
      (writesBy_clockEnableClear v).does fun c ⟨h, h18, he, hw⟩ => clockEnables_gateway hv h h18 he hw,
      (writesBy_clockEnableClear v).turnsAway fun c h => clockEnables_busy hv h⟩⟩
  rw [meterEnd, Nat.mod_eq_of_lt hcount]
  rfl

end Sys2Proof.Machine
end

section
/-! Acknowledgement of an event source (R355). -/

namespace Sys2Proof.Machine

theorem writesBy_sourceAck {n : Nat} (hn : n < 192) :
    WritesBy (fun src tag => .sourceAck src tag n) (0x5000 + n) 2 (leBytes 1 1) (sourceAck n) id :=
  fun _ _ _ hp => becomes_event rfl (by simp [hn, hp]) rfl

section Ack
variable {c : Chip} {n : Nat}

theorem sourceAck_fatal (h : (getSrc c n).level = 4) : sourceAck n c = (7, c) := if_pos h

theorem sourceAck_below (h : (getSrc c n).level ≠ 4) :
    sourceAck n c = (0, setSrc c n { getSrc c n with level := 0, timerOn := false, timer := 0, endTaken := false }) := if_neg h

theorem sourceAck_completes (h : (getSrc c n).level ≠ 4) : (sourceAck n c).1 = 0 ∧ (getSrc (sourceAck n c).2 n).level = 0 := by simp [sourceAck_below h]

end Ack

/-- Both write the source's own registers, and nothing else of Tocsin. -/
theorem ack_clear_toc {n : Nat} {c d : Chip} (h : d = (sourceAck n c).2 ∨ d = (clearSticky n c).2) :
    ∃ x y, d.toc = { c.toc with srcs := x, sticky := y } := by
  rcases h with rfl | rfl
  · by_cases h4 : (getSrc c n).level = 4
    · rw [sourceAck_fatal h4]
      exact ⟨_, _, rfl⟩
    · rw [sourceAck_below h4]
      exact ⟨_, _, rfl⟩
  · exact ⟨_, _, rfl⟩

/-- Settles O51: the row by its handler, the level that ACK leaves, and the tables that neither write touches. -/
theorem ackCompletesBelowFatalAndLeavesFences : Obligations.AckCompletesBelowFatalAndLeavesFences := by
  unfold Obligations.AckCompletesBelowFatalAndLeavesFences
  refine ⟨fun n hn => ⟨(writesBy_sourceAck hn).does fun c h => Prod.ext (sourceAck_completes h).1 rfl, (writesBy_sourceAck hn).turnsAway fun c => sourceAck_fatal⟩,
    fun n c => sourceAck_completes, fun n c d h => ?_⟩
  obtain ⟨x, y, htoc⟩ := ack_clear_toc h
  rw [htoc]
  exact ⟨rfl, rfl, rfl, rfl, rfl⟩

end Sys2Proof.Machine
end

section
/-! The root-of-trust interface and measurement (R375, R376, R378, R383, R386). -/

namespace Sys2Proof.Machine

/-! Values that the spec leaves free. -/

/-- One more word of free bytes. -/
def freeStep (r : Bytes × Chip) : Bytes × Chip :=
  let x := takeFree r.2 64
  (r.1 ++ leBytes 8 x.1, x.2)

theorem foldl_freeStep (l : List Nat) (r : Bytes × Chip) :
    (l.foldl (fun r _ => freeStep r) r).2 = { r.2 with free := r.2.free + l.length } ∧
    (l.foldl (fun r _ => freeStep r) r).1.length = r.1.length + 8 * l.length := by
  induction l generalizing r with
  | nil => exact ⟨rfl, rfl⟩
  | cons x xs ih =>
    obtain ⟨hfree, hlen⟩ := ih (freeStep r)
    rw [List.foldl_cons, hfree, hlen]
    refine ⟨?_, ?_⟩
    · simp [freeStep, takeFree, Nat.add_assoc, Nat.add_comm 1]
    · simp [freeStep]
      omega

theorem freeDigest_spec (c : Chip) : (freeDigest c).2 = { c with free := c.free + 6 } ∧ (freeDigest c).1.length = 48 := foldl_freeStep (upFrom 0 6) ([], c)

theorem takeWords_snd (c : Chip) (n : Nat) : (takeWords c n).2 = { c with free := c.free + n } := by
  induction n with
  | zero => rfl
  | succ n ih => simp only [takeWords, takeFree, ih, Nat.add_assoc]

/-! Requests and responses (R375). -/

/-- A request sent to the root of trust is the one that is out; otherwise only what was sent and the free values taken change. -/
theorem rotSend_spec (c : Chip) (by_ : RotFor) : ∃ o f, rotSend c by_ =
    { c with sec := { c.sec with rot := some ⟨(c.sec.rotTag + 1) % 65536, by_, c.clk.carillon⟩, rotTag := (c.sec.rotTag + 1) % 65536 }, out := o, free := f } := by
  cases by_ with
  | sign t code arg nonce =>
    rw [rotSend, (freeDigest_spec _).1]
    exact ⟨_, _, rfl⟩
  | _ => exact ⟨_, _, rfl⟩

theorem rotAsk_idle {c : Chip} (h : c.sec.rot = none) (by_ : RotFor) : rotAsk c by_ = rotSend c by_ := by simp [rotAsk, h]

theorem rotAsk_busy {c : Chip} {r : RotReq} (h : c.sec.rot = some r) (by_ : RotFor) :
    rotAsk c by_ = { c with sec := { c.sec with rotQueue := c.sec.rotQueue ++ [by_] } } := by simp [rotAsk, h]

theorem becomes_rotResponse {s : State} {tag status : Nat} {payload : Bytes} {c : Chip} (hm : s.boot.mclkRuns = true) (h4 : status < 4)
    (hl : payload.length ≤ 4096) (hp : status = 0 ∨ payload = []) (hc : rotResponse tag status payload s.toChip = c) :
    Becomes (.rotResponse tag status payload) s c := becomes_event rfl (by simpa [hm, h4, hl] using hp) hc

section Response
variable {c : Chip} {r : RotReq} (h : c.sec.rot = some r)
include h

theorem rotResponse_other {tag : Nat} (ht : r.tag ≠ tag) (status : Nat) (payload : Bytes) : rotResponse tag status payload c = c := by
  simp [rotResponse, h, ht]

theorem rotResponse_ok (payload : Bytes) : rotResponse r.tag 0 payload c = rotNext (rotOk { c with sec := { c.sec with rot := none } } r.by_ payload) := by
  simp [rotResponse, h]

theorem rotResponse_failed {status : Nat} (h1 : 1 ≤ status) (payload : Bytes) :
    rotResponse r.tag status payload c = rotNext (rotFail { c with sec := { c.sec with rot := none } } r.by_ (status == 2)) := by
  have h0 : status ≠ 0 := by omega
  simp [rotResponse, h, h0]

end Response

theorem becomes_rotTimeout {s : State} {t : Nat} {r : RotReq} (h : s.sec.rot = some r) (ht : r.sent + 100000000 ≤ nowAt s.toChip t) :
    Becomes (.rotTimeout t) s (rotNext (rotFail { advance s.toChip t with sec := { s.sec with rot := none } } r.by_ false)) := by
  refine becomes_event rfl ?_ ?_
  · rw [h, Option.map_some, Option.getD_some]
    exact decide_eq_true ht
  · simp only [h, advance_sec]

/-! The measurement log and blocks (R383, R386). -/

/-- A model seed response brings the keys and the tenant's second state, whatever the log records. -/
theorem tenantKeys_ten (c : Chip) : (tenantKeys c).sec.ten.state = 2 ∧ (tenantKeys c).sec.ten.xts = some (takeWords c 8).1 := by
  simp only [tenantKeys, takeWords_snd]
  exact ⟨rfl, rfl⟩

theorem writesBy_modelMeasureRequest (v : Nat) :
    WritesBy (fun src tag => .modelMeasureRequest src tag v) 0x6008 2 (leBytes 1 v) (measureRequest (v % 256)) id :=
  fun _ _ _ hp => becomes_event rfl hp rfl

theorem measureRequest_range {v : Nat} (h : v ≠ 1) (c : Chip) : measureRequest v c = (5, c) := by simp [measureRequest, h]

theorem measureRequest_runs {c : Chip} (h : c.sec.meas.state ≠ 1) : measureRequest 1 c = (0, modMeas c fun m => { m with state := 1 }) := if_neg h

theorem measureRequest_busy {c : Chip} (h : c.sec.meas.state = 1) : measureRequest 1 c = (6, c) := if_pos h

theorem becomes_modelMeasureComplete {s : State} {r : MeasureResult} {c : Chip} (h : s.sec.meas.state = 1) (hf : measureFits r s.toChip = true)
    (hc : measureDone r s.toChip = c) : Becomes (.modelMeasureComplete r) s c := becomes_event rfl (by simp [h, hf]) hc

theorem measureFits_contents {c : Chip} {p w : Bytes} (h : badRange c = none) (hp : p.length = kindBytes c 1) (hw : w.length = kindBytes c 2) :
    measureFits (.contents p w) c = true := by simp [measureFits, h, hp, hw]

theorem measureFits_badRange {c : Chip} {k : Nat} (h : badRange c = some k) : measureFits (.badRange k) c = true := by simp [measureFits, h]

/-- Settles O52: the interface by who asks and who answers, the measure request by its handler, the log entry by what it writes. -/
theorem rootOfTrustAndMeasurement : Obligations.RootOfTrustAndMeasurement := by
  unfold Obligations.RootOfTrustAndMeasurement
  refine ⟨fun s tag status payload r hm h4 hl h ht hp => becomes_rotResponse hm h4 hl hp (rotResponse_other h ht status payload),
    fun s payload r hm hl h => becomes_rotResponse hm (by decide) hl (.inl rfl) (rotResponse_ok h payload),
    fun s status r hm h1 h4 h => becomes_rotResponse hm h4 (by decide) (.inr rfl) (rotResponse_failed h h1 []),
    fun s t r h ht => becomes_rotTimeout h ht, fun c by_ h => ?_, fun c by_ r h => rotAsk_busy h by_,
    fun c bs => ⟨rfl, rfl, rfl, rfl, tenantKeys_ten c⟩, (writesBy_modelMeasureRequest 1).does fun c => measureRequest_runs,
    (writesBy_modelMeasureRequest 1).turnsAway fun c => measureRequest_busy,
    fun v hv => (writesBy_modelMeasureRequest v).turnsAway fun c _ => measureRequest_range hv c,
    fun s p w hs hb hp hw => becomes_modelMeasureComplete hs (measureFits_contents hb hp hw) rfl,
    fun s k hs hb => becomes_modelMeasureComplete hs (measureFits_badRange hb) rfl, fun c p w => by simp [measured34, logAdd, blockChanged, modMeas],
    fun c kind idx value d => ⟨rfl, rfl, rfl, rfl, rfl⟩⟩
  obtain ⟨o, f, hsent⟩ := rotSend_spec c by_
  rw [rotAsk_idle h, hsent]
  exact ⟨rfl, rfl⟩

end Sys2Proof.Machine
end

section
/-! Firmware: staging, verification, activation and the counter (R374, R379 to R382). -/

namespace Sys2Proof.Machine

/-! A bundle's state and block 1 (R379, R386). -/

theorem blockChanged_twice (c : Chip) (b : Nat) : blockChanged (blockChanged c b) b = blockChanged c b := by
  simp only [blockChanged, now, tset_tset]

section FwState
variable {c : Chip} {st : Nat} (hs : st ≠ 3) (reason : Nat)
include hs

theorem setFwState_outside (h : c.sec.fw.state ≠ 3) : setFwState c st reason = modFw c fun f => { f with state := st, reason := reason } := by
  simp [setFwState, h, hs]

/-- Block 1 changes with a bundle that is no longer STAGED. -/
theorem setFwState_leaves (h : c.sec.fw.state = 3) :
    setFwState c st reason = blockChanged (modFw c fun f => { f with state := st, reason := reason }) 1 := by simp [setFwState, h, hs]

end FwState

/-- A new state changes the bundle's registers, and block 1 at most. -/
theorem setFwState_spec (c : Chip) (st reason : Nat) : ∃ x, setFwState c st reason = { c with sec := { c.sec with
    fw := { c.sec.fw with state := st, reason := reason }, meas := { c.sec.meas with changed := x } } } := by
  unfold setFwState
  dsimp only
  split <;> exact ⟨_, rfl⟩

/-! Staging (R374). -/

theorem writesBy_stageRequest (payload : Bytes) :
    WritesBy (fun src tag => .stageRequest src tag payload) 0x6000 2 payload (stageRequest (leNat payload)) id :=
  fun _ _ _ hp => becomes_event rfl hp rfl

theorem stageRequest_range {v : Nat} (h : fld v 0 8 % 4096 ≠ 0 ∨ fld v 8 4 = 0 ∨ 6291456 < fld v 8 4 ∨ 1 < fld v 12 1) (c : Chip) :
    stageRequest v c = (5, c) := by
  rcases h with h | h | h | h <;> simp [stageRequest, h]

theorem canIssue_modFw (c : Chip) (f : FwSt → FwSt) (p : HPort) : canIssue (modFw c f) p = canIssue c p := rfl

section Stage
variable {v : Nat} (ha : fld v 0 8 % 4096 = 0) (h1 : 1 ≤ fld v 8 4) (hn : fld v 8 4 ≤ 6291456) (hp : fld v 12 1 ≤ 1) {c : Chip}
include ha h1 hn hp

theorem stageRequest_turnedAway (h : stageStatus c ≠ 0) : stageRequest v c = (stageStatus c, c) := by
  simp [stageRequest, ha, Nat.one_le_iff_ne_zero.mp h1, Nat.not_lt.mpr hn, Nat.not_lt.mpr hp, h]

theorem stageRequest_reads (h : stageStatus c = 0) (h3 : c.sec.fw.state ≠ 3) (hi : canIssue c (portOf (fld v 12 1 == 1)) = true) :
    stageRequest v c = (0, emit (modFw c fun f => { f with
      state := 1, reason := 0, staged := [], stagePort := portOf (fld v 12 1 == 1), stageLen := fld v 8 4 })
      (.hostRead (portOf (fld v 12 1 == 1)) (fld v 0 8) (fld v 8 4))) := by
  simp only [stageRequest, ha, Nat.one_le_iff_ne_zero.mp h1, Nat.not_lt.mpr hn, Nat.not_lt.mpr hp, h, setFwState_outside (by decide : 1 ≠ 3) 0 h3,
    bne_self_eq_false, Bool.false_eq_true, decide_false, Bool.or_false, if_false, canIssue_modFw, hi, if_true]
  rfl

end Stage

section StageStatus
variable {c : Chip}

theorem stageStatus_ending (h : tenantEnding c = true) : stageStatus c = 7 := if_pos h

theorem stageStatus_busy (ht : tenantEnding c = false) (h : c.sec.fw.state = 1 ∨ c.sec.fw.state = 2 ∨ c.sec.fw.state = 5) : stageStatus c = 6 := by
  simp [stageStatus, ht, h, or_assoc]

theorem stageStatus_free (ht : tenantEnding c = false) (h1 : c.sec.fw.state ≠ 1) (h2 : c.sec.fw.state ≠ 2) (h5 : c.sec.fw.state ≠ 5) : stageStatus c = 0 := by
  simp [stageStatus, ht, h1, h2, h5]

end StageStatus

theorem stageDone_data {c : Chip} (h : c.sec.fw.state = 1) (hn : c.sec.fw.stageLen ≠ 0) (bs : Bytes) :
    stageDone (.data bs) c = modFw (logRead c c.sec.fw.stagePort (.data bs)) fun f => { f with state := 0, reason := 0, staged := bs } := by
  have hlog : (logRead c c.sec.fw.stagePort (.data bs)).sec = c.sec := rfl
  have h3 : (modFw (logRead c c.sec.fw.stagePort (.data bs)) fun f => { f with staged := bs }).sec.fw.state ≠ 3 := by
    rw [modFw, hlog]
    simp [h]
  simp only [stageDone, if_neg hn, hlog]
  rw [setFwState_outside (by decide) 0 h3]
  rfl

/-! The commands on a bundle (R379, R380). -/

theorem writesBy_firmwareVerify : WritesBy (fun src tag => .firmwareVerify src tag) 0x6000 5 (leBytes 1 1) firmwareVerify id :=
  fun _ _ _ hp => becomes_event rfl hp rfl

theorem writesBy_firmwareDiscard : WritesBy (fun src tag => .firmwareDiscard src tag) 0x6000 5 (leBytes 1 3) firmwareDiscard id :=
  fun _ _ _ hp => becomes_event rfl hp rfl

theorem writesBy_firmwareActivate : WritesBy (fun src tag => .firmwareActivate src tag) 0x6000 5 (leBytes 1 2) firmwareActivate id :=
  fun _ _ _ hp => becomes_event rfl hp rfl

section Commands
variable {c : Chip}

theorem firmwareVerify_asks (h : c.sec.fw.state = 0 ∨ c.sec.fw.state = 4) : firmwareVerify c =
    (0, rotAsk (rotAsk (modFw c fun f => { f with state := 2, reason := 0, sigOk := 0 }) .verifySig) .counterRead) := by
  have h3 : c.sec.fw.state ≠ 3 := by omega
  have hidle : ¬ (c.sec.fw.state = 1 ∨ c.sec.fw.state = 2 ∨ c.sec.fw.state = 5) := by omega
  rw [firmwareVerify, setFwState_outside (by decide) 0 h3]
  exact if_neg (by simpa [or_assoc] using hidle)

theorem firmwareVerify_turnedAway (h : c.sec.fw.state = 1 ∨ c.sec.fw.state = 2 ∨ c.sec.fw.state = 5) : firmwareVerify c = (7, c) :=
  if_pos (by simpa [or_assoc] using h)

theorem firmwareDiscard_failed (h : c.sec.fw.state = 4) :
    firmwareDiscard c = (0, modFw c fun f => { f with state := 0, reason := 0, staged := [], version := 0, svn := 0 }) := by
  rw [firmwareDiscard, setFwState_outside (by decide) 0 (by omega)]
  exact if_neg (by simp [h])

theorem firmwareDiscard_staged (h : c.sec.fw.state = 3) :
    firmwareDiscard c = (0, modFw (blockChanged c 1) fun f => { f with state := 0, reason := 0, staged := [], version := 0, svn := 0 }) := by
  rw [firmwareDiscard, setFwState_leaves (by decide) 0 h]
  exact if_neg (by simp [h])

theorem firmwareDiscard_turnedAway (h : c.sec.fw.state ≠ 3 ∧ c.sec.fw.state ≠ 4) : firmwareDiscard c = (7, c) := if_pos (by simp [h])

theorem firmwareActivate_staged (h : c.sec.fw.state = 3) (hb : c.mode ≠ .boot) (hd : c.mode ≠ .doublet) (ht : tenantEnding c = false) :
    firmwareActivate c = (0, blockChanged (modFw c fun f => { f with state := 5, reason := 0 }) 1) := by
  have hboot : (c.mode == .boot) = false := beq_eq_false_iff_ne.mpr hb
  have hdoublet : (c.mode == .doublet) = false := beq_eq_false_iff_ne.mpr hd
  rw [firmwareActivate, setFwState_leaves (by decide) 0 h, blockChanged_twice]
  simp [h, hboot, hdoublet, ht]

theorem firmwareActivate_turnedAway (h : c.sec.fw.state ≠ 3 ∨ c.mode = .boot ∨ tenantEnding c = true) : firmwareActivate c = (7, c) :=
  if_pos (by simpa [or_assoc] using h)

end Commands

/-! Verification (R379). -/

theorem failed_else_eq_zero {p : Prop} [Decidable p] {n x : Nat} : (if p then n + 1 else x) = 0 ↔ ¬ p ∧ x = 0 := by split <;> simp [*]

section Verify
variable (c : Chip) (b : Bytes) (ok : Bool)

/-- The checks are made in order, and the first that fails is the reason. -/
theorem verifyReason_passes : verifyReason c b ok = 0 ↔
    bundleFormed b = true ∧ c.sec.fw.sigOk = 1 ∧ c.sec.fw.counter ≤ bfld b 8 4 ∧ blocksOk b = true ∧ bfld b 20 1 ≤ 0x11 ∧ ok = true := by
  have hsig : c.sec.fw.sigOk ≠ 2 ∧ c.sec.fw.sigOk = 1 ↔ c.sec.fw.sigOk = 1 := by omega
  simp only [verifyReason, failed_else_eq_zero, Bool.not_eq_true', Bool.not_eq_false, Nat.not_lt, bne_iff_ne, not_not, and_true]
  tauto

theorem verifyReason_form (h : bundleFormed b = false) : verifyReason c b ok = 1 := by simp [verifyReason, h]

variable (h : bundleFormed b = true)
include h

theorem verifyReason_signature (hs : c.sec.fw.sigOk = 2) : verifyReason c b ok = 2 := by simp [verifyReason, h, hs]

theorem verifyReason_counter (hs : c.sec.fw.sigOk = 1) (hc : bfld b 8 4 < c.sec.fw.counter) : verifyReason c b ok = 3 := by simp [verifyReason, h, hs, hc]

end Verify

/-! Activation and the counter (R380 to R382). -/

theorem activationChecked_failed {c : Chip} (h : c.sec.fw.state = 5) : activationChecked false c =
    logAdd (blockChanged (raiseEv (modFw c fun f => { f with state := 4, reason := 8 }) 186 0 2 0) 1) 7 1 8 [] := by
  rw [activationChecked, setFwState_outside (by decide) 8 (by omega)]
  rfl

theorem becomes_activationLoadChecked {s : State} {ok : Bool} {c : Chip} (h : s.sec.fw.state = 5) (hw : s.sec.fw.window = false)
    (hc : activationChecked ok s.toChip = c) : Becomes (.activationLoadChecked ok) s c := becomes_event rfl (by simp [h, hw]) hc

/-- A request to the root of trust, sent or queued, writes the interface's own state; what was sent and the free values taken change too. -/
theorem rotAsk_spec (c : Chip) (by_ : RotFor) : ∃ r q t o f, rotAsk c by_ =
    { c with sec := { c.sec with rot := r, rotQueue := q, rotTag := t }, out := o, free := f } := by
  cases h : c.sec.rot with
  | none =>
    obtain ⟨o, f, hsent⟩ := rotSend_spec c by_
    rw [rotAsk_idle h, hsent]
    exact ⟨_, _, _, _, _, rfl⟩
  | some r =>
    rw [rotAsk_busy h]
    exact ⟨_, _, _, _, _, rfl⟩

/-- Answering a kept request leaves the security state and the mode. -/
theorem answerBad_keeps (c : Chip) (p : HPort) : (answerBad c p).sec = c.sec ∧ (answerBad c p).mode = c.mode := by
  unfold answerBad
  split
  · split
    · next rq _ _ =>
      obtain ⟨d, o, pe, ob, hr, -⟩ := respond_spec c (.mbox p) rq (atOnceStatus c (.mbox p) rq) (totalOf c rq) []
      rw [hr]
      exact ⟨rfl, rfl⟩
    · exact ⟨rfl, rfl⟩
  · exact ⟨rfl, rfl⟩

/-- The window's close as it is recorded, before the counter is raised. -/
def windowRecorded (c : Chip) : Chip :=
  let c := modFw (setFwState c 0 0) fun f => { f with window := false, staged := [], version := 0, svn := 0 }
  logAdd (blockChanged c 1) 1 1 c.sec.fw.runVersion (bundleDigest c.sec.fw.running)

theorem windowRecorded_spec (c : Chip) : (windowRecorded c).sec.fw = { c.sec.fw with state := 0, reason := 0, window := false, staged := [], version := 0, svn := 0 }
    ∧ (windowRecorded c).sec.meas.logTotal = c.sec.meas.logTotal + 1 ∧ (windowRecorded c).mode = c.mode := by
  obtain ⟨x, hx⟩ := setFwState_spec c 0 0
  simp only [windowRecorded, hx]
  exact ⟨rfl, rfl, rfl⟩

/-- The counter is to be raised when the running bundle's SVN exceeds it. -/
def counterAsked (c : Chip) : Chip :=
  if c.sec.fw.counter < c.sec.fw.runSvn then rotAsk (modFw c fun f => { f with raise := true, raiseAt := now c + 100000000 }) .counterRaise else c

theorem counterAsked_spec (c : Chip) : ∃ a, (counterAsked c).sec.fw = { c.sec.fw with raise := c.sec.fw.raise || decide (c.sec.fw.counter < c.sec.fw.runSvn), raiseAt := a }
    ∧ (counterAsked c).sec.meas = c.sec.meas ∧ (counterAsked c).mode = c.mode := by
  unfold counterAsked
  split
  · next h =>
    obtain ⟨r, q, t, o, f, hask⟩ := rotAsk_spec (modFw c fun f => { f with raise := true, raiseAt := now c + 100000000 }) .counterRaise
    rw [hask, decide_eq_true h, Bool.or_true]
    exact ⟨_, rfl, rfl, rfl⟩
  · next h =>
    rw [decide_eq_false h, Bool.or_false]
    exact ⟨_, rfl, rfl, rfl⟩

theorem windowClose_eq (c : Chip) : windowClose c = answerBad (answerBad (counterAsked (windowRecorded c)) .a) .b := rfl

theorem windowClose_keeps (c : Chip) : (windowClose c).sec = (counterAsked (windowRecorded c)).sec ∧ (windowClose c).mode = c.mode := by
  obtain ⟨hseca, hmodea⟩ := answerBad_keeps (counterAsked (windowRecorded c)) .a
  obtain ⟨hsecb, hmodeb⟩ := answerBad_keeps (answerBad (counterAsked (windowRecorded c)) .a) .b
  obtain ⟨-, -, -, hasked⟩ := counterAsked_spec (windowRecorded c)
  obtain ⟨-, -, hrecorded⟩ := windowRecorded_spec c
  rw [windowClose_eq]
  exact ⟨hsecb.trans hseca, hmodeb.trans (hmodea.trans (hasked.trans hrecorded))⟩

/-- Settles O53: staging, the three commands, verification, activation and its window, each by its lemma above. -/
theorem firmwareIsStagedVerifiedActivated : Obligations.FirmwareIsStagedVerifiedActivated := by
  unfold Obligations.FirmwareIsStagedVerifiedActivated
  refine ⟨fun payload ha h1 hn hp => ⟨(writesBy_stageRequest payload).does fun c ⟨ht, hs1, hs2, hs3, hs5, hi⟩ =>
        stageRequest_reads ha h1 hn hp (stageStatus_free ht hs1 hs2 hs5) hs3 hi,
      (writesBy_stageRequest payload).turnsAway fun c ht => ?_, (writesBy_stageRequest payload).turnsAway fun c ⟨ht, hs⟩ => ?_⟩,
    fun payload h => (writesBy_stageRequest payload).turnsAway fun c _ => stageRequest_range h c,
    fun s bs h hn hl => becomes_event rfl (by simp [h, rdFits, hl]) (stageDone_data h hn bs),
    writesBy_firmwareVerify.does fun c => firmwareVerify_asks, writesBy_firmwareVerify.turnsAway fun c => firmwareVerify_turnedAway,
    fun s flashOk h hp => becomes_event rfl (by simp [h, hp]) rfl, verifyReason_passes,
    fun c b ok => ⟨verifyReason_form c b ok, verifyReason_signature c b ok, verifyReason_counter c b ok⟩,
    writesBy_firmwareDiscard.does fun c => firmwareDiscard_failed, writesBy_firmwareDiscard.does fun c => firmwareDiscard_staged,
    writesBy_firmwareDiscard.turnsAway fun c => firmwareDiscard_turnedAway,
    writesBy_firmwareActivate.does fun c ⟨h, hb, hd, ht⟩ => firmwareActivate_staged h hb hd ht,
    writesBy_firmwareActivate.turnsAway fun c => firmwareActivate_turnedAway,
    fun s h hw => ⟨becomes_activationLoadChecked h hw rfl, becomes_activationLoadChecked h hw (activationChecked_failed h)⟩,
    fun s h => becomes_event rfl h rfl, fun c => ?_, fun s t h ht hp => becomes_event rfl ?_ rfl⟩
  · rw [stageRequest_turnedAway ha h1 hn hp (by rw [stageStatus_ending ht]; decide), stageStatus_ending ht]
  · rw [stageRequest_turnedAway ha h1 hn hp (by rw [stageStatus_busy ht hs]; decide), stageStatus_busy ht hs]
  · obtain ⟨hsec, hmode⟩ := windowClose_keeps c
    obtain ⟨a, hfw, hmeas, -⟩ := counterAsked_spec (windowRecorded c)
    obtain ⟨hrec, hlog, -⟩ := windowRecorded_spec c
    rw [hsec, hfw, hmeas, hrec, hlog]
    exact ⟨rfl, rfl, rfl, rfl, rfl, rfl, hmode⟩
  · rw [h, hp]
    exact Bool.and_eq_true_iff.mpr ⟨Bool.and_eq_true_iff.mpr ⟨rfl, decide_eq_true ht⟩, rfl⟩

end Sys2Proof.Machine
end

section
/-! SPDM and IDE key management (R384, R387 to R389). -/

namespace Sys2Proof.Machine

/-! An SPDM request, by what the unit can do with it (R384). -/

section Spdm
variable {i : Instr} {n : String} {s : State} {t : Transport} {f : Chip → Chip}
  (he : exec i s = event n (spdmReach s.toChip t) (spdmServe t f s.toChip) s) (hr : spdmReach s.toChip t = true)
include he hr

theorem becomes_spdm_boot (hm : s.mode = .boot) : Becomes i s s.toChip := becomes_event he hr (by simp [spdmServe, hm])

variable (hm : s.mode ≠ .boot)
include hm

theorem becomes_spdm_window (hw : s.sec.fw.window = true) : Becomes i s (emit s.toChip (.spdm t 0x7F [0x42, 15, 1])) :=
  becomes_event he hr (by simp [spdmServe, spdmSend, hm, hw])

theorem becomes_spdm_served (hw : s.sec.fw.window = false) {c : Chip} (hc : f s.toChip = c) : Becomes i s c :=
  becomes_event he hr (by simp [spdmServe, hm, hw, hc])

end Spdm

/-! The requests that have a refused form. -/

theorem exec_getCertificate (t : Transport) (slot off len : Nat) (s : State) : exec (.getCertificate t slot off len) s =
    event "GET_CERTIFICATE" (spdmReach s.toChip t) (spdmServe t (fun c => if slot = 0 then rotAsk c (.cert t off len) else spdmError c t 1) s.toChip) s := rfl

theorem exec_challenge (t : Transport) (slot : Nat) (s : State) : exec (.challenge t slot) s =
    event "CHALLENGE" (spdmReach s.toChip t) (spdmServe t (fun c => if slot = 0 then rotAsk c (.random t 3 0) else spdmError c t 1) s.toChip) s := rfl

theorem exec_getMeasurements (t : Transport) (block : Nat) (s : State) : exec (.getMeasurements t block) s = event "GET_MEASUREMENTS" (spdmReach s.toChip t)
    (spdmServe t (fun c => if (1 ≤ block && block ≤ 8) || block == 0xFF then rotAsk c (.random t 0x60 block) else spdmError c t 1) s.toChip) s := rfl

theorem exec_keyExchange (t : Transport) (s : State) : exec (.keyExchange t) s = event "KEY_EXCHANGE" (spdmReach s.toChip t)
    (spdmServe t (fun c => if sessionsOf c t + handshakesOf c t < 2 then rotAsk c (.random t 0x64 0) else spdmError c t 0xA) s.toChip) s := rfl

theorem exec_finish (t : Transport) (s : State) : exec (.finish t) s = event "FINISH" (spdmReach s.toChip t)
    (spdmServe t (fun c => if handshakesOf c t = 0 then spdmError c t 4
      else spdmSend (setSessions c t (min 2 (sessionsOf c t + 1)) (handshakesOf c t - 1)) t 0x65 []) s.toChip) s := rfl

theorem exec_endSession (t : Transport) (s : State) : exec (.endSession t) s = event "END_SESSION" (spdmReach s.toChip t)
    (spdmServe t (fun c => if sessionsOf c t = 0 then spdmError c t 4
      else spdmSend (setSessions c t (sessionsOf c t - 1) (handshakesOf c t)) t 0x6C []) s.toChip) s := rfl

theorem digests_sent (c : Chip) (t : Transport) : spdmSend (freeDigest c).2 t 1 (freeDigest c).1 = emit { c with free := c.free + 6 } (.spdm t 1 (freeDigest c).1) := by
  rw [(freeDigest_spec c).1]
  rfl

theorem finish_handshake {c : Chip} {t : Transport} (h : handshakesOf c t ≠ 0) (hs : sessionsOf c t < 2) :
    (if handshakesOf c t = 0 then spdmError c t 4 else spdmSend (setSessions c t (min 2 (sessionsOf c t + 1)) (handshakesOf c t - 1)) t 0x65 []) =
      emit (setSessions c t (sessionsOf c t + 1) (handshakesOf c t - 1)) (.spdm t 0x65 []) := by
  rw [if_neg h, Nat.min_eq_right hs]
  rfl

/-- Outside a session a message of the session is refused, in one it is answered. -/
theorem inSession_none {c : Chip} {t : Transport} (h : sessionsOf c t = 0) (code : Nat) : inSession t code c = emit c (.spdm t 0x7F [4]) := if_pos h

theorem inSession_open {c : Chip} {t : Transport} (h : sessionsOf c t ≠ 0) (code : Nat) : inSession t code c = emit c (.spdm t code []) := if_neg h

/-- Which measurement blocks a request can ask for. -/
theorem measurementsAsked_iff (block : Nat) : ((1 ≤ block && block ≤ 8) || block == 0xFF) = true ↔ (1 ≤ block ∧ block ≤ 8) ∨ block = 0xFF := by simp

theorem blockValue_loader {c : Chip} {i : Nat} (hl : c.sec.fw.loader = true) (h2 : 2 ≤ i) (h5 : i ≤ 5) : blockValue c i = zeros 48 := by
  have h1 : i ≠ 1 := by omega
  have h6 : i ≠ 6 := by omega
  have h6' : i ≤ 6 := by omega
  simp [blockValue, hl, h2, h1, h6, h6']

/-! Key management in a session on the port's own DOE (R388, R389). -/

section Ide
variable {i : Instr} {n : String} {s : State} {p : HPort} {f : Chip → Chip}
  (he : exec i s = event n (spdmReach s.toChip (.doe p)) (ideServe p f s.toChip) s) (hr : spdmReach s.toChip (.doe p) = true)
  (hm : s.mode ≠ .boot) (hw : s.sec.fw.window = false)
include he hr hm hw

theorem becomes_ide_served (hs : sessionsOf s.toChip (.doe p) ≠ 0) {c : Chip} (hc : f s.toChip = c) : Becomes i s c :=
  becomes_spdm_served he hr hm hw ((if_neg hs).trans hc)

theorem becomes_ide_noSession (hs : sessionsOf s.toChip (.doe p) = 0) : Becomes i s (emit s.toChip (.spdm (.doe p) 0x7F [4])) :=
  becomes_spdm_served he hr hm hw (if_pos hs)

end Ide

section Keys
variable {c : Chip} {p : HPort} {stream : Nat} {set : Bool}

theorem keyProg_kept (h5 : stream < 5) (ht : tenantEnding c = false) (key : Nat) : keyProg p stream set key c =
    emit { c with sec := { c.sec with spdm := { c.sec.spdm with keys := tset c.sec.spdm.keys (ideKey p stream set) (2 * key) } } } (.spdm (.doe p) 0x103 [0]) :=
  if_neg (by simp [ht, h5])

theorem keyProg_refused (h : 5 ≤ stream ∨ tenantEnding c = true) (key : Nat) : keyProg p stream set key c = emit c (.spdm (.doe p) 0x103 [1]) :=
  if_pos (by simpa [or_comm] using h)

theorem kSetGo_secures {k : Nat} (h5 : stream < 5) (ht : tenantEnding c = false) (hk : tget c.sec.spdm.keys (ideKey p stream set) = some k) :
    kSetGo p stream set c = emit { c with sec := { c.sec with spdm := { c.sec.spdm with
      streams := setBit c.sec.spdm.streams (5 * portNo p + stream) true
      keys := tmod (tset c.sec.spdm.keys (ideKey p stream set) (k / 2 * 2 + 1)) (ideKey p stream (!set)) fun x => x / 2 * 2 } } } (.spdm (.doe p) 0x106 [0]) := by
  simp only [kSetGo, hk]
  exact if_neg (by simp [ht, h5])

theorem kSetGo_refused (h : tget c.sec.spdm.keys (ideKey p stream set) = none ∨ tenantEnding c = true) :
    kSetGo p stream set c = emit c (.spdm (.doe p) 0x106 [1]) := by
  cases hk : tget c.sec.spdm.keys (ideKey p stream set) with
  | none =>
    simp only [kSetGo, hk]
    rfl
  | some k =>
    have ht : tenantEnding c = true := h.resolve_left (by simp [hk])
    simp only [kSetGo, hk]
    exact if_pos (by simp [ht])

/-- The two key sets of a stream are kept apart. -/
theorem ideKey_not_ne (p : HPort) (stream : Nat) (set : Bool) : ideKey p stream (!set) ≠ ideKey p stream set := by
  cases set <;> simp [ideKey, b2n]

theorem ideKey_pair (p : HPort) (stream : Nat) (set : Bool) : ideKey p stream set / 2 * 2 = ideKey p stream false := by
  have hb := b2n_le_one set
  simp only [ideKey, show b2n false = 0 from rfl]
  omega

theorem kSetStop_last {k : Nat} (hk : tget c.sec.spdm.keys (ideKey p stream set) = some k) (ho : tgetD c.sec.spdm.keys (ideKey p stream (!set)) 0 % 2 = 0) :
    kSetStop p stream set c = emit { c with sec := { c.sec with spdm := { c.sec.spdm with
      streams := setBit c.sec.spdm.streams (5 * portNo p + stream) false
      keys := tset c.sec.spdm.keys (ideKey p stream set) (k / 2 * 2) } } } (.spdm (.doe p) 0x106 [0]) := by
  have hother : tgetD (tset c.sec.spdm.keys (ideKey p stream set) (k / 2 * 2)) (ideKey p stream (!set)) 0 % 2 = 0 := by
    rwa [tgetD, tget_tset_ne _ _ (ideKey_not_ne p stream set)]
  simp only [kSetStop, hk, hother, Nat.reduceBEq, Bool.and_false]
  rfl

theorem kSetStop_refused (hk : tget c.sec.spdm.keys (ideKey p stream set) = none) : kSetStop p stream set c = emit c (.spdm (.doe p) 0x106 [1]) := by
  simp only [kSetStop, hk]
  rfl

end Keys

/-! A failed IDE check (R389). -/

theorem tget_filter_none {α : Type} {t : Tab α} {ok : Nat × α → Bool} {k : Nat} (h : ∀ v, ok (k, v) = false) : tget (t.filter ok) k = none := by
  induction t with
  | nil => rfl
  | cons x r ih =>
    obtain ⟨j, v⟩ := x
    by_cases hj : j = k
    · rw [hj, List.filter_cons_of_neg (by simp [h]), ih]
    · rw [List.filter_cons]
      split
      · rw [tget, if_neg hj, ih]
      · exact ih

/-- A failed check forgets both of the stream's key sets. -/
theorem ideFail_spec (c : Chip) (p : HPort) (stream : Nat) : bit (ideFail p stream c).sec.spdm.streams (5 * portNo p + stream) = false
    ∧ (ideFail p stream c).toc.raised = c.toc.raised ++ [⟨19 + 8 * portNo p, stream, 2, 0⟩]
    ∧ ∀ set, tget (ideFail p stream c).sec.spdm.keys (ideKey p stream set) = none := by
  refine ⟨bit_setBit_false .., rfl, fun set => tget_filter_none fun v => ?_⟩
  simp [ideKey_pair]

/-- Settles O55: requests by whether the unit serves them, sessions by their counts, keys by their sets. -/
theorem spdmAndIdeAnswer : Obligations.SpdmAndIdeAnswer := by
  unfold Obligations.SpdmAndIdeAnswer
  refine ⟨fun s t hr hm => ⟨becomes_spdm_boot rfl hr hm, becomes_spdm_boot rfl hr hm, becomes_spdm_boot rfl hr hm, becomes_spdm_boot rfl hr hm,
      becomes_spdm_boot rfl hr hm, becomes_spdm_boot rfl hr hm, becomes_spdm_boot rfl hr hm, becomes_spdm_boot rfl hr hm, becomes_spdm_boot rfl hr hm⟩,
    fun s t hr hm hw => ⟨becomes_spdm_window rfl hr hm hw, fun block => becomes_spdm_window rfl hr hm hw⟩, fun s t hr hm hw => ?_,
    fun c i => blockValue_loader, fun s p hr hm hw hs => ?_,
    fun s p hr hm hw hs => ⟨becomes_ide_noSession rfl hr hm hw hs, fun stream set key => becomes_ide_noSession rfl hr hm hw hs⟩,
    fun s p stream h5 hsec => becomes_event rfl (by simp [h5, hsec]) rfl, fun c p stream _ => ideFail_spec c p stream⟩
  · exact ⟨becomes_spdm_served rfl hr hm hw rfl,
      ⟨leBytes 4 (takeFree s.toChip 32).1, length_leBytes .., becomes_spdm_served rfl hr hm hw rfl⟩,
      ⟨leBytes 8 (takeFree s.toChip 64).1, length_leBytes .., becomes_spdm_served rfl hr hm hw rfl⟩,
      ⟨_, (freeDigest_spec s.toChip).2, becomes_spdm_served rfl hr hm hw (digests_sent s.toChip t)⟩,
      fun off len => becomes_spdm_served (exec_getCertificate t 0 off len s) hr hm hw (if_pos rfl),
      fun slot off len h => becomes_spdm_served (exec_getCertificate t slot off len s) hr hm hw (if_neg h),
      becomes_spdm_served (exec_challenge t 0 s) hr hm hw (if_pos rfl), fun slot h => becomes_spdm_served (exec_challenge t slot s) hr hm hw (if_neg h),
      fun block h => becomes_spdm_served (exec_getMeasurements t block s) hr hm hw (if_pos ((measurementsAsked_iff block).mpr h)),
      fun block h => becomes_spdm_served (exec_getMeasurements t block s) hr hm hw (if_neg (mt (measurementsAsked_iff block).mp (by omega))),
      fun h => becomes_spdm_served (exec_keyExchange t s) hr hm hw (if_pos h),
      fun h => becomes_spdm_served (exec_keyExchange t s) hr hm hw (if_neg (Nat.not_lt.mpr h)),
      fun h hs => becomes_spdm_served (exec_finish t s) hr hm hw (finish_handshake h hs), fun h => becomes_spdm_served (exec_finish t s) hr hm hw (if_pos h),
      fun h => ⟨becomes_spdm_served (exec_endSession t s) hr hm hw (if_neg h), becomes_spdm_served rfl hr hm hw (inSession_open h _), becomes_spdm_served rfl hr hm hw (inSession_open h _)⟩,
      fun h => ⟨becomes_spdm_served (exec_endSession t s) hr hm hw (if_pos h), becomes_spdm_served rfl hr hm hw (inSession_none h _), becomes_spdm_served rfl hr hm hw (inSession_none h _)⟩⟩
  · exact ⟨becomes_ide_served rfl hr hm hw hs rfl, fun stream set key h5 ht => becomes_ide_served rfl hr hm hw hs (keyProg_kept h5 ht key),
      fun stream set key h => becomes_ide_served rfl hr hm hw hs (keyProg_refused h key),
      fun stream set k h5 ht hk => becomes_ide_served rfl hr hm hw hs (kSetGo_secures h5 ht hk),
      fun stream set h => becomes_ide_served rfl hr hm hw hs (kSetGo_refused h),
      fun stream set k hk ho => becomes_ide_served rfl hr hm hw hs (kSetStop_last hk ho),
      fun stream set hk => becomes_ide_served rfl hr hm hw hs (kSetStop_refused hk)⟩

end Sys2Proof.Machine
end
